-- ==== Sys2Proof/Word.lean ====
section
/-! DEFINITION. The word types of the lines: a byte and a 16-bit word (11, R181, R188). -/

namespace Sys2Proof

/-- One byte on the host link or on a crane link (R181, R187). -/
abbrev Byte := BitVec 8

/-- A 16-bit word: a CRC (R181). -/
abbrev Word16 := BitVec 16

end Sys2Proof
end

