-- ==== Sys2Proof/Syntax.lean ====
section
/-! DEFINITION. The commands of the YC420: one constructor of `Instr` per row of spec/opcode_table.json,
with the types of their operands. Request bodies are given by their fields, in the order in which the
rule of the request names them (log 4, 7). -/

namespace Sys2Proof

/-! ## Names -/

/-- The numbers 1 to 4: cranes C1 to C4, ports CL1 to CL4, bays T1 to T4 (00_scope.md Table 0-4). -/
inductive Num4 where
  | n1 | n2 | n3 | n4
  deriving DecidableEq, Repr

/-- A crane number, and the number of its port (R86). -/
abbrev CraneId := Num4
/-- A bay number (R6). -/
abbrev BayId := Num4

/-- The runways A and B (R1). -/
inductive RunwayId where
  | a | b
  deriving DecidableEq, Repr

/-- A field that should hold one of a set of names: a name of the set, or a code outside it
(log 5: the codes of most sets are not in the spec). -/
inductive Coded (α : Type) where
  | known (v : α)
  | other (code : Nat)
  deriving DecidableEq, Repr

/-- The body of a request as the part judges it (R184 check 2): its fields, or a wrong length. The form
`badSelector` is of the eight kinds that stand in two rows: the field that says which row (operation,
scope, mode) holds a code outside its set (R10, R36, R37, R84; log 6). -/
inductive Body (α : Type) where
  | fields (v : α)
  | badSelector (code : Nat)
  | badLength (length : Nat)
  deriving DecidableEq, Repr

/-- HALT modes (R80). -/
inductive HaltMode where
  | soft | hard
  deriving DecidableEq, Repr

/-- Curtain modes of a bay (R144). -/
inductive CurtainMode where
  | level | latched
  deriving DecidableEq, Repr

/-- Kinds of load plan, and of plan entry (R152, R153). -/
inductive PlanKind where
  | load | unload
  deriving DecidableEq, Repr

/-- The 18 input functions (Table 9-1). -/
inductive InputFn where
  | ref (c : CraneId)
  | estop (r : RunwayId)
  | curtain (b : BayId)
  | driver (b : BayId)
  | chocks (b : BayId)
  deriving DecidableEq, Repr

/-- Modes of an input function (R167, R168). -/
inductive InputMode where
  | level | rising | falling | any
  deriving DecidableEq, Repr

/-- The 14 output signals (Table 9-2). -/
inductive Signal where
  | runEnable (c : CraneId)
  | beacon (c : CraneId)
  | gateLock (b : BayId)
  | fault
  | yardRun
  deriving DecidableEq, Repr

/-- Modes of an output line (R169). -/
inductive OutputMode where
  | off | on | signal | inverted | released
  deriving DecidableEq, Repr

/-- Beacon modes (R172). -/
inductive BeaconMode where
  | auto | host
  deriving DecidableEq, Repr

/-- The 16 fault kinds (Table 10-1). -/
inductive FaultKind where
  | linkLost | positionJump | refDrift | orderConflict | overspeed | driveFault
  | overload | underload | cellSaturated | zeroDrift
  | bayIntrusion | estop | hostSilent | noticeLost | powerUp | restarted
  deriving DecidableEq, Repr

/-- Fault latch modes (Table 1-4, R176). -/
inductive LatchMode where
  | realTime | latched
  deriving DecidableEq, Repr

/-- Host-silence periods (Table 1-4, R186). -/
inductive SilencePeriod where
  | off | s1 | s5 | s20
  deriving DecidableEq, Repr

/-- The 17 global settings (Table 1-4). -/
inductive Setting where
  | faultLatch | hostSilence | linkTimeout | gap | passHeight | posTolerance | jumpLimit
  | refTolerance | weightTolerance | stabilityBand | settleTime | rezeroCount | trailTime
  | beaconStretch | debounce | tier2Penalty | overspeedRecords
  deriving DecidableEq, Repr

/-- The value of a CONFIG-SET pair: a number, a listed value of an enumerated setting, or a value that
is none of them (R8; log 5). -/
inductive SettingValue where
  | number (n : Nat)
  | latch (m : LatchMode)
  | silence (p : SilencePeriod)
  | unlisted (code : Nat)
  deriving DecidableEq, Repr

/-! ## Fields of the requests -/

/-- RUNWAY-DEFINE with SET (R1). -/
structure RunwaySet where
  runway : Coded RunwayId
  length : Nat
  deriving DecidableEq, Repr

/-- CRANE-DEFINE with SET: the fields of Table 1-2 (R2, R3). -/
structure CraneSet where
  crane : Nat
  runway : Coded RunwayId
  order : Nat
  front : Nat
  rear : Nat
  vFull : Nat
  vSlow : Nat
  vCreep : Nat
  decel : Nat
  react : Nat
  xRef : Nat
  capacity : Nat
  gain : Nat
  deriving DecidableEq, Repr

/-- SLOT-DEFINE with SET: the fields of Table 1-3 (R5). -/
structure SlotSet where
  slot : Nat
  runway : Coded RunwayId
  row : Nat
  x : Nat
  y : Nat
  tier : Nat
  dMax : Nat
  mMax : Nat
  group : Nat
  left : Nat
  right : Nat
  deriving DecidableEq, Repr

/-- BAY-DEFINE with SET (R6). -/
structure BaySet where
  bay : Nat
  runway : Coded RunwayId
  xLo : Nat
  xHi : Nat
  kingpinX : Nat
  direction : Int
  trailerY : Nat
  deriving DecidableEq, Repr

/-- One pair of CONFIG-SET (R8). -/
structure SettingPair where
  setting : Coded Setting
  value : SettingValue
  deriving DecidableEq, Repr

/-- COIL-ADD (R33). -/
structure CoilAdd where
  coil : Nat
  width : Nat
  diameter : Nat
  declared : Nat
  group : Nat
  measured : Option Int
  slot : Nat
  deriving DecidableEq, Repr

/-- What SLOT-SUGGEST asks about: mode COIL, mode DESCRIBED, or a mode outside the two (R50). -/
inductive SuggestAbout where
  | coil (id : Nat)
  | described (width diameter weight group : Nat)
  | otherMode (code : Nat)
  deriving DecidableEq, Repr

/-- SLOT-SUGGEST (R50). -/
structure SlotSuggest where
  crane : Nat
  about : SuggestAbout
  deriving DecidableEq, Repr

/-- TASK-SUBMIT: the fields of Table 11-7, in its codes (R56). -/
structure TaskSubmit where
  task : Nat
  crane : Nat
  coil : Nat
  flags : Byte
  srcKind : Nat
  srcNum : Nat
  srcCradle : Nat
  dstKind : Nat
  dstNum : Nat
  dstCradle : Nat
  deriving DecidableEq, Repr

/-- REDIRECT: a task id and a destination in the codes of Table 11-7 (R73, R76; log 28). -/
structure Redirect where
  task : Nat
  dstKind : Nat
  dstNum : Nat
  dstCradle : Nat
  deriving DecidableEq, Repr

/-- The target of HALT and RESUME (R80): CRANE(n), RUNWAY(A or B), ALL, or a code outside the three. -/
inductive HaltTarget where
  | crane (n : Nat)
  | runway (r : Coded RunwayId)
  | all
  | other (code : Nat)
  deriving DecidableEq, Repr

/-- HALT (R80). -/
structure HaltReq where
  target : HaltTarget
  mode : Coded HaltMode
  deriving DecidableEq, Repr

/-- ZERO (R109): a crane number and the FORCE flag, set, clear or neither. -/
structure ZeroReq where
  crane : Nat
  force : Coded Bool
  deriving DecidableEq, Repr

/-- BAY-MODE (R144). -/
structure BayModeReq where
  bay : Nat
  mode : Coded CurtainMode
  deriving DecidableEq, Repr

/-- PLAN-OPEN (R152): the entry count is the length of the list of cradle positions (R184 check 2). -/
structure PlanOpen where
  bay : Nat
  kind : Coded PlanKind
  length : Nat
  eK : Nat
  eA : Nat
  kLim : Nat
  aLim : Nat
  gLim : Nat
  cradles : List Nat
  deriving DecidableEq, Repr

/-- PLAN-ENTRY (R153). -/
structure PlanEntry where
  kind : Coded PlanKind
  cradle : Nat
  coil : Nat
  width : Nat
  diameter : Nat
  declared : Nat
  deriving DecidableEq, Repr

/-- INPUT-ASSIGN (R168): function, selection, invert flag, mode. -/
structure InputAssign where
  fn : Coded InputFn
  selection : Nat
  invert : Coded Bool
  mode : Coded InputMode
  deriving DecidableEq, Repr

/-- OUTPUT-ASSIGN (R170). -/
structure OutputAssign where
  line : Nat
  signal : Nat
  mode : Coded OutputMode
  deriving DecidableEq, Repr

/-- BEACON-SET (R172): for mode HOST the level is on or off; that the field stands in the body for AUTO too is
the model's choice, log 55. -/
structure BeaconSet where
  crane : Nat
  mode : Coded BeaconMode
  level : Coded Bool
  deriving DecidableEq, Repr

/-- The levels of the two baud strap pins (Table 11-1). -/
structure Straps where
  strap1 : Bool
  strap0 : Bool
  deriving DecidableEq, Repr

/-! ## Host frames -/

/-- What a host frame asks: one constructor per request row. -/
inductive Request where
  | runwayDefineSet (b : Body RunwaySet)
  | runwayDefineClear (b : Body (Coded RunwayId))
  | craneDefineSet (b : Body CraneSet)
  | craneDefineClear (b : Body Nat)
  | slotDefineSet (b : Body SlotSet)
  | slotDefineClear (b : Body Nat)
  | bayDefineSet (b : Body BaySet)
  | bayDefineClear (b : Body Nat)
  | configSet (b : Body (List SettingPair))
  | commitLayout (b : Body Unit)
  | openYard (b : Body Unit)
  | closeYard (b : Body Unit)
  | restartAll (b : Body Unit)
  | restartYard (b : Body Unit)
  | coilAdd (b : Body CoilAdd)
  | coilRemove (b : Body Nat)
  | coilQueryOne (b : Body Nat)
  | coilQueryList (b : Body Nat)
  | slotQueryOne (b : Body Nat)
  | slotQueryList (b : Body Nat)
  | slotBlock (b : Body Nat)
  | slotUnblock (b : Body Nat)
  | slotSuggest (b : Body SlotSuggest)
  | taskSubmit (b : Body TaskSubmit)
  | taskCancel (b : Body Nat)
  | retry (b : Body Nat)
  | acceptWeight (b : Body Nat)
  | redirect (b : Body Redirect)
  | taskReturn (b : Body Nat)
  | taskQueryOne (b : Body Nat)
  | taskQueryCrane (b : Body Nat)
  | halt (b : Body HaltReq)
  | resume (b : Body HaltTarget)
  | detach (b : Body Nat)
  | attach (b : Body Nat)
  | craneQuery (b : Body Nat)
  | zero (b : Body ZeroReq)
  | weighReset (b : Body Nat)
  | weighQuery (b : Body Nat)
  | runwayQuery (b : Body (Coded RunwayId))
  | truckArrive (b : Body Nat)
  | truckDepart (b : Body Nat)
  | bayMode (b : Body BayModeReq)
  | bayClear (b : Body Nat)
  | bayAck (b : Body Nat)
  | planOpen (b : Body PlanOpen)
  | planEntry (b : Body PlanEntry)
  | planCancel (b : Body Nat)
  | loadClose (b : Body Nat)
  | bayQuery (b : Body Nat)
  | inputAssign (b : Body InputAssign)
  | outputAssign (b : Body OutputAssign)
  | beaconSet (b : Body BeaconSet)
  | ioQuery (b : Body Unit)
  | status (b : Body Unit)
  | faultReport (b : Body Unit)
  | faultMask (b : Body (List (Coded FaultKind)))
  | unknown (kind : Byte)
  deriving DecidableEq, Repr

/-- A host frame as it waits in the inbound buffer (R182, R183): its tag and what it asks. -/
structure Frame where
  tag : Byte
  request : Request
  deriving DecidableEq, Repr

/-! ## Bytes on a line -/

/-- A gap: the bytes on the line since its last event, and the byte that came too long after them (R182,
R187). -/
structure ByteGap where
  before : List Byte
  late : Byte
  deriving DecidableEq, Repr

/-- A byte error on the host link: the bytes on the line since its last event, then a byte with a stop-bit
error (none) or a length byte above 240 (R182). -/
structure FrameError where
  before : List Byte
  badLength : Option Byte
  deriving DecidableEq, Repr

/-- A byte with a stop-bit error on a crane's port, and the bytes on its line since its last event (R187). -/
structure RecordError where
  port : CraneId
  before : List Byte
  deriving DecidableEq, Repr

/-! ## The commands -/

/-- The commands, one per row of spec/opcode_table.json. A request row carries the tag and the body of
the frame that is taken (R184, log 3). -/
inductive Instr where
  /-- POWER_ON (R17): the straps and the raw levels of lines IN0 to IN31 as the part finds them. -/
  | powerOn (straps : Straps) (lines : BitVec 32)
  | runwayDefineSet (tag : Byte) (b : Body RunwaySet)
  | runwayDefineClear (tag : Byte) (b : Body (Coded RunwayId))
  | craneDefineSet (tag : Byte) (b : Body CraneSet)
  | craneDefineClear (tag : Byte) (b : Body Nat)
  | slotDefineSet (tag : Byte) (b : Body SlotSet)
  | slotDefineClear (tag : Byte) (b : Body Nat)
  | bayDefineSet (tag : Byte) (b : Body BaySet)
  | bayDefineClear (tag : Byte) (b : Body Nat)
  | configSet (tag : Byte) (b : Body (List SettingPair))
  | commitLayout (tag : Byte) (b : Body Unit)
  | openYard (tag : Byte) (b : Body Unit)
  | closeYard (tag : Byte) (b : Body Unit)
  /-- RESTART ALL (R18): the straps are read again (R181). -/
  | restartAll (tag : Byte) (b : Body Unit) (straps : Straps)
  | restartYard (tag : Byte) (b : Body Unit)
  | coilAdd (tag : Byte) (b : Body CoilAdd)
  | coilRemove (tag : Byte) (b : Body Nat)
  | coilQueryOne (tag : Byte) (b : Body Nat)
  | coilQueryList (tag : Byte) (b : Body Nat)
  | slotQueryOne (tag : Byte) (b : Body Nat)
  | slotQueryList (tag : Byte) (b : Body Nat)
  | slotBlock (tag : Byte) (b : Body Nat)
  | slotUnblock (tag : Byte) (b : Body Nat)
  | slotSuggest (tag : Byte) (b : Body SlotSuggest)
  | taskSubmit (tag : Byte) (b : Body TaskSubmit)
  | taskCancel (tag : Byte) (b : Body Nat)
  | retry (tag : Byte) (b : Body Nat)
  | acceptWeight (tag : Byte) (b : Body Nat)
  | redirect (tag : Byte) (b : Body Redirect)
  | taskReturn (tag : Byte) (b : Body Nat)
  | taskQueryOne (tag : Byte) (b : Body Nat)
  | taskQueryCrane (tag : Byte) (b : Body Nat)
  | halt (tag : Byte) (b : Body HaltReq)
  | resume (tag : Byte) (b : Body HaltTarget)
  | detach (tag : Byte) (b : Body Nat)
  | attach (tag : Byte) (b : Body Nat)
  | craneQuery (tag : Byte) (b : Body Nat)
  | zero (tag : Byte) (b : Body ZeroReq)
  | weighReset (tag : Byte) (b : Body Nat)
  | weighQuery (tag : Byte) (b : Body Nat)
  | runwayQuery (tag : Byte) (b : Body (Coded RunwayId))
  | truckArrive (tag : Byte) (b : Body Nat)
  | truckDepart (tag : Byte) (b : Body Nat)
  | bayMode (tag : Byte) (b : Body BayModeReq)
  | bayClear (tag : Byte) (b : Body Nat)
  | bayAck (tag : Byte) (b : Body Nat)
  | planOpen (tag : Byte) (b : Body PlanOpen)
  | planEntry (tag : Byte) (b : Body PlanEntry)
  | planCancel (tag : Byte) (b : Body Nat)
  | loadClose (tag : Byte) (b : Body Nat)
  | bayQuery (tag : Byte) (b : Body Nat)
  | inputAssign (tag : Byte) (b : Body InputAssign)
  | outputAssign (tag : Byte) (b : Body OutputAssign)
  | beaconSet (tag : Byte) (b : Body BeaconSet)
  | ioQuery (tag : Byte) (b : Body Unit)
  | status (tag : Byte) (b : Body Unit)
  | faultReport (tag : Byte) (b : Body Unit)
  | faultMask (tag : Byte) (b : Body (List (Coded FaultKind)))
  /-- UNKNOWN_REQUEST (R184): a taken frame whose kind is no request kind. -/
  | unknownRequest (tag : Byte) (kind : Byte)
  /-- HOST_FRAME_RECEIVED (R182): what the frame asks, and the bytes on the line since its last event, up
  to the frame's second CRC byte. -/
  | hostFrameReceived (tag : Byte) (r : Request) (bytes : List Byte)
  /-- HOST_BYTE_GAP (R182): a byte more than 5 ms late. -/
  | hostByteGap (g : ByteGap)
  | hostFrameSent
  | hostSilenceExpiry
  /-- STATUS_RECORD (R86, R187): the port, and the bytes on its line since its last event, up to the
  record's last (Table 11-13). -/
  | statusRecord (port : CraneId) (bytes : List Byte)
  /-- CRANE_RECORD_GAP (R187): a byte more than 2 ms late. -/
  | craneRecordGap (port : CraneId) (g : ByteGap)
  | commandRecordSent (port : CraneId)
  | linkWatchdogExpiry (c : CraneId)
  | settleDeadlineExpiry (c : CraneId)
  | trailExpiry (b : BayId)
  | stretchExpiry (c : CraneId)
  /-- RAW_LINE_CHANGE (R166): the line and its new raw level. -/
  | rawLineChange (line : Fin 32) (high : Bool)
  | settlingEnd (line : Fin 32)
  | frameByteError (e : FrameError)
  | recordByteError (e : RecordError)
  deriving DecidableEq, Repr

end Sys2Proof
end

