-- ==== Sys2Proof/Config.lean ====
section
/-! DEFINITION. The fixed capacities and constants of the part (00_scope.md Table 0-6 and the chapters
that own them). The spec leaves no result of a command undefined, so no free value stands here. -/

namespace Sys2Proof.Config

/-- Storage slots, index 0 to 1023 (R20). -/
def slotCount : Nat := 1024
/-- Coil records (R21). -/
def coilMax : Nat := 768
/-- Tasks per crane queue, the in-flight head included (R55). -/
def queueMax : Nat := 8
/-- Load plan entries per bay (Table 8-4). -/
def planMax : Nat := 6
/-- Inbound frames waiting (R183). -/
def inboundMax : Nat := 3
/-- Notices queued (R179). -/
def noticeMax : Nat := 32
/-- Samples of a weighing window (R104). -/
def windowMax : Nat := 8
/-- The value at which a 16-bit counter holds (00_scope.md §6.5). -/
def counterMax : Nat := 65535
/-- The largest body length of a host frame (R181). -/
def bodyMax : Nat := 240
/-- Bytes of a status record after its sync byte (R187). -/
def statusBytes : Nat := 20
/-- The largest reaction time of a parameter set, ms (Table 1-2): how far back R98 looks. -/
def reactMax : Nat := 2000
/-- The largest overspeed count (R98). -/
def overMax : Nat := 10
/-- The sync byte of a host frame (R181). -/
def hostSync : Byte := 0xA5#8
/-- The sync byte of a crane record (R187). -/
def craneSync : Byte := 0x5A#8
/-- The load-cell counts at which the cell is saturated (R113). -/
def countMin : Int := -8388608
def countMax : Int := 8388607

end Sys2Proof.Config
end

