-- ==== Sys2Proof/Machine/Types.lean ====
section
/-! DEFINITION. The pieces the units of the part hold (00_scope.md Table 0-2): records, queues, timers,
notices and replies, as plain data. -/

namespace Sys2Proof.Machine

/-- Four like things, one for each number 1 to 4. -/
structure Quad (α : Type) where
  at1 : α
  at2 : α
  at3 : α
  at4 : α
  deriving DecidableEq, Repr

/-- Two like things, one for each runway. -/
structure Duo (α : Type) where
  atA : α
  atB : α
  deriving DecidableEq, Repr

/-! ## Layout and stage unit -/

/-- The yard-wide stage (R10, Table 1-6). -/
inductive Stage where
  | config | inventory | run
  deriving DecidableEq, Repr

/-- A crane parameter set (Table 1-2); the crane number is the key. -/
structure ParamSet where
  runway : RunwayId
  order : Nat
  front : Nat
  rear : Nat
  vFull : Nat
  vSlow : Nat
  vCreep : Nat
  decel : Nat
  react : Nat
  xRef : Nat
  capacity : Nat
  gain : Nat
  deriving DecidableEq, Repr

/-- The geometry of a bay (R6). -/
structure BayGeom where
  runway : RunwayId
  xLo : Nat
  xHi : Nat
  kingpinX : Nat
  direction : Int
  trailerY : Nat
  deriving DecidableEq, Repr

/-- The global settings (Table 1-4). -/
structure Settings where
  faultLatch : LatchMode
  hostSilence : SilencePeriod
  linkTimeout : Nat
  gap : Nat
  passHeight : Nat
  posTolerance : Nat
  jumpLimit : Nat
  refTolerance : Nat
  weightTolerance : Nat
  stabilityBand : Nat
  settleTime : Nat
  rezeroCount : Nat
  trailTime : Nat
  beaconStretch : Nat
  debounce : Nat
  tier2Penalty : Nat
  overspeedRecords : Nat
  deriving DecidableEq, Repr

/-- What the layout and stage unit holds (01); slot geometry stands in the slot table. A crane is
SWAP_PENDING exactly while it has a shadow set (R3). -/
structure Lsu where
  stage : Stage
  runways : Duo (Option Nat)
  active : Quad (Option ParamSet)
  shadow : Quad (Option ParamSet)
  bays : Quad (Option BayGeom)
  settings : Settings
  deriving DecidableEq, Repr

/-! ## Slot map unit -/

/-- The tier of a slot with the fields present for it (Table 1-3). -/
inductive Tier where
  | one (mMax : Nat)
  | two (left right : Nat)
  deriving DecidableEq, Repr

/-- The geometry of a slot (Table 1-3); the slot index is the key. -/
structure SlotGeom where
  runway : RunwayId
  row : Nat
  x : Nat
  y : Nat
  dMax : Nat
  group : Nat
  tier : Tier
  deriving DecidableEq, Repr

/-- The state of a slot, with its occupant when OCCUPIED (Table 2-1). -/
inductive SlotState where
  | free
  | occupied (coil : Nat)
  | blocked
  deriving DecidableEq, Repr

/-- The reservation of a slot (Table 2-1). -/
inductive Reservation where
  | none
  | source (task : Nat)
  | dest (task : Nat)
  deriving DecidableEq, Repr

/-- A slot record (Table 2-1). -/
structure Slot where
  geom : SlotGeom
  state : SlotState
  resv : Reservation
  deriving DecidableEq, Repr

/-- A coil's location (Table 2-3). Its state follows from it: STORED, ON_HOOK or ON_TRUCK (R22). -/
inductive Location where
  | slot (i : Nat)
  | hook (c : CraneId)
  | cradle (b : BayId) (k : Nat)
  deriving DecidableEq, Repr

/-- A coil record (Table 2-3); the coil id is the key. -/
structure Coil where
  width : Nat
  diameter : Nat
  declared : Nat
  measured : Option Int
  group : Nat
  location : Location
  task : Option Nat
  plan : Option BayId
  deriving DecidableEq, Repr

/-- What the fit test and the selector take of a coil (R25, R40): width, diameter, weight, group. -/
structure CoilDesc where
  width : Nat
  diameter : Nat
  weight : Int
  group : Nat
  deriving DecidableEq, Repr

/-- What the slot map unit holds: two tables with strictly rising keys (R20, R21). -/
structure Smu where
  slots : List (Nat × Slot)
  coils : List (Nat × Coil)
  deriving DecidableEq, Repr

/-! ## Task control unit -/

/-- A task's source: a slot or a cradle (Table 4-1). -/
inductive Place where
  | slot (i : Nat)
  | cradle (b : BayId) (k : Nat)
  deriving DecidableEq, Repr

/-- A task's destination (Table 4-1). -/
inductive Dest where
  | auto
  | place (p : Place)
  deriving DecidableEq, Repr

/-- Task kinds (Table 4-2). -/
inductive TaskKind where
  | move | load | unload
  deriving DecidableEq, Repr

/-- Where a task stands in its work: its state, or its held-from state while it is HELD (Table 4-1). -/
inductive Phase where
  | queued | dispatched | picking | weighing | carrying | placing
  deriving DecidableEq, Repr

/-- Hold reasons (Table 4-6). -/
inductive HoldReason where
  | positionMismatch | weightMismatch | weighTimeout | noSlot | axleLimit | planOrder
  | linkLost | referenceLost
  deriving DecidableEq, Repr

/-- A task record (Table 4-1). The task is HELD exactly while `hold` is present; `phase` is then its
held-from state (R71). -/
structure Task where
  id : Nat
  coil : Nat
  kind : TaskKind
  source : Place
  dest : Dest
  priority : Bool
  noVerify : Bool
  phase : Phase
  hold : Option HoldReason
  deadline : Option Nat
  offered : Option Int
  fresh : Bool
  deriving DecidableEq, Repr

/-- What the task control unit holds (04). -/
structure Tcu where
  queues : Quad (List Task)
  halts : Quad (Option HaltMode)
  detached : Quad Bool
  mismatches : Nat
  deriving DecidableEq, Repr

/-! ## Crane link unit and ports -/

/-- What a status record says of the grab (Table 5-1). -/
inductive Grab where
  | opened | closed | unknown
  deriving DecidableEq, Repr

/-- The phase of a phase report (Table 5-1). -/
inductive PhaseReport where
  | none | arrivedPick | lifted | arrivedPlace | released
  deriving DecidableEq, Repr

/-- A status record that is valid on its port (Table 5-1). -/
structure StatusRec where
  raw : Nat
  v : Int
  y : Nat
  h : Nat
  count : Int
  grab : Grab
  phase : PhaseReport
  task : Nat
  driveFault : Bool
  deriving DecidableEq, Repr

/-- Permission classes (R129). -/
inductive Class where
  | stop | creep | slow | full
  deriving DecidableEq, Repr

/-- Orders (Table 5-3). -/
inductive Order where
  | none | goPick | goPlace | hold
  deriving DecidableEq, Repr

/-- A command record (Table 5-3); the port is the crane's. -/
structure CommandRec where
  fwd : Class
  rev : Class
  fwdSpeed : Nat
  revSpeed : Nat
  lower : Bool
  raise : Bool
  order : Order
  task : Nat
  x : Nat
  y : Nat
  deriving DecidableEq, Repr

/-- A link's state; the watchdog runs only while it is ACTIVE (Table 5-4). -/
inductive Link where
  | silent
  | active (deadline : Nat)
  | lost
  deriving DecidableEq, Repr

/-- The last valid status record, its corrected position, and when it arrived (Table 5-2, R102). -/
structure LastRec where
  record : StatusRec
  corrected : Int
  time : Nat
  deriving DecidableEq, Repr

/-- The crane record of the crane link unit (Table 5-2). `seenPos` is the position as the other units
see it (R95); `pairAbove` says that the pair with the next higher crane is in conflict (R97). -/
structure CraneLink where
  link : Link
  last : Option LastRec
  seenPos : Option Int
  period : Bool
  correction : Int
  referenced : Bool
  overCount : Nat
  overspeed : Bool
  pairAbove : Bool
  driveFault : Bool
  deriving DecidableEq, Repr

/-- A receiver, hunting for a sync byte, or inside a frame or record with the bytes collected after its
sync byte (R182, R187). -/
inductive Receiver where
  | hunting
  | inside (got : List Byte)
  deriving DecidableEq, Repr

/-- The classes a command record carried and when it was sent (R98). -/
structure SentClass where
  time : Nat
  fwd : Class
  rev : Class
  deriving DecidableEq, Repr

/-- A crane port: its receiver and error counter (R101, R187), the record being sent, the record
waiting, the last sent record (R90), and the classes sent lately (R98). -/
structure Port where
  receiver : Receiver
  errors : Nat
  sending : Option CommandRec
  waiting : Option CommandRec
  lastSent : CommandRec
  sentLog : List SentClass
  deriving DecidableEq, Repr

/-! ## Weighing unit -/

/-- Weighing states (Table 6-3). -/
inductive WeighState where
  | unzeroed | zeroed | due | stale
  deriving DecidableEq, Repr

/-- Load classes (Table 6-6). -/
inductive LoadClass where
  | empty | light | medium | heavy
  deriving DecidableEq, Repr

/-- The freeze conditions of a hoist (R113). -/
structure FreezeConds where
  saturated : Bool
  overload : Bool
  underload : Bool
  deriving DecidableEq, Repr

/-- A result of the weighing unit (R106, R107); the weights are absent while the window is not full. -/
structure WeighResult where
  count : Nat
  filtered : Option Int
  recorded : Option Int
  steady : Bool
  valid : Bool
  stable : Bool
  deriving DecidableEq, Repr

/-- A frozen result (Table 6-5). -/
structure Frozen where
  cause : FreezeConds
  filtered : Option Int
  recorded : Option Int
  steady : Bool
  count : Nat
  state : WeighState
  deriving DecidableEq, Repr

/-- The hoist record (Table 6-1), with the result of the last arrival and the load class last given
(R118, R120). -/
structure Hoist where
  window : List Int
  z : Int
  state : WeighState
  counter : Nat
  frozen : Option Frozen
  conds : FreezeConds
  result : WeighResult
  loadClass : Option LoadClass
  deriving DecidableEq, Repr

/-! ## Runway collision unit -/

/-- A crane's claim: its kind, with the front and rear edges (R124, R125). -/
inductive Claim where
  | none
  | live (front rear : Int)
  | frozen (front rear : Int)
  deriving DecidableEq, Repr

/-- What the collision unit takes from a valid status record (Table 7-1). -/
structure Motion where
  p : Int
  v : Int
  h : Nat
  closed : Bool
  deriving DecidableEq, Repr

/-- The caps of Table 7-5, in its order. -/
inductive Cap where
  | stageConfig | linkNotActive | awaiting | estop | halt | orderConflict | overspeed | driveFault
  | stageInventory | unreferenced | insideZone
  deriving DecidableEq, Repr

/-- The crane record of the collision unit (Table 7-1). The last sent classes and the last sent lower
allowed are those of the port's last sent record. `seenRef` is the referenced mark as this unit sees
it (R95). -/
structure RcuCrane where
  motion : Option Motion
  load : Option LoadClass
  seenRef : Bool
  claim : Claim
  availF : Nat
  availR : Nat
  compF : Class
  compR : Class
  finalF : Class
  finalR : Class
  caps : List Cap
  lower : Bool
  runEnable : Bool
  awaiting : Bool
  deriving DecidableEq, Repr

/-- A runway view (R122): its length and its ESTOP condition; its zones stand in `zones`. -/
structure RunwayView where
  length : Nat
  estop : Bool
  deriving DecidableEq, Repr

/-- A zone's two conditions, as the bay control unit last reported them (R122). -/
structure Zone where
  closed : Bool
  manned : Bool
  deriving DecidableEq, Repr

/-- What the runway collision unit holds (07). -/
structure Rcu where
  cranes : Quad (Option RcuCrane)
  views : Duo (Option RunwayView)
  zones : Quad (Option Zone)
  deriving DecidableEq, Repr

/-! ## Bay control unit -/

/-- Bay states (Table 8-3). -/
inductive BayState where
  | empty | present | secured | working | complete
  deriving DecidableEq, Repr

/-- The three inputs of a bay (Table 8-2). -/
structure BayInputs where
  curtain : Bool
  driver : Bool
  chocks : Bool
  deriving DecidableEq, Repr

/-- Status of a plan entry (Table 8-5). -/
inductive EntryStatus where
  | pending | claimed | placed | onTruck | removed
  deriving DecidableEq, Repr

/-- An entry of an installed plan (Table 8-4). -/
structure Entry where
  cradle : Nat
  coil : Nat
  status : EntryStatus
  deriving DecidableEq, Repr

/-- The fields PLAN-OPEN carries (Table 8-4). -/
structure PlanHead where
  kind : PlanKind
  length : Nat
  eK : Nat
  eA : Nat
  kLim : Nat
  aLim : Nat
  gLim : Nat
  cradles : List Nat
  deriving DecidableEq, Repr

/-- An installed plan (Table 8-4): entries in loading order. -/
structure Plan where
  head : PlanHead
  entries : List Entry
  closed : Bool
  deriving DecidableEq, Repr

/-- The plan being built (R152, R153): entries so far, each a cradle and a coil id. -/
structure Build where
  bay : BayId
  head : PlanHead
  entries : List (Nat × Nat)
  deriving DecidableEq, Repr

/-- The bay record (Table 8-2); its geometry stands in `Lsu.bays`. -/
structure Bay where
  state : BayState
  live : BayInputs
  mode : CurtainMode
  latch : Bool
  snapshot : BayInputs
  frozen : Bool
  work : List Nat
  trail : Option Nat
  plan : Option Plan
  intrusion : Bool
  deriving DecidableEq, Repr

/-- What the bay control unit holds (08). -/
structure Bcu where
  bays : Quad (Option Bay)
  build : Option Build
  deriving DecidableEq, Repr

/-! ## Discrete I/O unit -/

/-- An input line: its raw level (a pin), its debounced level, its settling period's end (R166). -/
structure Line where
  raw : Bool
  level : Bool
  settling : Option Nat
  deriving DecidableEq, Repr

/-- The assignment of an input function (R168). -/
structure InAssign where
  selection : Nat
  invert : Bool
  mode : InputMode
  deriving DecidableEq, Repr

/-- The assignments of the 18 input functions (Table 9-1). -/
structure InTable where
  ref : Quad InAssign
  estop : Duo InAssign
  curtain : Quad InAssign
  driver : Quad InAssign
  chocks : Quad InAssign
  deriving DecidableEq, Repr

/-- The assignment of an output line (R169). -/
structure OutAssign where
  signal : Signal
  mode : OutputMode
  deriving DecidableEq, Repr

/-- What an output line carries (R169). -/
inductive Drive where
  | inactive | active | released
  deriving DecidableEq, Repr

/-- The beacon control of a crane (Table 9-3). -/
structure Beacon where
  mode : BeaconMode
  hostLevel : Bool
  on : Bool
  stretch : Option Nat
  deriving DecidableEq, Repr

/-- What the discrete I/O unit holds (09). -/
structure Dio where
  lines : Vector Line 32
  inputs : InTable
  outputs : Vector OutAssign 16
  beacons : Quad Beacon
  deriving DecidableEq, Repr

/-! ## Fault and notice unit -/

/-- The crane kinds of Table 10-1, in its order. -/
inductive CraneFault where
  | linkLost | positionJump | refDrift | orderConflict | overspeed | driveFault
  | overload | underload | cellSaturated | zeroDrift
  deriving DecidableEq, Repr

/-- The 50 flags: a kind with a subject (R174). -/
inductive FlagId where
  | crane (k : CraneFault) (c : CraneId)
  | bayIntrusion (b : BayId)
  | estop (r : RunwayId)
  | hostSilent
  | noticeLost
  | powerUp
  | restarted
  deriving DecidableEq, Repr

/-- A flag: its raise count while it is set, and its condition-live mark (R174). -/
structure Flag where
  count : Option Nat
  live : Bool
  deriving DecidableEq, Repr

/-- Causes of a change of stage (R16). -/
inductive StageCause where
  | commit | openYard | closeYard | restart
  deriving DecidableEq, Repr

/-- States a TASK-STATE notice reports (R83, Table 11-12). -/
inductive TaskState where
  | queued | dispatched | picking | weighing | carrying | placing | held | done | cancelled
  deriving DecidableEq, Repr

/-- What a TASK-STATE notice carries (R83). -/
structure TaskNotice where
  task : Nat
  crane : CraneId
  coil : Nat
  kind : TaskKind
  state : TaskState
  dest : Dest
  hold : Option (HoldReason × Phase)
  deriving DecidableEq, Repr

/-- Causes of a ZERO-TAKEN notice (R110, R112). -/
inductive ZeroCause where
  | manual | forced | auto
  deriving DecidableEq, Repr

/-- What a ZERO-TAKEN notice and the ACK of ZERO carry (R110). -/
structure ZeroTaken where
  crane : CraneId
  z : Int
  cause : ZeroCause
  before : WeighState
  loaded : Nat
  deriving DecidableEq, Repr

/-- The notices (Table 10-2). -/
inductive Notice where
  | stageChanged (stage : Stage) (cause : StageCause)
  | taskState (n : TaskNotice)
  | craneLink (c : CraneId) (active : Bool)
  | craneReferenced (c : CraneId) (xRef : Nat) (raw : Nat) (correction : Int) (drift : Bool)
  | craneParamsApplied (c : CraneId)
  | zeroTaken (z : ZeroTaken)
  | weighFrozen (c : CraneId) (f : Frozen)
  | bayState (b : BayId) (before after : BayState) (secure manned : Bool)
  | bayInputs (b : BayId) (snapshot : BayInputs) (latch secure manned : Bool)
  | faultRaised (f : FlagId) (live : Option Bool)
  deriving DecidableEq, Repr

/-- What the fault and notice unit holds (10). The mask set is listed in the order of Table 10-1. -/
structure Fnu where
  flags : Vector Flag 50
  masks : List FaultKind
  notices : List Notice
  lost : Nat
  deriving DecidableEq, Repr

/-! ## Replies -/

/-- The request kinds (Table 11-3). -/
inductive ReqKind where
  | runwayDefine | craneDefine | slotDefine | bayDefine | configSet | commitLayout | openYard
  | closeYard | restart | coilAdd | coilRemove | coilQuery | slotQuery | slotBlock | slotUnblock
  | slotSuggest | taskSubmit | taskCancel | retry | acceptWeight | redirect | taskReturn | taskQuery
  | halt | resume | detach | attach | craneQuery | zero | weighReset | weighQuery | runwayQuery
  | truckArrive | truckDepart | bayMode | bayClear | bayAck | planOpen | planEntry | planCancel
  | loadClose | bayQuery | inputAssign | outputAssign | beaconSet | ioQuery | status | faultReport
  | faultMask
  deriving DecidableEq, Repr

/-- Refusal codes (Table 11-4). -/
inductive RefusalCode where
  | unknownKind | badLength | badValue | wrongStage | noSuchItem | duplicate | queueFull | tableFull
  | reserved | supportConflict | notFit | locationMismatch | stateConflict | coilOnHook
  | planInProgress | noPlanOpen | limitExceeded | layoutInvalid | unsafeOutput | conditionActive
  | zeroOutOfRange | notSteady
  deriving DecidableEq, Repr

/-- A refusal: its code and its detail (R188). -/
structure Nak where
  code : RefusalCode
  detail : Nat
  deriving DecidableEq, Repr

/-- Kinds of layout item (R7, R12). -/
inductive ItemKind where
  | runway | crane | slot | bay
  deriving DecidableEq, Repr

/-- The four terms of a slot's cost (Table 3-2). -/
structure CostTerms where
  distance : Nat
  tier : Nat
  burial : Nat
  affinity : Nat
  deriving DecidableEq, Repr

/-- The outcome of a SLOT-SUGGEST (R52). -/
inductive SuggestOutcome where
  | slot | noSlot
  deriving DecidableEq, Repr

/-- What the ACK of SLOT-SUGGEST carries (R52); with NO_SLOT the index, the total and the terms are 0. -/
structure Suggestion where
  outcome : SuggestOutcome
  slot : Nat
  total : Nat
  terms : CostTerms
  candidates : Nat
  deriving DecidableEq, Repr

/-- The task record as TASK-QUERY returns it in mode ONE, an optional field of Table 4-1 that is absent being
none (R84). -/
structure TaskReport where
  id : Nat
  crane : CraneId
  coil : Nat
  kind : TaskKind
  source : Place
  dest : Dest
  priority : Bool
  noVerify : Bool
  state : TaskState
  hold : Option HoldReason
  heldFrom : Option Phase
  deadline : Option Nat
  offered : Option Int
  fresh : Option Bool
  deriving DecidableEq, Repr

/-- One task of TASK-QUERY in mode CRANE (R84). -/
structure TaskLine where
  id : Nat
  coil : Nat
  kind : TaskKind
  state : TaskState
  hold : Option HoldReason
  deriving DecidableEq, Repr

/-- What the ACK of RETRY, ACCEPT-WEIGHT, REDIRECT, RETURN and TASK-CANCEL carries (R73). -/
structure ResolutionAck where
  task : Nat
  state : TaskState
  dest : Dest
  hold : Option HoldReason
  deriving DecidableEq, Repr

/-- A link's state as the queries report it (R102, R141, R180). -/
inductive LinkState where
  | silent | active | lost
  deriving DecidableEq, Repr

/-- What CRANE-QUERY returns of the last sent command record (R102). -/
structure SentReport where
  fwd : Class
  rev : Class
  lower : Bool
  raise : Bool
  order : Order
  task : Nat
  deriving DecidableEq, Repr

/-- What CRANE-QUERY returns (R102). -/
structure CraneReport where
  link : LinkState
  referenced : Bool
  correction : Int
  hasPosition : Bool
  last : Option (StatusRec × Int × Nat)
  overCount : Nat
  overspeed : Bool
  orderConflict : Bool
  driveFault : Bool
  sent : SentReport
  deriving DecidableEq, Repr

/-- What WEIGH-QUERY returns (R120). -/
structure WeighReport where
  state : WeighState
  z : Int
  counter : Nat
  count : Nat
  samples : List (Int × Int)
  filtered : Option Int
  recorded : Option Int
  steady : Bool
  valid : Bool
  conds : FreezeConds
  raiseInhibit : Bool
  loadClass : Option LoadClass
  frozen : Option Frozen
  deriving DecidableEq, Repr

/-- One zone of RUNWAY-QUERY (R141). -/
structure ZoneReport where
  bay : BayId
  xLo : Nat
  xHi : Nat
  closed : Bool
  manned : Bool
  deriving DecidableEq, Repr

/-- One crane of RUNWAY-QUERY (R141). -/
structure RunwayCraneReport where
  crane : CraneId
  link : LinkState
  awaiting : Bool
  motion : Option Motion
  load : Option LoadClass
  swing : Option Nat
  claim : Claim
  availF : Nat
  availR : Nat
  compF : Class
  compR : Class
  caps : List Cap
  finalF : Class
  finalR : Class
  sentF : Class
  sentR : Class
  lower : Bool
  sentLower : Bool
  runEnable : Bool
  deriving DecidableEq, Repr

/-- One plan entry of BAY-QUERY (R165): the entry, its cradle position and its runway x. -/
structure EntryReport where
  entry : Entry
  position : Nat
  x : Int
  deriving DecidableEq, Repr

/-- The totals K, A and Gross of a set of coils (R158). -/
structure Totals where
  k : Int
  a : Int
  gross : Int
  deriving DecidableEq, Repr

/-- What BAY-QUERY returns (R165). -/
structure BayReport where
  geom : Option BayGeom
  state : BayState
  live : BayInputs
  mode : CurtainMode
  latch : Bool
  secure : Bool
  closed : Bool
  manned : Bool
  snapshot : BayInputs
  frozen : Bool
  work : List Nat
  trailLeft : Option Nat
  intrusion : Bool
  plan : Option (PlanHead × Bool × List EntryReport × Totals)
  deriving DecidableEq, Repr

/-- One beacon of IO-QUERY (R173). -/
structure BeaconReport where
  mode : BeaconMode
  hostLevel : Bool
  on : Bool
  stretching : Bool
  deriving DecidableEq, Repr

/-- What IO-QUERY returns (R173). -/
structure IoReport where
  lines : List (Bool × Bool)
  functions : List (InputFn × InAssign × Bool)
  outputs : List (OutAssign × Drive)
  signals : List Bool
  beacons : List BeaconReport
  deriving DecidableEq, Repr

/-- One crane of STATUS (R180). -/
structure CraneStatus where
  link : LinkState
  referenced : Bool
  weigh : WeighState
  queueLength : Nat
  sentF : Class
  sentR : Class
  runEnable : Bool
  halt : Option HaltMode
  detached : Bool
  swapPending : Bool
  deriving DecidableEq, Repr

/-- One bay of STATUS (R180). -/
structure BayStatus where
  state : BayState
  secure : Bool
  manned : Bool
  deriving DecidableEq, Repr

/-- What STATUS returns (R180). -/
structure StatusReport where
  stage : Stage
  flagsSet : Nat
  flagsUnmasked : Nat
  fault : Bool
  masks : List FaultKind
  hostSilent : Bool
  noticeDepth : Nat
  noticesLost : Nat
  cranes : List (Option CraneStatus)
  bays : List (Option BayStatus)
  frameErrors : Nat
  overruns : Nat
  recordErrors : List Nat
  mismatches : Nat
  deriving DecidableEq, Repr

/-- The ACK bodies, by what the rule of the request says they carry (R184). Some also name the item asked
about, which their rules do not list: log 49 (DESIGN CHOICE) names them. -/
inductive Ack where
  | empty
  | runwaySet (r : RunwayId) (length : Nat)
  | craneSet (c : CraneId) (p : ParamSet)
  | slotSet (i : Nat) (g : SlotGeom)
  /-- R6 gives none: the fields taken, as R1, R2 and R5 have them (DESIGN CHOICE, log 48). -/
  | baySet (b : BayId) (g : BayGeom)
  | cleared (k : ItemKind) (key : Nat)
  | settings (taken : List (Setting × SettingValue)) (clamped : Bool)
  | coilSlot (coil slot : Nat)
  | coilRemoved (coil : Nat) (record : Coil) (slot : Nat)
  | coilRecord (coil : Nat) (record : Coil)
  | coilList (records : List (Nat × Coil)) (more : Bool)
  | slotRecord (i : Nat) (record : Slot)
  | slotList (records : List (Nat × Slot)) (more : Bool)
  | slotState (i : Nat) (state : SlotState)
  | suggestion (r : Suggestion)
  | taskQueued (task : Nat) (c : CraneId) (kind : TaskKind) (position : Nat)
  | resolution (r : ResolutionAck)
  | taskRecord (r : TaskReport)
  /-- R84; the crane is the one asked about (log 49). -/
  | taskQueue (c : CraneId) (ts : List TaskLine)
  | halted (cranes : List CraneId) (mode : HaltMode)
  | resumed (cranes : List CraneId)
  | detachMark (c : CraneId) (detached : Bool)
  /-- R102; the crane is the one asked about (log 49). -/
  | crane (c : CraneId) (r : CraneReport)
  | zeroTaken (z : ZeroTaken)
  | weighReset (c : CraneId) (removed : Bool)
  /-- R120; the crane is the one asked about (log 49). -/
  | weigh (c : CraneId) (r : WeighReport)
  /-- R141; the runway is the one asked about (log 49). -/
  | runway (r : RunwayId) (length : Nat) (estop : Bool) (zones : List ZoneReport)
      (cranes : List RunwayCraneReport)
  | bayState (b : BayId) (state : BayState)
  /-- R164; the bay is the one asked about (log 49). -/
  | departed (b : BayId) (deleted : Nat)
  | bayMode (b : BayId) (mode : CurtainMode) (latch : Bool)
  | bayCleared (b : BayId) (latch secure manned : Bool)
  /-- R147; the bay is the one asked about (log 49). -/
  | bayAcked (b : BayId) (snapshot : BayInputs) (frozen : Bool)
  | planOpened (b : BayId) (n : Nat)
  | planEntry (place expected : Nat)
  | planInstalled (totals : Totals)
  | planCancelled (deleted : Nat)
  | loadClosed (removed placed : Nat)
  /-- R165; the bay is the one asked about (log 49). -/
  | bay (b : BayId) (r : BayReport)
  | inputAssigned (f : InputFn) (a : InAssign) (level : Bool)
  | outputAssigned (line : Nat) (a : OutAssign) (drive : Drive)
  | beacon (c : CraneId) (mode : BeaconMode) (hostLevel on : Bool)
  | io (r : IoReport)
  | status (r : StatusReport)
  | faults (flags : List (FlagId × Nat × Option Bool))
  | masked (masks : List FaultKind) (fault : Bool)
  deriving DecidableEq, Repr

/-- What a request is answered with (R184). -/
inductive Answer where
  | ack (a : Ack)
  | nak (n : Nak)
  deriving DecidableEq, Repr

/-- A reply: the request's tag and kind byte, and the answer (R184, Table 11-11). -/
structure Reply where
  tag : Byte
  kind : Byte
  answer : Answer
  deriving DecidableEq, Repr

/-- A frame the part sends (R185). -/
inductive TxFrame where
  | reply (r : Reply)
  | notice (n : Notice)
  deriving DecidableEq, Repr

/-- What the host link unit holds (11). `lastSent` is the model's window on the line: the frame whose
last byte was sent last (log 9). -/
structure Hlu where
  receiver : Receiver
  inbound : List Frame
  handling : Option Frame
  reply : Option Reply
  sending : Option TxFrame
  lastSent : Option TxFrame
  frameErrors : Nat
  overruns : Nat
  silence : Option Nat
  silent : Bool
  baud : Nat
  deriving DecidableEq, Repr

end Sys2Proof.Machine
end

