-- ==== Sys2Proof/Machine/Resets.lean ====
section
/-! DEFINITION. The power-on value of each unit's state (R17, and the rule of each chapter that gives the
reset values), over the straps and the raw line levels as the part finds them. -/

namespace Sys2Proof.Machine

/-- The same thing for each of the four numbers. -/
def Quad.all {α : Type} (v : α) : Quad α := ⟨v, v, v, v⟩

/-- The same thing for both runways. -/
def Duo.both {α : Type} (v : α) : Duo α := ⟨v, v⟩

/-- The default settings (Table 1-4). -/
def Settings.default : Settings where
  faultLatch := .latched
  hostSilence := .off
  linkTimeout := 100
  gap := 1500
  passHeight := 8000
  posTolerance := 50
  jumpLimit := 500
  refTolerance := 100
  weightTolerance := 30
  stabilityBand := 40
  settleTime := 5000
  rezeroCount := 64
  trailTime := 10
  beaconStretch := 2
  debounce := 10
  tier2Penalty := 20
  overspeedRecords := 3

/-- R10, R1, R2, R3, R6, R8, R17. -/
def Lsu.powerOn : Lsu where
  stage := .config
  runways := .both none
  active := .all none
  shadow := .all none
  bays := .all none
  settings := .default

/-- R20, R21. -/
def Smu.powerOn : Smu := ⟨[], []⟩

/-- R85. -/
def Tcu.powerOn : Tcu := ⟨.all [], .all none, .all false, 0⟩

/-- STOP both ways, lower and raise not allowed, order NONE: the record of R11. -/
def CommandRec.stopRecord : CommandRec where
  fwd := .stop
  rev := .stop
  fwdSpeed := 0
  revSpeed := 0
  lower := false
  raise := false
  order := .none
  task := 0
  x := 0
  y := 0

/-- R101, R187: the receiver hunts, nothing is sent, nothing waits. -/
def Port.powerOn : Port := ⟨.hunting, 0, none, none, .stopRecord, []⟩

/-- R121, R122. -/
def Rcu.powerOn : Rcu := ⟨.all none, .both none, .all none⟩

/-- R142, R152. -/
def Bcu.powerOn : Bcu := ⟨.all none, none⟩

/-- R166: the debounced level is taken from the raw level; no settling period runs. -/
def Line.powerOn (raw : Bool) : Line := ⟨raw, raw, none⟩

/-- R168: selection 0, no invert, mode LEVEL for a level function and RISING for an event function. -/
def InTable.powerOn : InTable where
  ref := .all ⟨0, false, .rising⟩
  estop := .both ⟨0, false, .level⟩
  curtain := .all ⟨0, false, .level⟩
  driver := .all ⟨0, false, .level⟩
  chocks := .all ⟨0, false, .level⟩

/-- The signal numbers of Table 9-2, in order. -/
def allSignals : List Signal :=
  [.runEnable .n1, .runEnable .n2, .runEnable .n3, .runEnable .n4,
   .beacon .n1, .beacon .n2, .beacon .n3, .beacon .n4,
   .gateLock .n1, .gateLock .n2, .gateLock .n3, .gateLock .n4, .fault, .yardRun]

/-- R169, R17: line k carries signal k for k = 0 to 13; lines 14 and 15 are RELEASED with signal 0. -/
def outputsPowerOn : Vector OutAssign 16 :=
  Vector.ofFn fun k =>
    match allSignals[k.val]? with
    | some g => ⟨g, .signal⟩
    | none => ⟨.runEnable .n1, .released⟩

/-- Table 9-3. -/
def Beacon.powerOn : Beacon := ⟨.auto, false, false, none⟩

/-- R166, R168, R169, Table 9-3, over the raw levels `lines` (bit k is line INk). -/
def Dio.powerOn (lines : BitVec 32) : Dio where
  lines := Vector.ofFn fun k => Line.powerOn (lines.getLsbD k.val)
  inputs := .powerOn
  outputs := outputsPowerOn
  beacons := .all .powerOn

/-- The place of a crane kind in Table 10-1. -/
def CraneFault.index : CraneFault → Nat
  | .linkLost => 0 | .positionJump => 1 | .refDrift => 2 | .orderConflict => 3 | .overspeed => 4
  | .driveFault => 5 | .overload => 6 | .underload => 7 | .cellSaturated => 8 | .zeroDrift => 9

/-- 0 to 3 for the numbers 1 to 4. -/
def numFin : Num4 → Fin 4
  | .n1 => 0 | .n2 => 1 | .n3 => 2 | .n4 => 3

/-- The place of a flag in the order of a FAULT-REPORT listing: by kind as in Table 10-1, then by
subject (R177). -/
def FlagId.index : FlagId → Fin 50
  | .crane k c => ⟨(4 * k.index + (numFin c).val) % 50, Nat.mod_lt _ (by decide)⟩
  | .bayIntrusion b => ⟨(40 + (numFin b).val) % 50, Nat.mod_lt _ (by decide)⟩
  | .estop .a => 44
  | .estop .b => 45
  | .hostSilent => 46
  | .noticeLost => 47
  | .powerUp => 48
  | .restarted => 49

/-- R174, R178, R179: every flag clear but `start` (POWER_UP at power-on, RESTARTED at RESTART ALL),
whose FAULT-RAISED notice is the first of the queue. -/
def Fnu.powerOn (start : FlagId) : Fnu where
  flags := (Vector.replicate 50 ⟨none, false⟩).set start.index ⟨some 1, false⟩
  masks := []
  notices := [.faultRaised start none]
  lost := 0

/-- The host link's line rate (Table 11-1). -/
def baudOf : Straps → Nat
  | ⟨false, false⟩ => 115200
  | ⟨false, true⟩ => 230400
  | ⟨true, false⟩ => 460800
  | ⟨true, true⟩ => 921600

/-- R182, R183, R186, R181. -/
def Hlu.powerOn (straps : Straps) : Hlu where
  receiver := .hunting
  inbound := []
  handling := none
  reply := none
  sending := none
  lastSent := none
  frameErrors := 0
  overruns := 0
  silence := none
  silent := false
  baud := baudOf straps

end Sys2Proof.Machine
end

