-- ==== Sys2Proof/Machine/State.lean ====
section
/-! DEFINITION. The state of the part: what each unit of Table 0-2 holds, the crane ports, the model's
clock, and the queue of commands that wait. Plain data. -/

namespace Sys2Proof.Machine

/-- The machine's state. `now` is the model's clock in ms (log 1); `pending` is the queue of waiting
commands, first in first out. -/
structure State where
  now : Nat
  lsu : Lsu
  smu : Smu
  tcu : Tcu
  links : Quad (Option CraneLink)
  ports : Quad Port
  hoists : Quad (Option Hoist)
  rcu : Rcu
  bcu : Bcu
  dio : Dio
  fnu : Fnu
  hlu : Hlu
  pending : List Instr
  deriving DecidableEq, Repr

/-- Nothing stops the part: a request that cannot be granted is refused by a NAK, a bad frame or record
is discarded and counted, and troubles set fault flags (R184, R182, R86, R174). No command raises a
fault, so there is no constructor. -/
inductive Fault where
  deriving DecidableEq, Repr

/-- Refusals of the model. -/
inductive Refusal where
  /-- Answered by an arm of `exec` whose command has no meaning yet; safe, the model stops. -/
  | notModelled (mnemonic : String)
  deriving DecidableEq, Repr

/-- The state after power-on with the given straps and raw line levels (R17), at a time and with a queue;
`start` is the event flag that is set: POWER_UP, or RESTARTED at RESTART ALL (R18). -/
def State.fresh (start : FlagId) (straps : Straps) (lines : BitVec 32) (now : Nat)
    (pending : List Instr) : State where
  now := now
  lsu := .powerOn
  smu := .powerOn
  tcu := .powerOn
  links := .all none
  ports := .all .powerOn
  hoists := .all none
  rcu := .powerOn
  bcu := .powerOn
  dio := .powerOn lines
  fnu := .powerOn start
  hlu := .powerOn straps
  pending := pending

/-- The machine right after power-on, its straps and input lines low (DESIGN CHOICE, log 10). -/
def State.reset : State := .fresh .powerUp ⟨false, false⟩ 0#32 0 []

end Sys2Proof.Machine
end

