-- ==== Sys2Proof/Machine/Ops.lean ====
section
/-! DEFINITION. The named operations every unit uses: reading and writing the four-fold and two-fold
things, the keyed tables, the parts of the state, counters that hold, and the roundings of 00_scope.md
§6.3. The part has no exception entry, so none stands here. -/

namespace Sys2Proof.Machine

/-! ## Numbers 1 to 4, runways -/

/-- The numbers 1 to 4 in order. -/
def allNum4 : List Num4 := [.n1, .n2, .n3, .n4]

/-- The runways in order. -/
def allRunways : List RunwayId := [.a, .b]

/-- The number itself. -/
def numVal : Num4 → Nat
  | .n1 => 1 | .n2 => 2 | .n3 => 3 | .n4 => 4

/-- The crane, bay or port of a number carried in a request or record; none outside 1 to 4. -/
def num4? : Nat → Option Num4
  | 1 => some .n1 | 2 => some .n2 | 3 => some .n3 | 4 => some .n4 | _ => none

/-- A runway in a detail: 1 for A, 2 for B (Table 11-5). -/
def runwayVal : RunwayId → Nat
  | .a => 1 | .b => 2

def Quad.get {α : Type} (q : Quad α) : Num4 → α
  | .n1 => q.at1 | .n2 => q.at2 | .n3 => q.at3 | .n4 => q.at4

def Quad.set {α : Type} (q : Quad α) (i : Num4) (v : α) : Quad α :=
  match i with
  | .n1 => { q with at1 := v }
  | .n2 => { q with at2 := v }
  | .n3 => { q with at3 := v }
  | .n4 => { q with at4 := v }

def Quad.modify {α : Type} (q : Quad α) (i : Num4) (f : α → α) : Quad α := q.set i (f (q.get i))

/-- Each of the four, by its number. -/
def Quad.map {α β : Type} (q : Quad α) (f : Num4 → α → β) : Quad β :=
  ⟨f .n1 q.at1, f .n2 q.at2, f .n3 q.at3, f .n4 q.at4⟩

def Duo.get {α : Type} (d : Duo α) : RunwayId → α
  | .a => d.atA | .b => d.atB

def Duo.set {α : Type} (d : Duo α) (i : RunwayId) (v : α) : Duo α :=
  match i with
  | .a => { d with atA := v }
  | .b => { d with atB := v }

/-- Each of the two, by its runway. -/
def Duo.map {α β : Type} (d : Duo α) (f : RunwayId → α → β) : Duo β :=
  ⟨f .a d.atA, f .b d.atB⟩

/-! ## Keyed tables: lists with strictly rising keys (00_scope.md §6.6) -/

/-- The record with a key. -/
def Table.find {α : Type} (k : Nat) : List (Nat × α) → Option α
  | [] => none
  | (j, v) :: t => if j = k then some v else Table.find k t

/-- The table with a record put in, in its place by key, or replaced. -/
def Table.put {α : Type} (k : Nat) (v : α) : List (Nat × α) → List (Nat × α)
  | [] => [(k, v)]
  | (j, w) :: t =>
    if k < j then (k, v) :: (j, w) :: t
    else if k = j then (k, v) :: t
    else (j, w) :: Table.put k v t

/-- The table without the record of a key. -/
def Table.drop {α : Type} (k : Nat) (t : List (Nat × α)) : List (Nat × α) :=
  t.filter fun e => e.1 != k

/-- The table with the record of a key changed. -/
def Table.modify {α : Type} (k : Nat) (f : α → α) (t : List (Nat × α)) : List (Nat × α) :=
  t.map fun e => if e.1 = k then (e.1, f e.2) else e

/-- The canonical form of a table: strictly rising keys. -/
abbrev Table.wf {α : Type} (t : List (Nat × α)) : Prop := (t.map (·.1)).Pairwise (· < ·)

/-! ## The parts of the state -/

def State.setNow (s : State) (n : Nat) : State := { s with now := n }
def State.setLsu (s : State) (u : Lsu) : State := { s with lsu := u }
def State.setSmu (s : State) (u : Smu) : State := { s with smu := u }
def State.setTcu (s : State) (u : Tcu) : State := { s with tcu := u }
def State.setLinks (s : State) (u : Quad (Option CraneLink)) : State := { s with links := u }
def State.setPorts (s : State) (u : Quad Port) : State := { s with ports := u }
def State.setHoists (s : State) (u : Quad (Option Hoist)) : State := { s with hoists := u }
def State.setRcu (s : State) (u : Rcu) : State := { s with rcu := u }
def State.setBcu (s : State) (u : Bcu) : State := { s with bcu := u }
def State.setDio (s : State) (u : Dio) : State := { s with dio := u }
def State.setFnu (s : State) (u : Fnu) : State := { s with fnu := u }
def State.setHlu (s : State) (u : Hlu) : State := { s with hlu := u }
def State.setPending (s : State) (q : List Instr) : State := { s with pending := q }

/-- The state with the slot table and coil register changed. -/
def State.setSlots (s : State) (t : List (Nat × Slot)) : State := s.setSmu { s.smu with slots := t }
def State.setCoils (s : State) (t : List (Nat × Coil)) : State := s.setSmu { s.smu with coils := t }

/-- The slot with an index, and the coil with an id. -/
def State.slot? (s : State) (i : Nat) : Option Slot := Table.find i s.smu.slots
def State.coil? (s : State) (id : Nat) : Option Coil := Table.find id s.smu.coils

/-- The link, hoist and collision records of a crane, and the record of a bay, changed where they
exist. -/
def State.modLink (s : State) (c : CraneId) (f : CraneLink → CraneLink) : State :=
  s.setLinks (s.links.modify c (Option.map f))
def State.modHoist (s : State) (c : CraneId) (f : Hoist → Hoist) : State :=
  s.setHoists (s.hoists.modify c (Option.map f))
def State.modCrane (s : State) (c : CraneId) (f : RcuCrane → RcuCrane) : State :=
  s.setRcu { s.rcu with cranes := s.rcu.cranes.modify c (Option.map f) }
def State.modBay (s : State) (b : BayId) (f : Bay → Bay) : State :=
  s.setBcu { s.bcu with bays := s.bcu.bays.modify b (Option.map f) }
def State.modPort (s : State) (c : CraneId) (f : Port → Port) : State :=
  s.setPorts (s.ports.modify c f)
def State.setQueue (s : State) (c : CraneId) (q : List Task) : State :=
  s.setTcu { s.tcu with queues := s.tcu.queues.set c q }

/-- The time has come for something due at `t`: the clock stands at `t` or later (log 2). -/
def State.reach (s : State) (t : Nat) : State := s.setNow (max s.now t)

/-! ## Counters and roundings -/

/-- A counter goes up by 1 and holds at 65,535 (00_scope.md §6.5). -/
def bump (n : Nat) : Nat := if n < Config.counterMax then n + 1 else Config.counterMax

/-- A counter goes up by some number and holds at 65,535. -/
def bumpBy (n k : Nat) : Nat := min (n + k) Config.counterMax

/-- `n / d` rounded to the nearest integer, a half going to the integer of greater magnitude
(00_scope.md §6.3). -/
def roundHalfAway (n : Int) (d : Nat) : Int :=
  if n < 0 then -(((2 * n.natAbs + d) / (2 * d) : Nat) : Int)
  else (((2 * n.natAbs + d) / (2 * d) : Nat) : Int)

/-- `n / d` rounded up (00_scope.md §6.3). -/
def ceilDiv (n d : Nat) : Nat := (n + d - 1) / d

/-- The nearest value of a range (R8). -/
def clamp (lo hi n : Nat) : Nat := max lo (min hi n)

/-- The larger and the smaller of two classes. -/
def Class.rank : Class → Nat
  | .stop => 0 | .creep => 1 | .slow => 2 | .full => 3

def Class.min (a b : Class) : Class := if a.rank ≤ b.rank then a else b

/-! ## The links of a task to bays and slots -/

/-- HELD exactly while a hold reason is present (R71). -/
def Task.held (t : Task) : Bool := t.hold.isSome

/-- In flight: past QUEUED (R55). -/
def Task.inFlight (t : Task) : Bool := t.phase != .queued

/-- The coil is on the hook in WEIGHING, CARRYING, PLACING, or HELD from one of these (R59). -/
def Task.onHook (t : Task) : Bool :=
  match t.phase with
  | .weighing => true
  | .carrying => true
  | .placing => true
  | .queued => false
  | .dispatched => false
  | .picking => false

/-- The state of a task as TASK-STATE and the queries report it (Table 4-1). -/
def Task.state (t : Task) : TaskState :=
  match t.hold with
  | some _ => .held
  | none =>
    match t.phase with
    | .queued => .queued
    | .dispatched => .dispatched
    | .picking => .picking
    | .weighing => .weighing
    | .carrying => .carrying
    | .placing => .placing

/-- The bay of a cradle. -/
def Place.bay? : Place → Option BayId
  | .slot _ => none
  | .cradle b _ => some b

def Dest.bay? : Dest → Option BayId
  | .auto => none
  | .place p => p.bay?

/-- A task references a bay while its source or its destination is a cradle of that bay (R54). -/
def Task.references (t : Task) (b : BayId) : Bool :=
  t.source.bay? == some b || t.dest.bay? == some b

/-- The kind of a source and a destination (Table 4-2). -/
def taskKind : Place → Dest → TaskKind
  | .slot _, .place (.cradle _ _) => .load
  | .slot _, _ => .move
  | .cradle _ _, _ => .unload

/-- The in-flight task of a crane: the head of its queue, past QUEUED (R55). -/
def State.inFlight? (s : State) (c : CraneId) : Option Task :=
  match s.tcu.queues.get c with
  | [] => none
  | t :: _ => if t.inFlight then some t else none

/-- The live task with an id, with its crane (R54). -/
def State.task? (s : State) (id : Nat) : Option (CraneId × Task) :=
  allNum4.findSome? fun c =>
    ((s.tcu.queues.get c).find? fun t => t.id == id).map fun t => (c, t)

/-- A crane's queue with the task of an id changed. -/
def State.modTask (s : State) (c : CraneId) (id : Nat) (f : Task → Task) : State :=
  s.setQueue c ((s.tcu.queues.get c).map fun t => if t.id = id then f t else t)

end Sys2Proof.Machine
end

