-- ==== Sys2Proof/Machine/Flags.lean ====
section
/-! DEFINITION. The fault flag table and the notice queue (10): raising, ending and clearing flags, the
FAULT signal, queueing a notice; and the beacons, which follow the flags (R171). -/

namespace Sys2Proof.Machine

/-! ## The flags -/

/-- The crane kinds in the order of Table 10-1. -/
def allCraneFaults : List CraneFault :=
  [.linkLost, .positionJump, .refDrift, .orderConflict, .overspeed, .driveFault,
   .overload, .underload, .cellSaturated, .zeroDrift]

/-- The 16 kinds in the order of Table 10-1. -/
def allFaultKinds : List FaultKind :=
  [.linkLost, .positionJump, .refDrift, .orderConflict, .overspeed, .driveFault,
   .overload, .underload, .cellSaturated, .zeroDrift,
   .bayIntrusion, .estop, .hostSilent, .noticeLost, .powerUp, .restarted]

/-- The 50 flags in the order of a FAULT-REPORT listing (R177). -/
def allFlags : List FlagId :=
  (allCraneFaults.flatMap fun k => allNum4.map fun c => .crane k c)
    ++ allNum4.map .bayIntrusion ++ allRunways.map .estop
    ++ [.hostSilent, .noticeLost, .powerUp, .restarted]

def CraneFault.kind : CraneFault → FaultKind
  | .linkLost => .linkLost
  | .positionJump => .positionJump
  | .refDrift => .refDrift
  | .orderConflict => .orderConflict
  | .overspeed => .overspeed
  | .driveFault => .driveFault
  | .overload => .overload
  | .underload => .underload
  | .cellSaturated => .cellSaturated
  | .zeroDrift => .zeroDrift

/-- The kind of a flag (Table 10-1). -/
def FlagId.kind : FlagId → FaultKind
  | .crane k _ => k.kind
  | .bayIntrusion _ => .bayIntrusion
  | .estop _ => .estop
  | .hostSilent => .hostSilent
  | .noticeLost => .noticeLost
  | .powerUp => .powerUp
  | .restarted => .restarted

/-- Condition kinds; the others are event kinds (Table 10-1). -/
def conditionKind : FaultKind → Bool
  | .linkLost => true
  | .positionJump => false
  | .refDrift => false
  | .orderConflict => true
  | .overspeed => true
  | .driveFault => true
  | .overload => true
  | .underload => true
  | .cellSaturated => true
  | .zeroDrift => false
  | .bayIntrusion => true
  | .estop => true
  | .hostSilent => true
  | .noticeLost => false
  | .powerUp => false
  | .restarted => false

def FlagId.isCondition (f : FlagId) : Bool := conditionKind f.kind

/-- The crane of a crane flag. -/
def FlagId.crane? : FlagId → Option CraneId
  | .crane _ c => some c
  | .bayIntrusion _ => none
  | .estop _ => none
  | .hostSilent => none
  | .noticeLost => none
  | .powerUp => none
  | .restarted => none

def Fnu.flag (u : Fnu) (f : FlagId) : Flag := u.flags[f.index.val]

def Fnu.setFlag (u : Fnu) (f : FlagId) (v : Flag) : Fnu :=
  { u with flags := u.flags.set f.index.val v }

/-- The set mark. -/
def Fnu.isSet (u : Fnu) (f : FlagId) : Bool := (u.flag f).count.isSome

/-- Some flag of the crane is set (R171). -/
def Fnu.craneSet (u : Fnu) (c : CraneId) : Bool := allCraneFaults.any fun k => u.isSet (.crane k c)

/-- The FAULT signal: at least one unmasked flag is set (R178). -/
def Fnu.faultSignal (u : Fnu) : Bool :=
  allFlags.any fun f => u.isSet f && !u.masks.contains f.kind

/-- A set flag's raise count goes up and holds, a clear flag is set with count 1 (R175). -/
def Flag.raised (v : Flag) (live : Bool) : Flag :=
  match v.count with
  | none => ⟨some 1, live⟩
  | some n => ⟨some (bump n), live⟩

/-- A notice is queued, or dropped from a full queue with NOTICE_LOST raised (R179, R175). -/
def Fnu.offer (u : Fnu) (n : Notice) : Fnu :=
  if u.notices.length < Config.noticeMax then { u with notices := u.notices ++ [n] }
  else
    { u with
      lost := bump u.lost
      flags := u.flags.set FlagId.noticeLost.index.val ((u.flag .noticeLost).raised false) }

/-- An event occurrence or a condition onset (R175). -/
def Fnu.raise (u : Fnu) (f : FlagId) : Fnu :=
  let u' := u.setFlag f ((u.flag f).raised f.isCondition)
  if u.isSet f || f == .noticeLost then u'
  else u'.offer (.faultRaised f (if f.isCondition then some true else none))

/-- A condition end (R176). -/
def Fnu.endCond (u : Fnu) (latch : LatchMode) (f : FlagId) : Fnu :=
  match latch with
  | .realTime => u.setFlag f ⟨none, false⟩
  | .latched => u.setFlag f ⟨(u.flag f).count, false⟩

/-- A flag cleared, its condition-live mark kept (R177). -/
def Fnu.clear (u : Fnu) (f : FlagId) : Fnu := u.setFlag f ⟨none, (u.flag f).live⟩

/-! ## Beacons (R171) -/

/-- A flag of the crane is set: a beacon that is off turns on and its stretch starts. -/
def Beacon.onSet (b : Beacon) (now stretch : Nat) : Beacon :=
  match b.mode with
  | .host => b
  | .auto =>
    if b.on then b
    else { b with on := true, stretch := if stretch = 0 then none else some (now + 1000 * stretch) }

/-- The beacon judged against the flags: it stays on while one is set or its stretch runs. -/
def Beacon.judge (b : Beacon) (anySet : Bool) : Beacon :=
  match b.mode with
  | .host => b
  | .auto => if anySet || b.stretch.isSome then b else { b with on := false }

/-- The discrete I/O unit is told of the setting of a flag. -/
def Dio.flagSet (d : Dio) (f : FlagId) (now stretch : Nat) : Dio :=
  match f.crane? with
  | none => d
  | some c => { d with beacons := d.beacons.modify c fun b => b.onSet now stretch }

/-- The discrete I/O unit is told of the clearing of a flag. -/
def Dio.flagCleared (d : Dio) (f : FlagId) (u : Fnu) : Dio :=
  match f.crane? with
  | none => d
  | some c => { d with beacons := d.beacons.modify c fun b => b.judge (u.craneSet c) }

/-! ## On the state -/

/-- A notice offered to the queue (R179). -/
def State.notify (s : State) (n : Notice) : State := s.setFnu (s.fnu.offer n)

/-- An event occurrence or a condition onset reported to the fault and notice unit (R175). -/
def State.raise (s : State) (f : FlagId) : State :=
  (s.setFnu (s.fnu.raise f)).setDio
    (if s.fnu.isSet f then s.dio else s.dio.flagSet f s.now s.lsu.settings.beaconStretch)

/-- A condition end reported to the fault and notice unit (R176). -/
def State.endCond (s : State) (f : FlagId) : State :=
  let u := s.fnu.endCond s.lsu.settings.faultLatch f
  (s.setFnu u).setDio (if s.fnu.isSet f && !u.isSet f then s.dio.flagCleared f u else s.dio)

/-- A flag cleared by a FAULT-REPORT or a change of the latch mode, with the effects of a clear under
REAL_TIME (R176, R177). -/
def State.clearFlag (s : State) (f : FlagId) : State :=
  let u := s.fnu.clear f
  (s.setFnu u).setDio (if s.fnu.isSet f then s.dio.flagCleared f u else s.dio)

/-- The condition of a flag changes from `was` to `is`: an onset, an end, or no report (R174). -/
def State.report (s : State) (f : FlagId) (was is : Bool) : State :=
  if is && !was then s.raise f
  else if was && !is then s.endCond f
  else s

end Sys2Proof.Machine
end

