-- ==== Sys2Proof/Machine/Orders.lean ====
section
/-! DEFINITION. The command record of a crane: its order and target (R59), its speeds and raise allowed
(R89, R116), and its sending on the crane's port (R90, R187). -/

namespace Sys2Proof.Machine

/-- The position c_k of cradle k on a trailer (Table 8-4). -/
def PlanHead.position? (h : PlanHead) (k : Nat) : Option Nat :=
  if k = 0 then none else h.cradles[k - 1]?

/-- The installed plan of a bay. -/
def State.plan? (s : State) (b : BayId) : Option Plan := (s.bcu.bays.get b).bind (·.plan)

/-- The target of a source or destination (R54): a slot's x and y, or a cradle's place on the runway
and the bay's trailer y. -/
def State.target? (s : State) : Place → Option (Int × Nat)
  | .slot i => (s.slot? i).map fun t => ((t.geom.x : Int), t.geom.y)
  | .cradle b k =>
    match s.lsu.bays.get b, (s.plan? b).bind (·.head.position? k) with
    | some g, some c => some ((g.kingpinX : Int) + g.direction * (c : Int), g.trailerY)
    | _, _ => none

/-- The target of an order, 0 for an AUTO destination (Table 4-5). -/
def State.destTarget (s : State) : Dest → Int × Nat
  | .auto => (0, 0)
  | .place p => (s.target? p).getD (0, 0)

/-- The target a task's order carries: the source until the coil is lifted, then the destination
(Table 4-5). -/
def State.orderTarget (s : State) (t : Task) : Int × Nat :=
  if t.onHook then s.destTarget t.dest else s.destTarget (.place t.source)

/-- The order of a task that is not HELD, on a crane that is not halted (Table 4-5). -/
def phaseOrder : Phase → Order
  | .queued => .none
  | .dispatched => .goPick
  | .picking => .goPick
  | .weighing => .hold
  | .carrying => .goPlace
  | .placing => .goPlace

/-- The order of a crane with its task id and target (R59). -/
def State.orderOf (s : State) (c : CraneId) : Order × Nat × (Int × Nat) :=
  match s.inFlight? c with
  | none => (if (s.tcu.halts.get c).isSome then .hold else .none, 0, (0, 0))
  | some t =>
    (if (s.tcu.halts.get c).isSome || t.held then .hold else phaseOrder t.phase,
      t.id, s.orderTarget t)

/-- The speed of a class of a parameter set (R89). -/
def ParamSet.speed (p : ParamSet) : Class → Nat
  | .stop => 0
  | .creep => p.vCreep
  | .slow => p.vSlow
  | .full => p.vFull

/-- The speed of a class by a crane's active set (R89). -/
def State.classSpeed (s : State) (c : CraneId) (k : Class) : Nat :=
  match s.lsu.active.get c with
  | some p => p.speed k
  | none => 0

/-- The raise inhibit of a hoist is its live OVERLOAD condition (R116). -/
def State.raiseInhibit (s : State) (c : CraneId) : Bool :=
  match s.hoists.get c with
  | some h => h.conds.overload
  | none => false

/-- A command record of a defined crane in INVENTORY or RUN, with the classes and lower allowed given
and every other field as its owner holds it (R89). -/
def State.record (s : State) (c : CraneId) (fwd rev : Class) (lower : Bool) : CommandRec :=
  let (order, task, x, y) := s.orderOf c
  { fwd := fwd, rev := rev, fwdSpeed := s.classSpeed c fwd, revSpeed := s.classSpeed c rev,
    lower := lower, raise := !s.raiseInhibit c, order := order, task := task, x := x.toNat, y := y }

/-- The classes sent lately, with one more; those older than the largest reaction time are dropped, as
R98 looks back no further (log 34). -/
def logSent (now : Nat) (r : CommandRec) (log : List SentClass) : List SentClass :=
  ⟨now, r.fwd, r.rev⟩ :: log.filter fun e => now ≤ e.time + Config.reactMax

/-- A record starts on the line and becomes the last sent record (R90). -/
def Port.start (p : Port) (now : Nat) (r : CommandRec) : Port :=
  { p with sending := some r, lastSent := r, sentLog := logSent now r p.sentLog }

/-- A record is sent: it starts at once on an idle line, or waits in place of any that waits (R187). -/
def Port.send (p : Port) (now : Nat) (r : CommandRec) : Port :=
  match p.sending with
  | none => p.start now r
  | some _ => { p with waiting := some r }

/-- The end of a record on the line starts the record waiting, if any (R187). A port that sends nothing stays
as it is: the model's choice, log 53. -/
def Port.finish (p : Port) (now : Nat) : Port :=
  match p.sending, p.waiting with
  | some _, some r => { p.start now r with waiting := none }
  | some _, none => { p with sending := none }
  | none, _ => p

/-- A command record is sent on a crane's port. -/
def State.sendRecord (s : State) (c : CraneId) (r : CommandRec) : State :=
  s.modPort c fun p => p.send s.now r

end Sys2Proof.Machine
end

