-- ==== Sys2Proof/Machine/Collision.lean ====
section
/-! DEFINITION. The runway collision unit (07): stopping distances, claims, zones, available distances,
classes and caps, lowering, run enable, and the evaluation with its downgrade record (R138). -/

namespace Sys2Proof.Machine

/-! ## Stopping distance and claims -/

/-- d(v) (R123). -/
def ParamSet.stopDist (p : ParamSet) (v : Nat) : Nat :=
  v * p.react / 1000 + ceilDiv (v * v) (2 * p.decel)

/-- The class thresholds D_F, D_S, D_C (R123). -/
def ParamSet.dFull (p : ParamSet) : Nat := p.stopDist p.vFull
def ParamSet.dSlow (p : ParamSet) : Nat := p.stopDist p.vSlow
def ParamSet.dCreep (p : ParamSet) : Nat := p.stopDist p.vCreep

/-- The swing S of a load class (Table 6-6). -/
def LoadClass.swing : LoadClass → Nat
  | .empty => 0 | .light => 300 | .medium => 550 | .heavy => 800

/-- The swing of a collision record; 800 where no load class was given yet. -/
def RcuCrane.swing (r : RcuCrane) : Nat :=
  match r.load with
  | some l => l.swing
  | none => LoadClass.heavy.swing

/-- The LIVE claim (R124). -/
def liveClaim (p : ParamSet) (m : Motion) (swing : Nat) : Claim :=
  .live
    (m.p + (p.front : Int) + (swing : Int) + (if 0 < m.v then (p.stopDist m.v.natAbs : Int) else 0))
    (m.p - (p.rear : Int) - (swing : Int) - (if m.v < 0 then (p.stopDist m.v.natAbs : Int) else 0))

/-- The FROZEN claim of a lost crane (R125). -/
def frozenClaim (p : ParamSet) (pos : Int) : Claim :=
  .frozen (pos + (p.front : Int) + 800 + (p.dFull : Int)) (pos - (p.rear : Int) - 800 - (p.dFull : Int))

/-! ## The cranes of a runway -/

/-- The crane of a runway with an order index, in the committed layout. -/
def State.craneAt (s : State) (r : RunwayId) (k : Nat) : Option CraneId :=
  allNum4.find? fun c =>
    (s.links.get c).isSome &&
      match s.lsu.active.get c with
      | some p => p.runway == r && p.order == k
      | none => false

/-- The cranes of a runway, in order index (R122). -/
def State.cranesOn (s : State) (r : RunwayId) : List CraneId := [1, 2, 3].filterMap (s.craneAt r)

/-- The neighbours of a crane: the next higher and the next lower order index (R127). -/
def State.above (s : State) (c : CraneId) : Option CraneId :=
  (s.lsu.active.get c).bind fun p => s.craneAt p.runway (p.order + 1)
def State.below (s : State) (c : CraneId) : Option CraneId :=
  (s.lsu.active.get c).bind fun p => s.craneAt p.runway (p.order - 1)

/-- A crane's ORDER_CONFLICT condition is live while either of its pairs is in conflict (R97). -/
def State.orderConflict (s : State) (c : CraneId) : Bool :=
  (match s.links.get c with | some l => l.pairAbove | none => false) ||
    match s.below c with
    | none => false
    | some b => match s.links.get b with | some l => l.pairAbove | none => false

/-! ## Zones -/

/-- The zones of a runway: the geometry of each bay on it and its two conditions (R122). -/
def State.zonesOn (s : State) (r : RunwayId) : List (BayId × BayGeom × Zone) :=
  allNum4.filterMap fun b =>
    match s.lsu.bays.get b, s.rcu.zones.get b with
    | some g, some z => if g.runway = r then some (b, g, z) else none
    | _, _ => none

/-- A zone obstructs a crane (R126). -/
def obstructs (passHeight : Nat) (m : Motion) (z : Zone) : Bool :=
  (m.h < passHeight && z.closed) || (m.closed && z.manned)

/-- The hook point is inside a zone (R126). -/
def insideZone (m : Motion) (g : BayGeom) : Bool := (g.xLo : Int) ≤ m.p && m.p ≤ (g.xHi : Int)

/-! ## Available distance -/

/-- The least of the terms, floored at 0 (R127). -/
def leastTerm (first : Int) (rest : List Int) : Nat := (rest.foldl min first).toNat

/-- The neighbour term toward a claim, from its rear edge (forward) or its front edge (reverse). -/
def Claim.rear? : Claim → Option Int
  | .none => Option.none
  | .live _ r => Option.some r
  | .frozen _ r => some r
def Claim.front? : Claim → Option Int
  | .none => Option.none
  | .live f _ => Option.some f
  | .frozen f _ => some f

/-- The claim of a crane as it stands. -/
def State.claim (s : State) (c : CraneId) : Claim :=
  match s.rcu.cranes.get c with
  | some r => r.claim
  | none => .none

/-- The available distance forward (R127, R128, Table 7-4). -/
def State.availForward (s : State) (c : CraneId) (p : ParamSet) (m : Motion) (swing length : Nat) :
    Nat :=
  let lead := m.p + (p.front : Int) + (swing : Int)
  let gap := (s.lsu.settings.gap : Int)
  let zones := (s.zonesOn p.runway).filterMap fun (_, g, z) =>
    if obstructs s.lsu.settings.passHeight m z && m.p < (g.xLo : Int) then
      some ((g.xLo : Int) - m.p - (swing : Int) - gap) else none
  let ends := (length : Int) - lead - gap
  match s.above c with
  | none => leastTerm ends zones
  | some j =>
    match (s.claim j).rear? with
    | none => 0
    | some edge => leastTerm ends ((edge - lead - gap) :: zones)

/-- The available distance reverse (R127, R128, Table 7-4). -/
def State.availReverse (s : State) (c : CraneId) (p : ParamSet) (m : Motion) (swing : Nat) : Nat :=
  let lead := m.p - (p.rear : Int) - (swing : Int)
  let gap := (s.lsu.settings.gap : Int)
  let zones := (s.zonesOn p.runway).filterMap fun (_, g, z) =>
    if obstructs s.lsu.settings.passHeight m z && (g.xHi : Int) < m.p then
      some (m.p - (g.xHi : Int) - (swing : Int) - gap) else none
  let ends := lead - gap
  match s.below c with
  | none => leastTerm ends zones
  | some j =>
    match (s.claim j).front? with
    | none => 0
    | some edge => leastTerm ends ((lead - edge - gap) :: zones)

/-! ## Classes and caps -/

/-- The computed class of an available distance (R129). -/
def ParamSet.classOf (p : ParamSet) (a : Nat) : Class :=
  if p.dFull ≤ a then .full else if p.dSlow ≤ a then .slow else if p.dCreep ≤ a then .creep else .stop

/-- The caps in the order of Table 7-5. -/
def allCaps : List Cap :=
  [.stageConfig, .linkNotActive, .awaiting, .estop, .halt, .orderConflict, .overspeed, .driveFault,
   .stageInventory, .unreferenced, .insideZone]

/-- The class a cap leaves (Table 7-5). -/
def Cap.class : Cap → Class
  | .stageConfig => .stop
  | .linkNotActive => .stop
  | .awaiting => .stop
  | .estop => .stop
  | .halt => .stop
  | .orderConflict => .stop
  | .overspeed => .stop
  | .driveFault => .stop
  | .stageInventory => .creep
  | .unreferenced => .creep
  | .insideZone => .creep

/-- The crane's link is ACTIVE. -/
def State.linkActive (s : State) (c : CraneId) : Bool :=
  match s.links.get c with
  | some l => match l.link with | .active _ => true | .silent => false | .lost => false
  | none => false

/-- The ESTOP condition of the crane's runway. -/
def State.estopOf (s : State) (c : CraneId) : Bool :=
  match s.lsu.active.get c with
  | none => false
  | some p => match s.rcu.views.get p.runway with | some v => v.estop | none => false

/-- The crane's DRIVE_FAULT condition (R100). -/
def State.driveFault (s : State) (c : CraneId) : Bool :=
  match s.links.get c with | some l => l.driveFault | none => false

/-- The zones of a crane's runway. -/
def State.craneZones (s : State) (c : CraneId) : List (BayId × BayGeom × Zone) :=
  match s.lsu.active.get c with
  | none => []
  | some p => s.zonesOn p.runway

/-- The crane is inside a zone that obstructs it (Table 7-5). -/
def State.insideObstructing (s : State) (c : CraneId) (r : RcuCrane) : Bool :=
  match r.motion with
  | none => false
  | some m => (s.craneZones c).any fun (_, g, z) =>
      insideZone m g && obstructs s.lsu.settings.passHeight m z

/-- A cap is in force for a crane (Table 7-5). -/
def State.capHolds (s : State) (c : CraneId) (r : RcuCrane) : Cap → Bool
  | .stageConfig => s.lsu.stage == .config
  | .linkNotActive => !s.linkActive c
  | .awaiting => r.awaiting
  | .estop => s.estopOf c
  | .halt => (s.tcu.halts.get c).isSome
  | .orderConflict => s.orderConflict c
  | .overspeed => s.fnu.isSet (.crane .overspeed c)
  | .driveFault => s.driveFault c
  | .stageInventory => s.lsu.stage == .inventory
  | .unreferenced => !r.seenRef
  | .insideZone => s.insideObstructing c r

/-- The caps in force at an evaluation (R141), listed in the order of Table 7-5: the model's choice, log 54. -/
def State.capsOf (s : State) (c : CraneId) (r : RcuCrane) : List Cap := allCaps.filter (s.capHolds c r)

/-- The final class: the lowest of the computed class and the caps (R130). -/
def capped (k : Class) (caps : List Cap) : Class := caps.foldl (fun k c => k.min c.class) k

/-! ## Lowering and run enable -/

/-- The task control unit wants lowering: the in-flight task is PICKING or PLACING (Table 4-5). -/
def State.wantsLower (s : State) (c : CraneId) : Bool :=
  match s.inFlight? c with
  | none => false
  | some t => !t.held && (t.phase == .picking || t.phase == .placing)

/-- Lower allowed (R132). -/
def State.lowerAllowed (s : State) (c : CraneId) (r : RcuCrane) : Bool :=
  s.linkActive c && s.wantsLower c && (s.tcu.halts.get c).isNone &&
    match r.motion with
    | none => false
    | some m => (s.craneZones c).all fun (_, g, z) => !(insideZone m g && z.closed)

/-- RUN_ENABLE (R133). -/
def State.runEnableOf (s : State) (c : CraneId) (r : RcuCrane) : Bool :=
  !(s.lsu.stage == .config || !s.linkActive c || r.awaiting || s.estopOf c ||
    s.tcu.halts.get c == some .hard || s.fnu.isSet (.crane .overspeed c) || s.orderConflict c)

/-! ## Evaluation -/

/-- The part of an evaluation that only a crane whose link is ACTIVE has: available distances and
computed classes (R127, R129); the others keep theirs (log 22). -/
def State.withDistances (s : State) (c : CraneId) (r : RcuCrane) : RcuCrane :=
  match s.linkActive c, s.lsu.active.get c, r.motion with
  | true, some p, some m =>
    let length := match s.rcu.views.get p.runway with | some v => v.length | none => 0
    let f := s.availForward c p m r.swing length
    let b := s.availReverse c p m r.swing
    { r with availF := f, availR := b, compF := p.classOf f, compR := p.classOf b }
  | _, _, _ => r

/-- Step 3 of R135: distances, computed and final classes, lower allowed, RUN_ENABLE. -/
def State.evaluated (s : State) (c : CraneId) (r : RcuCrane) : RcuCrane :=
  let r := s.withDistances c r
  let caps := s.capsOf c r
  { r with
    caps := caps
    finalF := capped r.compF caps
    finalR := capped r.compR caps
    lower := s.lowerAllowed c r
    runEnable := s.runEnableOf c r }

/-- A crane is evaluated; nothing is sent. -/
def State.evalCrane (s : State) (c : CraneId) : State := s.modCrane c (s.evaluated c)

/-- An evaluation withdraws something that a command record carries (R90, R138). -/
def RcuCrane.downgrades (r : RcuCrane) (last : CommandRec) : Bool :=
  decide (r.finalF.rank < last.fwd.rank) || decide (r.finalR.rank < last.rev.rank) ||
    (!r.lower && last.lower)

/-- An evaluation withdraws something from what was last sent on a port (R90, R138), or from the record that
waits there and would go out next (R130, R134, R136; log 26). -/
def Port.withdrawn (p : Port) (r : RcuCrane) : Bool :=
  r.downgrades p.lastSent || p.waiting.any r.downgrades

/-- The link is ACTIVE or LOST, the states in which a downgrade is sent (R90). -/
def State.linkUp (s : State) (c : CraneId) : Bool :=
  match s.links.get c with
  | some l => match l.link with | .active _ => true | .silent => false | .lost => true
  | none => false

/-- The immediate record of R90 with the content of R138, where the evaluation withdraws something. -/
def State.sendDowngrade (s : State) (c : CraneId) : State :=
  match s.rcu.cranes.get c with
  | none => s
  | some r =>
    let last := (s.ports.get c).lastSent
    if s.linkUp c && (s.ports.get c).withdrawn r then
      s.sendRecord c (s.record c (r.finalF.min last.fwd) (r.finalR.min last.rev) (r.lower && last.lower))
    else s

/-- A crane is evaluated outside its own arrival (R136, R137, R135 step 4). -/
def State.evaluate (s : State) (c : CraneId) : State := (s.evalCrane c).sendDowngrade c

/-- Each of some cranes is evaluated. -/
def State.evaluateAll (s : State) (cs : List CraneId) : State := cs.foldl State.evaluate s

/-- Every crane of a runway is evaluated (R136). -/
def State.evaluateRunway (s : State) (r : RunwayId) : State := s.evaluateAll (s.cranesOn r)

/-- Every crane of every committed runway is evaluated (R139). -/
def State.evaluateYard (s : State) : State := (s.evaluateRunway .a).evaluateRunway .b

end Sys2Proof.Machine
end

