-- ==== Sys2Proof/Machine/Slots.lean ====
section
/-! DEFINITION. The slot map unit (02): tier rules, fit, the grant and release of reservations, the
movement of coils; and the slot selector (03). The tests read a slot map, so that a grant can be judged
with another counted as made (R28, R51). -/

namespace Sys2Proof.Machine

/-! ## Coils -/

/-- The weight used for a coil: measured if present, else declared (Table 2-4). -/
def Coil.weight (k : Coil) : Int := k.measured.getD (k.declared : Int)

def Coil.desc (k : Coil) : CoilDesc := ⟨k.width, k.diameter, k.weight, k.group⟩

def Smu.slot? (u : Smu) (i : Nat) : Option Slot := Table.find i u.slots
def Smu.coil? (u : Smu) (id : Nat) : Option Coil := Table.find id u.coils

/-- The coil record of a slot's occupant. -/
def Smu.occupant? (u : Smu) (i : Nat) : Option Coil :=
  match u.slot? i with
  | none => none
  | some t =>
    match t.state with
    | .occupied id => u.coil? id
    | .free => none
    | .blocked => none

def SlotState.isOccupied : SlotState → Bool
  | .occupied _ => true
  | .free => false
  | .blocked => false

def Reservation.isSource : Reservation → Bool
  | .source _ => true
  | .dest _ => false
  | .none => false

/-! ## Tier rules -/

/-- A support of a tier-2 slot is OCCUPIED and carries no SOURCE reservation (R23). -/
def Smu.supportOk (u : Smu) (i : Nat) : Bool :=
  match u.slot? i with
  | none => false
  | some t => t.state.isOccupied && !t.resv.isSource

/-- The first failing support of a slot, left before right (R23). -/
def Smu.failingSupport (u : Smu) (g : SlotGeom) : Option Nat :=
  match g.tier with
  | .one _ => none
  | .two l r => if !u.supportOk l then some l else if !u.supportOk r then some r else none

/-- A slot is OCCUPIED or carries a reservation of either kind (R24). -/
def Slot.inUse (t : Slot) : Bool := t.state.isOccupied || t.resv != .none

/-- The tier-2 slot that keeps a tier-1 slot from being a source: the one whose left support it is
before the one whose right support it is (R24, R34; log 15). -/
def Smu.blockedAbove (u : Smu) (i : Nat) : Option Nat :=
  let uses (left : Bool) : Option Nat :=
    (u.slots.find? fun e =>
      e.2.inUse &&
        match e.2.geom.tier with
        | .one _ => false
        | .two l r => if left then l == i else r == i).map (·.1)
  match uses true with
  | some j => some j
  | none => uses false

/-- A tier-2 coil is not heavier and not wider than a support's occupant (R25). -/
def Smu.bears (u : Smu) (d : CoilDesc) (i : Nat) : Bool :=
  match u.occupant? i with
  | none => false
  | some k => decide (d.weight ≤ k.weight) && decide (d.width ≤ k.width)

/-- The coil fits the slot (R25). -/
def Smu.fits (u : Smu) (d : CoilDesc) (g : SlotGeom) : Bool :=
  decide (d.diameter ≤ g.dMax) &&
    match g.tier with
    | .one mMax => decide (d.weight ≤ (mMax : Int))
    | .two l r => u.bears d l && u.bears d r

/-! ## Reservations -/

/-- The tests of a SOURCE reservation (R26). -/
def Smu.testSource (u : Smu) (i coil : Nat) : Option Nak :=
  match u.slot? i with
  | none => some ⟨.locationMismatch, 0⟩
  | some t =>
    if t.state ≠ .occupied coil then some ⟨.locationMismatch, 0⟩
    else if t.resv ≠ .none then some ⟨.reserved, 0⟩
    else match u.blockedAbove i with
      | some j => some ⟨.supportConflict, j⟩
      | none => none

/-- The tests of a DEST reservation (R27). -/
def Smu.testDest (u : Smu) (r : RunwayId) (i : Nat) (d : CoilDesc) : Option Nak :=
  match u.slot? i with
  | none => some ⟨.noSuchItem, i⟩
  | some t =>
    if t.geom.runway ≠ r then some ⟨.badValue, i⟩
    else if t.state ≠ .free then some ⟨.stateConflict, 0⟩
    else if t.resv ≠ .none then some ⟨.reserved, 0⟩
    else match u.failingSupport t.geom with
      | some j => some ⟨.supportConflict, j⟩
      | none => if u.fits d t.geom then none else some ⟨.notFit, i⟩

/-- A slot's reservation written. -/
def Smu.reserve (u : Smu) (i : Nat) (v : Reservation) : Smu :=
  { u with slots := Table.modify i (fun t => { t with resv := v }) u.slots }

/-- A slot's state written. -/
def Smu.setState (u : Smu) (i : Nat) (v : SlotState) : Smu :=
  { u with slots := Table.modify i (fun t => { t with state := v }) u.slots }

/-- A reservation released; a slot that does not carry it is not touched (R29). -/
def Smu.release (u : Smu) (i : Nat) (v : Reservation) : Smu :=
  { u with slots := Table.modify i (fun t => if t.resv = v then { t with resv := .none } else t) u.slots }

/-- A coil record changed. -/
def Smu.modCoil (u : Smu) (id : Nat) (f : Coil → Coil) : Smu :=
  { u with coils := Table.modify id f u.coils }

/-- The two reservations of a task judged as one (R28): the source first, then the destination with the
source counted as granted. -/
def Smu.testBoth (u : Smu) (task coil : Nat) (r : RunwayId) (d : CoilDesc) (src : Place) (dst : Dest) :
    Option Nak :=
  let source : Option Nak :=
    match src with
    | .slot i => u.testSource i coil
    | .cradle _ _ => none
  match source with
  | some n => some n
  | none =>
    let u' := match src with
      | .slot i => u.reserve i (.source task)
      | .cradle _ _ => u
    match dst with
    | .place (.slot j) => u'.testDest r j d
    | .place (.cradle _ _) => none
    | .auto => none

/-- The reservations of a task granted (R26, R27). -/
def Smu.grantSource (u : Smu) (task : Nat) : Place → Smu
  | .slot i => u.reserve i (.source task)
  | .cradle _ _ => u
def Smu.grantDest (u : Smu) (task : Nat) : Dest → Smu
  | .place (.slot i) => u.reserve i (.dest task)
  | .place (.cradle _ _) => u
  | .auto => u

/-- The reservations of a task released (R29). -/
def Smu.releaseSource (u : Smu) (task : Nat) : Place → Smu
  | .slot i => u.release i (.source task)
  | .cradle _ _ => u
def Smu.releaseDest (u : Smu) (task : Nat) : Dest → Smu
  | .place (.slot i) => u.release i (.dest task)
  | .place (.cradle _ _) => u
  | .auto => u

/-! ## Movement of coils -/

/-- A lift: the coil goes to the hook, and a source slot becomes FREE and keeps its reservation (R30). -/
def Smu.lift (u : Smu) (t : Task) (c : CraneId) : Smu :=
  let u' := u.modCoil t.coil fun k => { k with location := .hook c }
  match t.source with
  | .slot i => u'.setState i .free
  | .cradle _ _ => u'

/-- A release of the coil at the destination, with the task's reservations and the coil's task field
(R31). -/
def Smu.putDown (u : Smu) (t : Task) : Smu :=
  let u' := match t.dest with
    | .place (.slot i) =>
      (u.modCoil t.coil fun k => { k with location := .slot i, task := none }).setState i (.occupied t.coil)
    | .place (.cradle b n) => u.modCoil t.coil fun k => { k with location := .cradle b n, task := none }
    | .auto => u.modCoil t.coil fun k => { k with task := none }
  (u'.releaseSource t.id t.source).releaseDest t.id t.dest

/-- Coil records deleted: those of the list `ids` still on a cradle of the bay (R38). -/
def Smu.deleteOnTruck (u : Smu) (b : BayId) (ids : List Nat) : Smu :=
  { u with coils := u.coils.filter fun e =>
      !(ids.contains e.1 && match e.2.location with | .cradle b' _ => b' == b | .slot _ => false | .hook _ => false) }

/-- Every coil record located on a cradle of the bay deleted (R38, R164). -/
def Smu.deleteBay (u : Smu) (b : BayId) : Smu :=
  { u with coils := u.coils.filter fun e =>
      !(match e.2.location with | .cradle b' _ => b' == b | .slot _ => false | .hook _ => false) }

/-- The plan field of some coils written (R38). -/
def Smu.setPlan (u : Smu) (ids : List Nat) (p : Option BayId) : Smu :=
  { u with coils := u.coils.map fun e => if ids.contains e.1 then (e.1, { e.2 with plan := p }) else e }

/-- Every slot FREE with reservation NONE, and the register empty (R20, R39). -/
def Smu.emptied (u : Smu) : Smu :=
  { slots := u.slots.map fun e => (e.1, { e.2 with state := .free, resv := .none }), coils := [] }

/-! ## Slot selection (03) -/

/-- The occupant departs earlier than a coil of group `g` (R44). -/
def departsEarlier (occupant g : Nat) : Bool := occupant != 0 && (g == 0 || decide (occupant < g))

/-- The burial term of one support (Table 3-3). -/
def Smu.burial (u : Smu) (g i : Nat) : Nat :=
  match u.occupant? i with
  | none => 0
  | some k => if departsEarlier k.group g then 100 else 0

/-- The slot passes the tests of R42. -/
def Smu.isCandidate (u : Smu) (r : RunwayId) (d : CoilDesc) (t : Slot) : Bool :=
  t.geom.runway == r && t.state == .free && t.resv == .none &&
    (u.failingSupport t.geom).isNone && u.fits d t.geom

/-- The cost terms of a candidate (Table 3-2). -/
def Smu.costOf (u : Smu) (penalty : Nat) (x : Int) (d : CoilDesc) (g : SlotGeom) : CostTerms where
  distance := ((g.x : Int) - x).natAbs / 1000
  tier := match g.tier with | .one _ => 0 | .two _ _ => penalty
  burial := match g.tier with | .one _ => 0 | .two l r => u.burial d.group l + u.burial d.group r
  affinity := if g.group ≠ 0 ∧ g.group ≠ d.group then 15 else 0

def CostTerms.total (c : CostTerms) : Nat := c.distance + c.tier + c.burial + c.affinity

/-- The candidates with their costs, in ascending index. -/
def Smu.candidates (u : Smu) (penalty : Nat) (r : RunwayId) (x : Int) (d : CoilDesc) :
    List (Nat × CostTerms) :=
  (u.slots.filter fun e => u.isCandidate r d e.2).map fun e => (e.1, u.costOf penalty x d e.2.geom)

/-- The cheapest of a list, the first of those that share the lowest cost (R45). -/
def cheapest : List (Nat × CostTerms) → Option (Nat × CostTerms)
  | [] => none
  | e :: rest =>
    match cheapest rest with
    | none => some e
    | some f => if f.2.total < e.2.total then some f else some e

/-- A selection: the winner with its cost terms, or none for NO_SLOT (R45). -/
def Smu.select (u : Smu) (penalty : Nat) (r : RunwayId) (x : Int) (d : CoilDesc) :
    Option (Nat × CostTerms) :=
  cheapest (u.candidates penalty r x d)

end Sys2Proof.Machine
end

