-- ==== Sys2Proof/Machine/Axle.lean ====
section
/-! DEFINITION. Axle arithmetic and the axle checks of load plans (08 §8.6, §8.7). -/

namespace Sys2Proof.Machine

/-- The rear share of a weight at a position (R158): m × c / L, a half going up. -/
def rearShare (m : Int) (c length : Nat) : Int :=
  (2 * m * (c : Int) + (length : Int)) / (2 * (length : Int))

/-- The totals K, A and Gross over coils given by weight and position (R158). -/
def PlanHead.totals (h : PlanHead) (coils : List (Int × Nat)) : Totals :=
  coils.foldl
    (fun t e =>
      let rear := rearShare e.1 e.2 h.length
      ⟨t.k + (e.1 - rear), t.a + rear, t.gross + e.1⟩)
    ⟨(h.eK : Int), (h.eA : Int), (h.eK : Int) + (h.eA : Int)⟩

/-- The first limit passed, in the order K, A, Gross: 1, 2 or 3 (R157, Table 11-5). -/
def PlanHead.limitPassed (h : PlanHead) (t : Totals) : Option Nat :=
  if (h.kLim : Int) < t.k then some 1
  else if (h.aLim : Int) < t.a then some 2
  else if (h.gLim : Int) < t.gross then some 3
  else none

/-- A set of coils is within the plan's limits (R158). -/
def PlanHead.within (h : PlanHead) (coils : List (Int × Nat)) : Bool :=
  (h.limitPassed (h.totals coils)).isNone

/-- A coil at a cradle, by its current weight and the cradle's position. -/
def Smu.standing (u : Smu) (h : PlanHead) (coil cradle : Nat) : Option (Int × Nat) :=
  match u.coil? coil, h.position? cradle with
  | some k, some c => some (k.weight, c)
  | _, _ => none

/-- The entries ahead of the entry at a cradle, in loading order. -/
def Plan.ahead (p : Plan) (cradle : Nat) : List Entry := p.entries.takeWhile fun e => e.cradle != cradle

/-- The axle prediction (R159): every entry ahead of the task's own, whatever its status, with the
task's coil. -/
def Smu.predict (u : Smu) (p : Plan) (coil cradle : Nat) : Bool :=
  p.head.within
    (((p.ahead cradle).map fun e => (e.coil, e.cradle)) ++ [(coil, cradle)]
      |>.filterMap fun e => u.standing p.head e.1 e.2)

/-- Every entry ahead of the task's own is PLACED (R160). -/
def Plan.orderReached (p : Plan) (cradle : Nat) : Bool :=
  (p.ahead cradle).all fun e => e.status == .placed

/-- The PLACED coils of a plan at their current weights. -/
def Smu.placed (u : Smu) (p : Plan) : List (Int × Nat) :=
  (p.entries.filter fun e => e.status == .placed).filterMap fun e => u.standing p.head e.coil e.cradle

/-- The final check (R160): every PLACED entry with the task's coil. -/
def Smu.finalCheck (u : Smu) (p : Plan) (coil cradle : Nat) : Bool :=
  p.head.within (u.placed p ++ (u.standing p.head coil cradle).toList)

/-- The plan check (R157): the first prefix over a limit with the limit it passes, over declared weights
given in loading order with their positions. -/
def PlanHead.failingPrefix (h : PlanHead) (coils : List (Int × Nat)) : Option (Nat × Nat) :=
  (List.range coils.length).findSome? fun k =>
    (h.limitPassed (h.totals (coils.take (k + 1)))).map fun l => (k + 1, l)

/-- An entry whose cradle and coil are these changes status from one to another (Table 8-7). -/
def Plan.change (p : Plan) (cradle coil : Nat) (before after : EntryStatus) : Plan :=
  { p with entries := p.entries.map fun e =>
      if e.cradle = cradle ∧ e.coil = coil ∧ e.status = before then { e with status := after } else e }

/-- The plan is complete (R150): LOAD, every entry PLACED or closed; UNLOAD, every entry REMOVED. -/
def Plan.complete (p : Plan) : Bool :=
  match p.head.kind with
  | .load => p.closed || p.entries.all fun e => e.status == .placed
  | .unload => p.entries.all fun e => e.status == .removed

end Sys2Proof.Machine
end

