-- ==== Sys2Proof/Machine/Lines.lean ====
section
/-! DEFINITION. The discrete I/O unit (09): levels of input functions, output signals and drives. -/

namespace Sys2Proof.Machine

/-! ## Input functions -/

/-- The 18 functions in the order of Table 9-1. -/
def allInputFns : List InputFn :=
  allNum4.map .ref ++ allRunways.map .estop ++ allNum4.map .curtain ++ allNum4.map .driver
    ++ allNum4.map .chocks

/-- The assignment of a function. -/
def InTable.get (t : InTable) : InputFn → InAssign
  | .ref c => t.ref.get c
  | .estop r => t.estop.get r
  | .curtain b => t.curtain.get b
  | .driver b => t.driver.get b
  | .chocks b => t.chocks.get b

/-- The assignment of a function replaced as a whole (R168). -/
def InTable.set (t : InTable) (f : InputFn) (a : InAssign) : InTable :=
  match f with
  | .ref c => { t with ref := t.ref.set c a }
  | .estop r => { t with estop := t.estop.set r a }
  | .curtain b => { t with curtain := t.curtain.set b a }
  | .driver b => { t with driver := t.driver.set b a }
  | .chocks b => { t with chocks := t.chocks.set b a }

/-- Event functions; the others are level functions (Table 9-1). -/
def isEventFn : InputFn → Bool
  | .ref _ => true
  | .estop _ => false
  | .curtain _ => false
  | .driver _ => false
  | .chocks _ => false

/-- The mode fits the function's class (R168 check 3). -/
def modeFits (f : InputFn) (m : InputMode) : Bool :=
  match m with
  | .level => !isEventFn f
  | .rising => isEventFn f
  | .falling => isEventFn f
  | .any => isEventFn f

/-- The level of an assignment over the lines (R167). -/
def InAssign.level (a : InAssign) (lines : Vector Line 32) : Bool :=
  match a.selection with
  | 0 => false
  | 1 => true
  | n + 2 =>
    match lines[n]? with
    | some l => l.level != a.invert
    | none => false

/-- The level of a function (R167). -/
def Dio.fnLevel (d : Dio) (f : InputFn) : Bool := (d.inputs.get f).level d.lines

/-- An event function fires at a change of its level (R167). -/
def fires (m : InputMode) (before after : Bool) : Bool :=
  match m with
  | .level => false
  | .rising => !before && after
  | .falling => before && !after
  | .any => before != after

/-- The three inputs of a bay (R143). -/
def Dio.bayInputs (d : Dio) (b : BayId) : BayInputs :=
  ⟨d.fnLevel (.curtain b), d.fnLevel (.driver b), d.fnLevel (.chocks b)⟩

/-- A line changed. -/
def Dio.setLine (d : Dio) (k : Fin 32) (l : Line) : Dio := { d with lines := d.lines.set k.val l }

/-! ## Output signals -/

/-- The value of an output signal (Table 9-2). -/
def State.signal (s : State) : Signal → Bool
  | .runEnable c => match s.rcu.cranes.get c with | some r => r.runEnable | none => false
  | .beacon c => (s.dio.beacons.get c).on
  | .gateLock b => match s.bcu.bays.get b with | some y => y.state == .working | none => false
  | .fault => s.fnu.faultSignal
  | .yardRun => s.lsu.stage == .run

/-- What an output line carries (R169). -/
def State.drive (s : State) (a : OutAssign) : Drive :=
  match a.mode with
  | .off => .inactive
  | .on => .active
  | .signal => if s.signal a.signal then .active else .inactive
  | .inverted => if s.signal a.signal then .inactive else .active
  | .released => .released

end Sys2Proof.Machine
end

