-- ==== Sys2Proof/Machine/Bays.lean ====
section
/-! DEFINITION. The bay control unit (08): bay conditions, the zone report, bay states, the work set and
trail timer, plan entries, and the discard of a plan being built. -/

namespace Sys2Proof.Machine

/-! ## Conditions (R143) -/

def BayInputs.secure (i : BayInputs) (latch : Bool) : Bool :=
  i.chocks && !i.driver && !i.curtain && !latch

def BayInputs.manned (i : BayInputs) (latch : Bool) : Bool := i.driver || i.curtain || latch

def Bay.secure (y : Bay) : Bool := y.live.secure y.latch
def Bay.closed (y : Bay) : Bool := !y.secure
def Bay.manned (y : Bay) : Bool := y.live.manned y.latch
def Bay.zone (y : Bay) : Zone := ⟨y.closed, y.manned⟩

/-- BAY_INTRUSION is live while the bay is WORKING and not secure (R151). -/
def Bay.intruded (y : Bay) : Bool := y.state == .working && !y.secure

/-- The record at COMMIT-LAYOUT (Table 8-2). -/
def Bay.fresh (live : BayInputs) (mode : CurtainMode) : Bay where
  state := .empty
  live := live
  mode := mode
  latch := false
  snapshot := live
  frozen := false
  work := []
  trail := none
  plan := none
  intrusion := false

/-! ## Changes of a bay -/

/-- The BAY_INTRUSION condition follows the bay's state and secure value (R151). -/
def State.followIntrusion (s : State) (b : BayId) : State :=
  match s.bcu.bays.get b with
  | none => s
  | some y =>
    (s.modBay b fun y => { y with intrusion := y.intruded }).report (.bayIntrusion b) y.intrusion
      y.intruded

/-- A bay takes a state, with its BAY-STATE notice (R151). -/
def State.setBayState (s : State) (b : BayId) (v : BayState) : State :=
  match s.bcu.bays.get b with
  | none => s
  | some y =>
    if y.state = v then s
    else
      ((s.modBay b fun y => { y with state := v }).notify
        (.bayState b y.state v y.secure y.manned)).followIntrusion b

/-- PRESENT and SECURED follow secure (R148). -/
def State.followSecure (s : State) (b : BayId) : State :=
  match s.bcu.bays.get b with
  | none => s
  | some y =>
    match y.state with
    | .present => if y.secure then s.setBayState b .secured else s
    | .secured => if y.secure then s else s.setBayState b .present
    | .working => s.followIntrusion b
    | .empty => s
    | .complete => s

/-- The zone of a bay takes the bay's closed and manned values; a change evaluates the runway (R143,
R136). -/
def State.reportZone (s : State) (b : BayId) : State :=
  match s.bcu.bays.get b, s.rcu.zones.get b, s.lsu.bays.get b with
  | some y, some z, some g =>
    if z = y.zone then s
    else (s.setRcu { s.rcu with zones := s.rcu.zones.set b (some y.zone) }).evaluateRunway g.runway
  | _, _, _ => s

/-- The bay's conditions have been derived again (R143): the zone report, then the state. -/
def State.bayDerived (s : State) (b : BayId) : State := (s.reportZone b).followSecure b

/-- The latch after an input event (R144). -/
def Bay.latchAt (y : Bay) (new : BayInputs) : Bool :=
  y.latch || (y.mode == .latched && !y.live.curtain && new.curtain)

/-- The snapshot after an input event; the flag says whether a BAY-INPUTS notice is queued (R146). -/
def Bay.atInputs (y : Bay) (new : BayInputs) : Bay × Bool :=
  let moved := !y.frozen && decide (new ≠ y.live)
  ({ y with
      latch := y.latchAt new
      live := new
      snapshot := if moved then new else y.snapshot
      frozen := y.frozen || moved }, moved)

/-- The BAY-INPUTS notice of a bay as it stands (R146). -/
def State.notifyInputs (s : State) (b : BayId) (y : Bay) : State :=
  s.notify (.bayInputs b y.snapshot y.latch y.secure y.manned)

/-- An input event of a bay (R143, R144, R146, R148, R151; log 13). -/
def State.bayEvent (s : State) (b : BayId) (new : BayInputs) : State :=
  match s.bcu.bays.get b with
  | none => s
  | some y =>
    let (y', moved) := y.atInputs new
    let s := s.modBay b fun _ => y'
    let s := if moved then s.notifyInputs b y' else s
    s.bayDerived b

/-- The expiry of a bay's trail timer (R150). -/
def State.trailExpire (s : State) (b : BayId) : State :=
  let s := s.modBay b fun y => { y with trail := none }
  match s.bcu.bays.get b with
  | none => s
  | some y =>
    if y.state ≠ .working then s
    else if (match y.plan with | some p => p.complete | none => false) then s.setBayState b .complete
    else if y.secure then s.setBayState b .secured
    else s.setBayState b .present

/-- A task starts having work in flight at a bay (R149). -/
def State.workStart (s : State) (b : BayId) (id : Nat) : State :=
  match s.bcu.bays.get b with
  | none => s
  | some y =>
    if y.work.contains id then s
    else
      let s := s.modBay b fun y => { y with work := y.work ++ [id], trail := none }
      match y.state with
      | .present => s.setBayState b .working
      | .secured => s.setBayState b .working
      | .empty => s
      | .working => s
      | .complete => s

/-- A task stops having work in flight at a bay (R149). -/
def State.workStop (s : State) (b : BayId) (id : Nat) : State :=
  match s.bcu.bays.get b with
  | none => s
  | some y =>
    if !y.work.contains id then s
    else
      let work := y.work.filter (· != id)
      let s := s.modBay b fun y => { y with work := work }
      if work ≠ [] then s
      else if s.lsu.settings.trailTime = 0 then s.trailExpire b
      else s.modBay b fun y => { y with trail := some (s.now + 1000 * s.lsu.settings.trailTime) }

/-- The bays a task references, each once, in bay order. -/
def Task.bays (t : Task) : List BayId := allNum4.filter t.references

/-- A task starts, or stops, at every bay it references (R61, R70). -/
def State.workStartAll (s : State) (t : Task) : State :=
  t.bays.foldl (fun s b => s.workStart b t.id) s
def State.workStopAll (s : State) (t : Task) : State :=
  t.bays.foldl (fun s b => s.workStop b t.id) s

/-! ## Plans -/

/-- The installed plan of a bay changed. -/
def State.modPlan (s : State) (b : BayId) (f : Plan → Plan) : State :=
  s.modBay b fun y => { y with plan := y.plan.map f }

/-- An entry named by a cradle place and a coil changes status (Table 8-7). -/
def State.entryAt (s : State) (p : Place) (coil : Nat) (before after : EntryStatus) : State :=
  match p with
  | .slot _ => s
  | .cradle b k => s.modPlan b fun pl => pl.change k coil before after

/-- An entry named by a destination changes status. -/
def State.entryTo (s : State) (d : Dest) (coil : Nat) (before after : EntryStatus) : State :=
  match d with
  | .auto => s
  | .place p => s.entryAt p coil before after

/-- The coil ids a build has created records for (R155). -/
def Build.created (u : Build) : List Nat :=
  match u.head.kind with
  | .load => []
  | .unload => u.entries.map (·.2)

/-- A plan being built is discarded, with the records it created (R156, R38). -/
def State.discardBuild (s : State) : State :=
  match s.bcu.build with
  | none => s
  | some u => (s.setSmu (s.smu.deleteOnTruck u.bay u.created)).setBcu { s.bcu with build := none }

/-- The first live task that references a bay, by crane and queue order (R162, R163). -/
def State.firstReference (s : State) (b : BayId) : Option Task :=
  allNum4.findSome? fun c => (s.tcu.queues.get c).find? fun t => t.references b

end Sys2Proof.Machine
end

