-- ==== Sys2Proof/Machine/Weighing.lean ====
section
/-! DEFINITION. The weighing unit (06): samples and weights, the result of a record, freeze conditions,
zeroing, load class, verification. -/

namespace Sys2Proof.Machine

/-! ## Weights and results -/

/-- The weight of a raw count (R105). -/
def weightOf (z : Int) (gain : Nat) (r : Int) : Int := roundHalfAway ((r - z) * (gain : Int)) 1000000

/-- The window after a sample has joined (R104). -/
def joinWindow (w : List Int) (r : Int) : List Int := (w ++ [r]).drop (w.length + 1 - Config.windowMax)

def Hoist.weights (h : Hoist) (gain : Nat) : List Int := h.window.map (weightOf h.z gain)

def Hoist.full (h : Hoist) : Bool := h.window.length == Config.windowMax

/-- The filtered weight of eight weights (R106). -/
def filteredOf (ws : List Int) : Int := roundHalfAway ws.sum Config.windowMax

/-- The recorded weight of a filtered weight (R106). -/
def recordedOf (filtered : Int) : Int := 10 * roundHalfAway filtered 10

/-- The largest weight minus the smallest is not greater than the band (R106). -/
def steadyOf (band : Nat) (ws : List Int) : Bool :=
  ws.all fun a => ws.all fun b => decide (a - b ≤ (band : Int))

def WeighState.zeroInDate : WeighState → Bool
  | .zeroed => true
  | .due => true
  | .unzeroed => false
  | .stale => false

/-- The result of a window (R106, R107); `grabOpen` is what the record says of the grab. -/
def Hoist.form (h : Hoist) (gain band : Nat) (grabOpen : Bool) : WeighResult :=
  let ws := h.weights gain
  let filtered := if h.full then some (filteredOf ws) else none
  let steady := h.full && steadyOf band ws
  let valid := h.full && h.state.zeroInDate && h.frozen.isNone
  { count := h.window.length, filtered := filtered, recorded := filtered.map recordedOf,
    steady := steady, valid := valid, stable := valid && steady && !grabOpen }

/-- The result of a window that is not full. -/
def WeighResult.absent : WeighResult := ⟨0, none, none, false, false, false⟩

/-- The record at COMMIT-LAYOUT (Table 6-1). -/
def Hoist.fresh : Hoist where
  window := []
  z := 0
  state := .unzeroed
  counter := 0
  frozen := none
  conds := ⟨false, false, false⟩
  result := .absent
  loadClass := none

/-! ## Freeze (R113, R114) -/

/-- The three conditions of a window. -/
def Hoist.judge (h : Hoist) (gain capacity : Nat) (grabOpen : Bool) : FreezeConds :=
  let filtered := filteredOf (h.weights gain)
  let judged := h.full && h.state != .unzeroed && !grabOpen
  { saturated := h.window.any fun r => r == Config.countMax || r == Config.countMin
    overload := judged && decide ((capacity : Int) * 110 < filtered * 100)
    underload := judged && decide (filtered < -250) }

/-- The conditions that begin. -/
def FreezeConds.onsets (now was : FreezeConds) : FreezeConds :=
  ⟨now.saturated && !was.saturated, now.overload && !was.overload, now.underload && !was.underload⟩

def FreezeConds.any (c : FreezeConds) : Bool := c.saturated || c.overload || c.underload

/-- Weighing conditions in a detail (Table 11-5). -/
def FreezeConds.bits (c : FreezeConds) : Nat :=
  c.saturated.toNat + 2 * c.overload.toNat + 4 * c.underload.toNat

/-- The frozen result of a result (Table 6-5). -/
def WeighResult.freeze (r : WeighResult) (cause : FreezeConds) (state : WeighState) : Frozen :=
  ⟨cause, r.filtered, r.recorded, r.steady, r.count, state⟩

/-- The conditions of a hoist reported to the fault and notice unit (R113; log 31). -/
def State.reportConds (s : State) (c : CraneId) (was now : FreezeConds) : State :=
  ((s.report (.crane .cellSaturated c) was.saturated now.saturated).report
    (.crane .overload c) was.overload now.overload).report
    (.crane .underload c) was.underload now.underload

/-- Step 2 of R107. -/
def State.weighFreeze (s : State) (c : CraneId) (p : ParamSet) (grabOpen : Bool) : State :=
  match s.hoists.get c with
  | none => s
  | some h =>
    let conds := h.judge p.gain p.capacity grabOpen
    let onsets := conds.onsets h.conds
    let cold := h.form p.gain s.lsu.settings.stabilityBand grabOpen
    let frozen := cold.freeze onsets h.state
    let freezes := onsets.any && h.frozen.isNone
    let s' := s.modHoist c fun h =>
      { h with conds := conds, frozen := if freezes then some frozen else h.frozen }
    let s' := s'.reportConds c h.conds conds
    if freezes then s'.notify (.weighFrozen c frozen) else s'

/-! ## Zeroing -/

/-- The band check of R109: |filtered| ≤ floor(capacity × 2 / 100). -/
def inZeroBand (capacity : Nat) (filtered : Int) : Bool := decide (filtered.natAbs ≤ capacity * 2 / 100)

/-- The value a zero loads into the counter (R110). -/
def rezeroLoad (n : Nat) : Nat := if n = 0 then 256 else n

/-- The new zero offset: the mean of the raw counts (R110). -/
def zeroOf (window : List Int) : Int := roundHalfAway window.sum Config.windowMax

/-- What an accepted zero reports (R110). -/
def Hoist.zeroTaken (h : Hoist) (c : CraneId) (cause : ZeroCause) (rezero : Nat) : ZeroTaken :=
  ⟨c, zeroOf h.window, cause, h.state, rezeroLoad rezero⟩

/-- A zero is taken (R110). -/
def State.takeZero (s : State) (c : CraneId) (h : Hoist) (cause : ZeroCause) : State :=
  let z := h.zeroTaken c cause s.lsu.settings.rezeroCount
  (s.modHoist c fun h => { h with z := z.z, state := .zeroed, counter := z.loaded }).notify (.zeroTaken z)

/-- Step 3 of R107: the automatic zero (R112). -/
def State.autoZero (s : State) (c : CraneId) (p : ParamSet) (grabOpen : Bool) : State :=
  match s.hoists.get c with
  | none => s
  | some h =>
    let r := h.form p.gain s.lsu.settings.stabilityBand grabOpen
    if h.state = .due ∧ grabOpen ∧ r.steady ∧ h.frozen = none then
      if inZeroBand p.capacity (r.filtered.getD 0) then s.takeZero c h .auto
      else (s.modHoist c fun h => { h with state := .stale }).raise (.crane .zeroDrift c)
    else s

/-- A task of the crane has reached DONE (R111). -/
def Hoist.countDown (h : Hoist) : Hoist :=
  match h.state with
  | .zeroed =>
    { h with counter := h.counter - 1, state := if h.counter - 1 = 0 then .due else .zeroed }
  | .due => h
  | .stale => h
  | .unzeroed => h

/-! ## Arrival -/

/-- The load class of a record (Table 6-6). -/
def loadClassOf (grabOpen : Bool) (r : WeighResult) : LoadClass :=
  if grabOpen then .empty
  else
    match r.valid, r.filtered with
    | true, some w => if w < 10000 then .light else if w < 25000 then .medium else .heavy
    | _, _ => .heavy

def Grab.isOpen : Grab → Bool
  | .opened => true
  | .closed => false
  | .unknown => false

/-- Steps 4 and 5 of R107: the result and the load class of the record. -/
def Hoist.conclude (h : Hoist) (p : ParamSet) (band : Nat) (grabOpen : Bool) : Hoist :=
  let r := h.form p.gain band grabOpen
  { h with result := r, loadClass := some (loadClassOf grabOpen r) }

/-- An arrival at the weighing unit (R107), with the active set as it stands. -/
def State.weighArrive (s : State) (c : CraneId) (r : StatusRec) : State :=
  match s.lsu.active.get c with
  | none => s
  | some p =>
    let grabOpen := r.grab.isOpen
    let s := s.modHoist c fun h => { h with window := joinWindow h.window r.count }
    let s := s.weighFreeze c p grabOpen
    let s := s.autoZero c p grabOpen
    s.modHoist c fun h => h.conclude p s.lsu.settings.stabilityBand grabOpen

/-- The window is emptied, and the conditions end with it (R104, R113). -/
def State.emptyWindow (s : State) (c : CraneId) : State :=
  match s.hoists.get c with
  | none => s
  | some h =>
    (s.modHoist c fun h =>
      { h with window := [], conds := ⟨false, false, false⟩, result := .absent }).reportConds c h.conds
        ⟨false, false, false⟩

/-- Verification of a recorded weight against the declared weight (R117). -/
def verifies (tolerance : Nat) (w : Int) (declared : Nat) : Bool :=
  decide ((w - (declared : Int)).natAbs ≤ max (declared * tolerance / 1000) 100)

end Sys2Proof.Machine
end

