-- ==== Sys2Proof/Machine/Tasks.lean ====
section
/-! DEFINITION. The task control unit (04): notices, holds, the weighing exit, phase reports, dispatch. -/

namespace Sys2Proof.Machine

/-! ## Notices and writing a task -/

/-- The TASK-STATE notice of a task in a given state (R83). -/
def Task.notice (t : Task) (c : CraneId) (state : TaskState) : Notice :=
  .taskState ⟨t.id, c, t.coil, t.kind, state, t.dest, t.hold.map fun h => (h, t.phase)⟩

/-- A task written over the task with its id, and its TASK-STATE notice queued (R83). -/
def State.putTask (s : State) (c : CraneId) (t : Task) : State := s.modTask c t.id fun _ => t
def State.advance (s : State) (c : CraneId) (t : Task) : State :=
  (s.putTask c t).notify (t.notice c t.state)

/-- A task held with a reason from a state (R71). -/
def Task.heldWith (t : Task) (why : HoldReason) (from_ : Phase) (offered : Option Int) : Task :=
  { t with hold := some why, phase := from_, deadline := none, fresh := false, offered := offered }

/-- A task that works in a state again, no longer held. -/
def Task.working (t : Task) (p : Phase) (fresh : Bool) (deadline : Option Nat) : Task :=
  { t with hold := none, phase := p, fresh := fresh, deadline := deadline, offered := none }

def State.holdTask (s : State) (c : CraneId) (t : Task) (why : HoldReason) (from_ : Phase)
    (offered : Option Int) : State :=
  s.advance c (t.heldWith why from_ offered)

/-- The hold of R72, at a link loss or a reference loss. A task that already has the reason is held again, with
another notice: the model's choice, log 21. -/
def State.holdInFlight (s : State) (c : CraneId) (why : HoldReason) : State :=
  match s.inFlight? c with
  | none => s
  | some t =>
    if why = .referenceLost ∧ t.hold = some .linkLost then s
    else s.holdTask c t why t.phase none

/-- The place of an accepted task in a queue (R55, Table 4-3). -/
def placeTask (t : Task) (q : List Task) : List Task :=
  if t.priority then
    let ahead := q.takeWhile fun u => u.inFlight || u.priority
    ahead ++ t :: q.drop ahead.length
  else q ++ [t]

/-! ## The weighing exit (R67) -/

/-- The runway of a crane's active set (R40). -/
def State.craneRunway (s : State) (c : CraneId) : Option RunwayId :=
  (s.lsu.active.get c).map (·.runway)

/-- The position of a crane as the units other than the crane link unit see it (R41, R95). -/
def State.position? (s : State) (c : CraneId) : Option Int := (s.links.get c).bind (·.seenPos)

/-- A selection for a coil on a crane (R40 to R45). -/
def State.selectFor (s : State) (c : CraneId) (coil : Nat) : Option (Nat × CostTerms) :=
  match s.craneRunway c, s.position? c, s.coil? coil with
  | some r, some x, some k => s.smu.select s.lsu.settings.tier2Penalty r x k.desc
  | _, _, _ => none

/-- The axle prediction of a task's destination (R159); a destination that is no cradle of a LOAD plan,
or is the task's own source, passes. -/
def State.predicts (s : State) (t : Task) : Bool :=
  if t.dest = .place t.source then true
  else
    match t.dest with
    | .place (.cradle b k) =>
      match s.plan? b with
      | some p => if p.head.kind = .load then s.smu.predict p t.coil k else true
      | none => true
    | .place (.slot _) => true
    | .auto => true

/-- Step 3 of the exit. -/
def State.exitCarry (s : State) (c : CraneId) (t : Task) : State :=
  s.advance c (t.working .carrying false none)

/-- Steps 2 and 3 of the exit. A task that has the reason AXLE_LIMIT already is held again, with a notice: the
model's choice, log 21. -/
def State.exitPredict (s : State) (c : CraneId) (t : Task) : State :=
  if s.predicts t then s.exitCarry c t else s.holdTask c t .axleLimit .weighing none

/-- The slot chosen for a task is granted and becomes its destination (R46). -/
def State.grantChoice (s : State) (c : CraneId) (t : Task) (i : Nat) : State :=
  (s.setSmu (s.smu.grantDest t.id (.place (.slot i)))).exitPredict c { t with dest := .place (.slot i) }

/-- The exit from step 1 on. A task that has the reason NO_SLOT already is held again, with a notice: the model's
choice, log 21. -/
def State.exitSelect (s : State) (c : CraneId) (t : Task) : State :=
  match t.dest with
  | .place _ => s.exitPredict c t
  | .auto =>
    match s.selectFor c t.coil with
    | some (i, _) => s.grantChoice c t i
    | none => s.holdTask c t .noSlot .weighing none

/-- The whole exit: the measured weight is set, or removed, first (R67, R32). -/
def State.weighExit (s : State) (c : CraneId) (t : Task) (w : Option Int) : State :=
  (s.setSmu (s.smu.modCoil t.coil fun k => { k with measured := w })).exitSelect c t

/-! ## Phase reports -/

/-- The phase a task's state expects (R62). -/
def Task.expected (t : Task) : Option PhaseReport :=
  match t.hold with
  | some _ => none
  | none =>
    match t.phase with
    | .queued => none
    | .dispatched => some .arrivedPick
    | .picking => some .lifted
    | .weighing => none
    | .carrying => some .arrivedPlace
    | .placing => some .released

/-- The record stands at a target within pos_tolerance (R64). -/
def atTarget (tolerance : Nat) (corrected : Int) (y : Nat) (target : Option (Int × Nat)) : Bool :=
  match target with
  | none => false
  | some (tx, ty) =>
    decide ((corrected - tx).natAbs ≤ tolerance) && decide (((y : Int) - (ty : Int)).natAbs ≤ tolerance)

/-- ARRIVED_PICK (R64). -/
def State.arrivedPick (s : State) (c : CraneId) (t : Task) (r : StatusRec) (corrected : Int) : State :=
  if atTarget s.lsu.settings.posTolerance corrected r.y (s.target? t.source) then
    s.advance c (t.working .picking false none)
  else s.holdTask c t .positionMismatch .dispatched none

/-- The weighing state of the crane's hoist is ZEROED or DUE. -/
def State.zeroInDate (s : State) (c : CraneId) : Bool :=
  match s.hoists.get c with
  | some h => h.state.zeroInDate
  | none => false

/-- LIFTED (R65). -/
def State.lifted (s : State) (c : CraneId) (t : Task) : State :=
  let s := (s.setSmu (s.smu.lift t c)).entryAt t.source t.coil .onTruck .removed
  if t.noVerify && !s.zeroInDate c then s.weighExit c t none
  else s.advance c (t.working .weighing false (some (s.now + s.lsu.settings.settleTime)))

/-- The answer of the bay control unit at a LOAD cradle (R160). -/
inductive PlaceAnswer where
  | pass | planOrder | axleLimit
  deriving DecidableEq, Repr

/-- The two steps of R160, for a task at its destination; a destination that is no cradle of a LOAD plan,
or is the task's own source, passes (R68). -/
def State.placeAnswer (s : State) (t : Task) : PlaceAnswer :=
  if t.dest = .place t.source then .pass
  else
    match t.dest with
    | .place (.cradle b k) =>
      match s.plan? b with
      | some p =>
        if p.head.kind ≠ .load then .pass
        else if !p.orderReached k then .planOrder
        else if s.smu.finalCheck p t.coil k then .pass
        else .axleLimit
      | none => .pass
    | .place (.slot _) => .pass
    | .auto => .pass

/-- ARRIVED_PLACE (R68). -/
def State.arrivedPlace (s : State) (c : CraneId) (t : Task) (r : StatusRec) (corrected : Int) : State :=
  let target := match t.dest with | .auto => none | .place p => s.target? p
  if !atTarget s.lsu.settings.posTolerance corrected r.y target then
    s.holdTask c t .positionMismatch .carrying none
  else
    match s.placeAnswer t with
    | .pass => s.advance c (t.working .placing false none)
    | .planOrder => s.holdTask c t .planOrder .carrying none
    | .axleLimit => s.holdTask c t .axleLimit .carrying none

/-- A task held with PLAN_ORDER is looked at again (R69). -/
def State.recheckOrder (s : State) (c : CraneId) (t : Task) : State :=
  match s.placeAnswer t with
  | .pass => s.advance c (t.working .placing false none)
  | .planOrder => s
  | .axleLimit => s.holdTask c t .axleLimit .carrying none

/-- A task leaves its queue (R55). -/
def State.removeTask (s : State) (c : CraneId) (id : Nat) : State :=
  s.setQueue c ((s.tcu.queues.get c).filter fun t => t.id != id)

/-- RELEASED (R70). -/
def State.released (s : State) (c : CraneId) (t : Task) : State :=
  let s := s.setSmu (s.smu.putDown t)
  let s := (s.entryTo t.dest t.coil .claimed .placed).entryTo t.dest t.coil .removed .onTruck
  let s := s.modHoist c Hoist.countDown
  let s := (s.removeTask c t.id).notify ({ t with hold := none }.notice c .done)
  s.workStopAll t

/-- The expected phase of a working task is acted on (R64, R65, R68, R70). -/
def State.actOnPhase (s : State) (c : CraneId) (t : Task) (r : StatusRec) (corrected : Int) : State :=
  match t.phase with
  | .dispatched => s.arrivedPick c t r corrected
  | .picking => s.lifted c t
  | .carrying => s.arrivedPlace c t r corrected
  | .placing => s.released c t
  | .queued => s
  | .weighing => s

/-- The report is the one the task's state expects, for the task's own id (R62). -/
def Task.matches (t : Task) (r : StatusRec) : Bool :=
  r.task == t.id && t.expected == some r.phase

/-- A working task that is not in WEIGHING takes a phase report (R62, R63). -/
def State.matchPhase (s : State) (c : CraneId) (t : Task) (r : StatusRec) (corrected : Int) : State :=
  match t.fresh, t.matches r with
  | true, true => s
  | true, false => s.putTask c { t with fresh := false }
  | false, true => s.actOnPhase c t r corrected
  | false, false => s

/-- A stable weight is verified (R66). -/
def State.judgeWeight (s : State) (c : CraneId) (t : Task) (result : WeighResult) : State :=
  match result.stable, result.recorded, s.coil? t.coil with
  | true, some w, some k =>
    if verifies s.lsu.settings.weightTolerance w k.declared then s.weighExit c t (some w)
    else s.holdTask c t .weightMismatch .weighing (some w)
  | _, _, _ => s

/-- The phase-mismatch counter at a record (R62; log 20). -/
def State.countMismatch (s : State) (t : Task) (r : StatusRec) : State :=
  s.setTcu { s.tcu with
    mismatches := if r.task ≠ 0 ∧ r.task ≠ t.id then bump s.tcu.mismatches else s.tcu.mismatches }

/-- The task in flight acts on a record (R62, R66, R69). -/
def State.taskActs (s : State) (c : CraneId) (r : StatusRec) (corrected : Int) (result : WeighResult) :
    State :=
  match s.inFlight? c with
  | none => s
  | some t =>
    let s := s.countMismatch t r
    match t.hold with
    | some why => if why = .planOrder then s.recheckOrder c t else s
    | none =>
      if t.phase = .weighing then s.judgeWeight c t result
      else s.matchPhase c t r corrected

/-! ## Dispatch -/

/-- The referenced mark of the crane link unit. -/
def State.referenced (s : State) (c : CraneId) : Bool :=
  match s.links.get c with
  | some l => l.referenced
  | none => false

/-- The head may leave QUEUED (R60). -/
def State.mayDispatch (s : State) (c : CraneId) (t : Task) : Bool :=
  t.phase == .queued && s.lsu.stage == .run && s.linkActive c && s.referenced c &&
    (s.tcu.halts.get c).isNone && (s.lsu.shadow.get c).isNone && !s.tcu.detached.get c &&
    !s.hlu.silent && (s.zeroInDate c || t.noVerify)

/-- Dispatch at an arrival (R60, R61). -/
def State.dispatch (s : State) (c : CraneId) : State :=
  match s.tcu.queues.get c with
  | [] => s
  | t :: _ =>
    if s.mayDispatch c t then
      let t := t.working .dispatched false none
      ((s.putTask c t).workStartAll t).notify (t.notice c .dispatched)
    else s

/-- An arrival at the task control unit (R60, R62). -/
def State.taskArrive (s : State) (c : CraneId) (r : StatusRec) (corrected : Int) (result : WeighResult) :
    State :=
  (s.taskActs c r corrected result).dispatch c

/-! ## The settle deadline (R66) -/

/-- The settle deadline of the task in flight. -/
def State.settleDeadline? (s : State) (c : CraneId) : Option (Task × Nat) :=
  match s.inFlight? c with
  | none => none
  | some t => t.deadline.map fun d => (t, d)

/-- The expiry of a settle deadline. -/
def State.settleExpire (s : State) (c : CraneId) (t : Task) : State :=
  if t.noVerify then s.weighExit c t none else s.holdTask c t .weighTimeout .weighing none

end Sys2Proof.Machine
end

