-- ==== Sys2Proof/Machine/Links.lean ====
section
/-! DEFINITION. The crane link unit (05): the arrival of a status record, its checks, the answer; the link
loss; the reference mark; and the delivery of changes of the input functions. -/

namespace Sys2Proof.Machine

/-- The record at COMMIT-LAYOUT (Table 5-2). -/
def CraneLink.fresh : CraneLink where
  link := .silent
  last := none
  seenPos := none
  period := false
  correction := 0
  referenced := false
  overCount := 0
  overspeed := false
  pairAbove := false
  driveFault := false

/-! ## Order conflict (R97) -/

/-- The pair of a lower crane and the next higher is in conflict. -/
def State.pairConflict (s : State) (i j : CraneId) : Bool :=
  match s.links.get i, s.links.get j, s.lsu.active.get i, s.lsu.active.get j with
  | some a, some b, some p, some q =>
    a.referenced && b.referenced &&
      match a.last, b.last with
      | some x, some y => decide (y.corrected - (q.rear : Int) ≤ x.corrected + (p.front : Int))
      | _, _ => false
  | _, _, _, _ => false

/-- The mark of a crane's pair with the next higher crane formed again. -/
def State.formPair (s : State) (i : CraneId) : State :=
  s.modLink i fun l =>
    { l with pairAbove := match s.above i with | some j => s.pairConflict i j | none => false }

/-- The pairs of a crane tested, or ended where it is unreferenced; each crane whose condition changes
is reported, in crane order (log 12). -/
def State.testPairs (s : State) (c : CraneId) : State :=
  let s' := s.formPair c
  let s' := match s.below c with | some b => s'.formPair b | none => s'
  allNum4.foldl (fun u k => u.report (.crane .orderConflict k) (s.orderConflict k) (s'.orderConflict k)) s'

/-! ## Overspeed (R98, R99) -/

/-- The comparison speed of a direction. -/
def State.compareSpeed (s : State) (c : CraneId) (p : ParamSet) (forward : Bool) : Nat :=
  let port := s.ports.get c
  let last := p.speed (if forward then port.lastSent.fwd else port.lastSent.rev)
  port.sentLog.foldl
    (fun m e =>
      if s.now ≤ e.time + p.react then max m (p.speed (if forward then e.fwd else e.rev)) else m)
    last

/-- The record counts toward overspeed; `before` is the previous record of the ACTIVE period. -/
def State.overCounts (s : State) (c : CraneId) (p : ParamSet) (v : Int) (before : Option Int) : Bool :=
  match before with
  | none => false
  | some u =>
    v != 0 && decide (11 * s.compareSpeed c p (decide (0 < v)) < 10 * v.natAbs)
      && decide (u.natAbs ≤ v.natAbs)

/-- The overspeed count and condition at a record. -/
def State.judgeOverspeed (s : State) (c : CraneId) (l : CraneLink) (v : Int) (before : Option Int) :
    State :=
  match s.lsu.active.get c with
  | none => s
  | some p =>
    let counts := s.overCounts c p v before
    let count := if counts then min Config.overMax (l.overCount + 1) else 0
    let live :=
      if v = 0 then false
      else if counts ∧ s.lsu.settings.overspeedRecords ≤ count then true
      else l.overspeed
    (s.modLink c fun l => { l with overCount := count, overspeed := live }).report
      (.crane .overspeed c) l.overspeed live

/-! ## Arrival (R88) -/

/-- Step 1: the watchdog, and a link that becomes ACTIVE (R91, R93). -/
def State.linkArrive (s : State) (c : CraneId) (l : CraneLink) : State :=
  let s := s.modLink c fun l => { l with link := .active (s.now + s.lsu.settings.linkTimeout) }
  match l.link with
  | .active _ => s
  | .silent => s.notify (.craneLink c true)
  | .lost => (s.endCond (.crane .linkLost c)).notify (.craneLink c true)

/-- Step 2: a pending parameter swap (R4). -/
def State.swapArrive (s : State) (c : CraneId) (v : Int) : State :=
  match s.lsu.shadow.get c with
  | none => s
  | some p =>
    if (s.inFlight? c).isNone ∧ v = 0 then
      (s.setLsu { s.lsu with
        active := s.lsu.active.set c (some p)
        shadow := s.lsu.shadow.set c none }).notify (.craneParamsApplied c)
    else s

/-- The crane is unreferenced, its in-flight task held, its pairs ended (R96). -/
def State.unreference (s : State) (c : CraneId) : State :=
  ((s.modLink c fun l => { l with referenced := false }).holdInFlight c .referenceLost).testPairs c

/-- Step 4, the jump check (R96). -/
def State.jumpCheck (s : State) (c : CraneId) (l : CraneLink) (corrected : Int) : State :=
  match l.period, l.last with
  | true, some last =>
    if s.lsu.settings.jumpLimit < (corrected - last.corrected).natAbs then
      let s := s.raise (.crane .positionJump c)
      if l.referenced then s.unreference c else s
    else s
  | _, _ => s

/-- Step 6, the DRIVE_FAULT condition (R100). -/
def State.judgeDrive (s : State) (c : CraneId) (was is : Bool) : State :=
  (s.modLink c fun l => { l with driveFault := is }).report (.crane .driveFault c) was is

/-- The crane link unit's part of an arrival (R88). -/
def State.trackArrive (s : State) (c : CraneId) (l : CraneLink) (r : StatusRec) : State :=
  let corrected := (r.raw : Int) + l.correction
  let s := (s.linkArrive c l).swapArrive c r.v
  let s := s.jumpCheck c l corrected
  let s := s.judgeOverspeed c l r.v (if l.period then l.last.map (·.record.v) else none)
  let s := s.modLink c fun l =>
    { l with last := some ⟨r, corrected, s.now⟩, seenPos := some corrected, period := true }
  (s.testPairs c).judgeDrive c l.driveFault r.driveFault

/-- The collision record takes the record's values and the load class, and the claim is computed
(R135 steps 1 and 2). -/
def State.takeMotion (s : State) (c : CraneId) (r : StatusRec) (corrected : Int) : State :=
  match s.lsu.active.get c with
  | none => s
  | some p =>
    let load := (s.hoists.get c).bind (·.loadClass)
    let m : Motion := ⟨corrected, r.v, r.h, !r.grab.isOpen⟩
    let ref := s.referenced c
    s.modCrane c fun k =>
      { k with
        motion := some m, load := load, seenRef := ref, awaiting := false
        claim := liveClaim p m (match load with | some l => l.swing | none => 800) }

/-- The cranes that step 4 of R135 evaluates: the neighbours, or every other crane of the runway where
the link has changed state. -/
def State.evaluatedWith (s : State) (c : CraneId) (linkChanged : Bool) : List CraneId :=
  if linkChanged then
    match s.craneRunway c with
    | some r => (s.cranesOn r).filter (· != c)
    | none => []
  else (s.below c).toList ++ (s.above c).toList

/-- The answer to a record: the final classes and lower allowed of the evaluation (R138). -/
def State.answer (s : State) (c : CraneId) : State :=
  match s.rcu.cranes.get c with
  | some k => s.sendRecord c (s.record c k.finalF k.finalR k.lower)
  | none => s

/-- The collision unit's part of an arrival (R135), and the answer (R89). -/
def State.collisionArrive (s : State) (c : CraneId) (r : StatusRec) (corrected : Int)
    (linkChanged : Bool) : State :=
  let s := (s.takeMotion c r corrected).evalCrane c
  (s.evaluateAll (s.evaluatedWith c linkChanged)).answer c

def Link.isActive : Link → Bool
  | .active _ => true
  | .silent => false
  | .lost => false

/-- The result the weighing unit formed for the record. -/
def State.weighResult (s : State) (c : CraneId) : WeighResult :=
  match s.hoists.get c with
  | some h => h.result
  | none => .absent

/-- An arrival at a defined crane in INVENTORY or RUN (R88): the crane link unit, the weighing unit, the
task control unit, the collision unit, the answer. -/
def State.arrive (s : State) (c : CraneId) (l : CraneLink) (r : StatusRec) : State :=
  let corrected := (r.raw : Int) + l.correction
  let s := (s.trackArrive c l r).weighArrive c r
  let s := s.taskArrive c r corrected (s.weighResult c)
  s.collisionArrive c r corrected (!l.link.isActive)

/-- A valid status record on a port (R86, R11). -/
def State.validRecord (s : State) (c : CraneId) (r : StatusRec) : State :=
  match s.lsu.stage, s.links.get c with
  | .config, _ => s.sendRecord c .stopRecord
  | .inventory, some l => s.arrive c l r
  | .run, some l => s.arrive c l r
  | .inventory, none => s.sendRecord c .stopRecord
  | .run, none => s.sendRecord c .stopRecord

/-! ## Link loss (R92) -/

/-- The claim of a crane becomes the frozen claim (R125). -/
def State.freezeClaim (s : State) (c : CraneId) : State :=
  match s.lsu.active.get c with
  | none => s
  | some p =>
    s.modCrane c fun k =>
      { k with
        seenRef := false
        claim := match k.motion with | some m => frozenClaim p m.p | none => k.claim }

/-- The runway of a crane is evaluated. -/
def State.evaluateOf (s : State) (c : CraneId) : State :=
  match s.craneRunway c with
  | some r => s.evaluateRunway r
  | none => s

/-- Watchdog expiry. -/
def State.loseLink (s : State) (c : CraneId) : State :=
  let s := s.modLink c fun l =>
    { l with link := .lost, period := false, referenced := false, overCount := 0 }
  let s := (s.raise (.crane .linkLost c)).testPairs c
  let s := (s.emptyWindow c).holdInFlight c .linkLost
  ((s.freezeClaim c).evaluateOf c).notify (.craneLink c false)

/-! ## Input functions -/

/-- A REF_Cn event (R95). -/
def State.refEvent (s : State) (c : CraneId) : State :=
  match s.links.get c, s.lsu.active.get c with
  | some l, some p =>
    match l.link, l.last with
    | .active _, some last =>
      let k := (p.xRef : Int) - (last.record.raw : Int)
      let drift := l.referenced && decide (s.lsu.settings.refTolerance < (k - l.correction).natAbs)
      let s := s.modLink c fun l =>
        { l with
          correction := k, referenced := true
          last := some { last with corrected := (last.record.raw : Int) + k } }
      let s := if drift then s.raise (.crane .refDrift c) else s
      s.notify (.craneReferenced c p.xRef last.record.raw k drift)
    | _, _ => s
  | _, _ => s

/-- A change of a runway's ESTOP function (R134). -/
def State.estopEvent (s : State) (r : RunwayId) (live : Bool) : State :=
  match s.rcu.views.get r with
  | none => s
  | some v =>
    let s := s.setRcu { s.rcu with views := s.rcu.views.set r (some { v with estop := live }) }
    (s.report (.estop r) v.estop live).evaluateRunway r

/-- One function's change handed to its consumer (R167); `old` is the unit before the change. -/
def State.deliverRef (old : Dio) (s : State) (c : CraneId) : State :=
  if fires (s.dio.inputs.ref.get c).mode (old.fnLevel (.ref c)) (s.dio.fnLevel (.ref c)) then s.refEvent c
  else s
def State.deliverEstop (old : Dio) (s : State) (r : RunwayId) : State :=
  if old.fnLevel (.estop r) = s.dio.fnLevel (.estop r) then s
  else s.estopEvent r (s.dio.fnLevel (.estop r))
def State.deliverBay (old : Dio) (s : State) (b : BayId) : State :=
  if old.bayInputs b = s.dio.bayInputs b then s else s.bayEvent b (s.dio.bayInputs b)

/-- A line change handed to the function logic (R167): in CONFIG delivered to no unit; else to the
consumers in the order of Table 9-1 (log 25). -/
def State.deliver (old : Dio) (s : State) : State :=
  if s.lsu.stage = .config then s
  else
    let s := allNum4.foldl (State.deliverRef old) s
    let s := allRunways.foldl (State.deliverEstop old) s
    allNum4.foldl (State.deliverBay old) s

/-- The debounced level of a line takes a level, and the change is handed on (R166). -/
def State.lineTakes (s : State) (k : Fin 32) (l : Line) : State :=
  (s.setDio (s.dio.setLine k l)).deliver s.dio

end Sys2Proof.Machine
end

