-- ==== Sys2Proof/Machine/Records.lean ====
section
/-! DEFINITION. The byte layouts the manual shows (11 §11.10): the CRC, host frames, crane status and
command records, the TASK-SUBMIT body, the NAK body, the TASK-STATE body; the codes of Tables 11-3, 11-4,
11-12; and what a receiver makes of bytes (R182, R187). -/

namespace Sys2Proof.Machine

/-! ## CRC (R181) -/

/-- One bit of the CRC: polynomial x^16 + x^12 + x^5 + 1. -/
def crcBit (c : Word16) : Word16 := if c.msb then (c <<< 1) ^^^ 0x1021#16 else c <<< 1

/-- One byte, most significant bit first. -/
def crcByte (c : Word16) (b : Byte) : Word16 :=
  crcBit (crcBit (crcBit (crcBit (crcBit (crcBit (crcBit (crcBit
    (c ^^^ (b.setWidth 16 <<< 8)))))))))

/-- The CRC of some bytes. -/
def crc16 (bs : List Byte) : Word16 := bs.foldl crcByte 0xFFFF#16

/-! ## Bytes and integers, most significant byte first (R188) -/

def byteOf (n : Nat) : Byte := BitVec.ofNat 8 n
def bytes2 (n : Nat) : List Byte := [byteOf (n / 256), byteOf n]
def bytes3 (n : Nat) : List Byte := [byteOf (n / 65536), byteOf (n / 256), byteOf n]
def bytes4 (n : Nat) : List Byte := byteOf (n / 16777216) :: bytes3 n
def nat2 (a b : Byte) : Nat := 256 * a.toNat + b.toNat
def nat3 (a b c : Byte) : Nat := 65536 * a.toNat + nat2 b c
def nat4 (a b c d : Byte) : Nat := 16777216 * a.toNat + nat3 b c d

/-- Two's complement of `2 * half` values. -/
def toSigned (half n : Nat) : Int := if n < half then (n : Int) else (n : Int) - 2 * (half : Int)
def ofSigned (half : Nat) (v : Int) : Nat := (v % (2 * (half : Int))).toNat

/-! ## Crane status record (Table 11-13) -/

/-- A grab code; none out of range (R86). -/
def grabOf : Nat → Option Grab
  | 0 => some .opened
  | 1 => some .closed
  | 2 => some .unknown
  | _ => none

def grabCode : Grab → Nat
  | .opened => 0 | .closed => 1 | .unknown => 2

/-- A phase code; none out of range (R86). -/
def phaseOf : Nat → Option PhaseReport
  | 0 => some .none
  | 1 => some .arrivedPick
  | 2 => some .lifted
  | 3 => some .arrivedPlace
  | 4 => some .released
  | _ => none

def phaseCode : PhaseReport → Nat
  | .none => 0 | .arrivedPick => 1 | .lifted => 2 | .arrivedPlace => 3 | .released => 4

/-- The drive fault byte; none out of range. -/
def driveOf : Nat → Option Bool
  | 0 => some false
  | 1 => some true
  | _ => none

/-- The ranges of Table 5-1. -/
def StatusRec.inRange (r : StatusRec) : Bool :=
  decide (r.raw ≤ 262143) && decide (-8000 ≤ r.v) && decide (r.v ≤ 8000) && decide (r.y ≤ 40000)
    && decide (r.h ≤ 15000)

/-- The 18 bytes of a status record between its sync byte and its CRC. -/
def statusBody (c : CraneId) (r : StatusRec) : List Byte :=
  [byteOf (numVal c)] ++ bytes3 r.raw ++ bytes2 (ofSigned 32768 r.v) ++ bytes2 r.y ++ bytes2 r.h
    ++ bytes3 (ofSigned 8388608 r.count) ++ [byteOf (grabCode r.grab), byteOf (phaseCode r.phase)]
    ++ bytes2 r.task ++ [byteOf r.driveFault.toNat]

/-- The 20 bytes of a status record after its sync byte. -/
def encodeStatus (c : CraneId) (r : StatusRec) : List Byte :=
  let body := statusBody c r
  body ++ bytes2 (crc16 body).toNat

/-- The status record that 20 bytes carry on a port, when they are valid (R86, R187). -/
def decodeStatus (c : CraneId) : List Byte → Option StatusRec
  | [n, r2, r1, r0, v1, v0, y1, y0, h1, h0, k2, k1, k0, g, p, t1, t0, d, c1, c0] =>
    let body := [n, r2, r1, r0, v1, v0, y1, y0, h1, h0, k2, k1, k0, g, p, t1, t0, d]
    match grabOf g.toNat, phaseOf p.toNat, driveOf d.toNat with
    | some grab, some phase, some drive =>
      let r : StatusRec :=
        { raw := nat3 r2 r1 r0, v := toSigned 32768 (nat2 v1 v0), y := nat2 y1 y0, h := nat2 h1 h0
          count := toSigned 8388608 (nat3 k2 k1 k0), grab := grab, phase := phase
          task := nat2 t1 t0, driveFault := drive }
      if nat2 c1 c0 = (crc16 body).toNat ∧ n.toNat = numVal c ∧ r.inRange then some r else none
    | _, _, _ => none
  | _ => none

/-! ## Crane command record (Table 11-14) -/

def orderCode : Order → Nat
  | .none => 0 | .goPick => 1 | .goPlace => 2 | .hold => 3

/-- The 16 bytes of a command record between its sync byte and its CRC. -/
def commandBody (c : CraneId) (r : CommandRec) : List Byte :=
  [byteOf (numVal c), byteOf r.fwd.rank, byteOf r.rev.rank] ++ bytes2 r.fwdSpeed ++ bytes2 r.revSpeed
    ++ [byteOf (r.lower.toNat + 2 * r.raise.toNat), byteOf (orderCode r.order)] ++ bytes2 r.task
    ++ bytes3 r.x ++ bytes2 r.y

/-- The 19 bytes of a command record. -/
def encodeCommand (c : CraneId) (r : CommandRec) : List Byte :=
  let body := commandBody c r
  Config.craneSync :: body ++ bytes2 (crc16 body).toNat

/-! ## Request kinds, refusal codes (Tables 11-3, 11-4) -/

def ReqKind.code : ReqKind → Byte
  | .runwayDefine => 0x01 | .craneDefine => 0x02 | .slotDefine => 0x03 | .bayDefine => 0x04
  | .configSet => 0x05 | .commitLayout => 0x06 | .openYard => 0x07 | .closeYard => 0x08
  | .restart => 0x09 | .coilAdd => 0x10 | .coilRemove => 0x11 | .coilQuery => 0x12
  | .slotQuery => 0x13 | .slotBlock => 0x14 | .slotUnblock => 0x15 | .slotSuggest => 0x16
  | .taskSubmit => 0x18 | .taskCancel => 0x19 | .retry => 0x1A | .acceptWeight => 0x1B
  | .redirect => 0x1C | .taskReturn => 0x1D | .taskQuery => 0x1E | .halt => 0x1F
  | .resume => 0x20 | .detach => 0x21 | .attach => 0x22 | .craneQuery => 0x24
  | .zero => 0x25 | .weighReset => 0x26 | .weighQuery => 0x27 | .runwayQuery => 0x28
  | .truckArrive => 0x2C | .truckDepart => 0x2D | .bayMode => 0x2E | .bayClear => 0x2F
  | .bayAck => 0x30 | .planOpen => 0x31 | .planEntry => 0x32 | .planCancel => 0x33
  | .loadClose => 0x34 | .bayQuery => 0x35 | .inputAssign => 0x38 | .outputAssign => 0x39
  | .beaconSet => 0x3A | .ioQuery => 0x3B | .status => 0x3C | .faultReport => 0x3D
  | .faultMask => 0x3E

/-- Table 11-3, in its order. -/
def allReqKinds : List ReqKind :=
  [.runwayDefine, .craneDefine, .slotDefine, .bayDefine, .configSet, .commitLayout, .openYard,
   .closeYard, .restart, .coilAdd, .coilRemove, .coilQuery, .slotQuery, .slotBlock, .slotUnblock,
   .slotSuggest, .taskSubmit, .taskCancel, .retry, .acceptWeight, .redirect, .taskReturn, .taskQuery,
   .halt, .resume, .detach, .attach, .craneQuery, .zero, .weighReset, .weighQuery, .runwayQuery,
   .truckArrive, .truckDepart, .bayMode, .bayClear, .bayAck, .planOpen, .planEntry, .planCancel,
   .loadClose, .bayQuery, .inputAssign, .outputAssign, .beaconSet, .ioQuery, .status, .faultReport,
   .faultMask]

/-- The request kind of a kind byte; none fails check 1 of R184. -/
def reqKind? (k : Byte) : Option ReqKind := allReqKinds.find? fun r => r.code == k

def RefusalCode.code : RefusalCode → Byte
  | .unknownKind => 0x01 | .badLength => 0x02 | .badValue => 0x03 | .wrongStage => 0x04
  | .noSuchItem => 0x05 | .duplicate => 0x06 | .queueFull => 0x07 | .tableFull => 0x08
  | .reserved => 0x09 | .supportConflict => 0x0A | .notFit => 0x0B | .locationMismatch => 0x0C
  | .stateConflict => 0x0D | .coilOnHook => 0x0E | .planInProgress => 0x0F | .noPlanOpen => 0x10
  | .limitExceeded => 0x11 | .layoutInvalid => 0x12 | .unsafeOutput => 0x13
  | .conditionActive => 0x14 | .zeroOutOfRange => 0x15 | .notSteady => 0x16

/-- The NAK body (Table 11-11); the detail is held at 65,535 (R188). -/
def nakBody (kind : Byte) (n : Nak) : List Byte := [n.code.code, kind] ++ bytes2 (min n.detail 65535)

/-- The kind byte and tag of a frame the part sends (R184, R185, Table 11-6). -/
def noticeCode : Notice → Byte
  | .stageChanged _ _ => 0x41 | .taskState _ => 0x42 | .craneLink _ _ => 0x43
  | .craneReferenced _ _ _ _ _ => 0x44 | .craneParamsApplied _ => 0x45 | .zeroTaken _ => 0x46
  | .weighFrozen _ _ => 0x47 | .bayState _ _ _ _ _ => 0x48 | .bayInputs _ _ _ _ _ => 0x49
  | .faultRaised _ _ => 0x4A

def TxFrame.kindByte : TxFrame → Byte
  | .reply r => match r.answer with | .ack _ => r.kind + 0x80 | .nak _ => 0xFF
  | .notice n => noticeCode n

def TxFrame.tag : TxFrame → Byte
  | .reply r => r.tag
  | .notice _ => 0

/-! ## Host frames (Table 11-10) -/

/-- The bytes of a host frame that its CRC covers: kind, tag, length, body. -/
def framePayload (kind tag : Byte) (body : List Byte) : List Byte :=
  kind :: tag :: byteOf body.length :: body

/-- A host frame: the sync byte, kind, tag, length, body and CRC (R181). -/
def hostFrame (kind tag : Byte) (body : List Byte) : List Byte :=
  let payload := framePayload kind tag body
  Config.hostSync :: payload ++ bytes2 (crc16 payload).toNat

/-! ## Codes of Table 11-12, TASK-STATE body (Table 11-8) -/

def stateCode : TaskState → Nat
  | .queued => 1 | .dispatched => 2 | .picking => 3 | .weighing => 4 | .carrying => 5
  | .placing => 6 | .held => 7 | .done => 8 | .cancelled => 9

def holdCode : HoldReason → Nat
  | .positionMismatch => 1 | .weightMismatch => 2 | .weighTimeout => 3 | .noSlot => 4
  | .axleLimit => 5 | .planOrder => 6 | .linkLost => 7 | .referenceLost => 8

def phaseStateCode : Phase → Nat
  | .queued => 1 | .dispatched => 2 | .picking => 3 | .weighing => 4 | .carrying => 5 | .placing => 6

def kindCode : TaskKind → Nat
  | .move => 1 | .load => 2 | .unload => 3

def destBytes : Dest → List Byte
  | .place (.slot i) => [1] ++ bytes2 i ++ [0]
  | .auto => [2, 0, 0, 0]
  | .place (.cradle b k) => [3] ++ bytes2 (numVal b) ++ [byteOf k]

/-- The TASK-STATE notice body (Table 11-8). -/
def taskStateBody (n : TaskNotice) : List Byte :=
  bytes2 n.task ++ [byteOf (numVal n.crane)] ++ bytes4 n.coil
    ++ [byteOf (kindCode n.kind), byteOf (stateCode n.state)] ++ destBytes n.dest
    ++ (match n.hold with
        | none => [0, 0]
        | some (h, p) => [byteOf (holdCode h), byteOf (phaseStateCode p)])

/-- The body of a frame the part sends, where the manual shows its layout: a NAK, a TASK-STATE notice, and
an ACK that carries nothing (Tables 11-11 and 11-8; log 4). -/
def TxFrame.body? : TxFrame → Option (List Byte)
  | .reply r =>
    match r.answer with
    | .nak n => some (nakBody r.kind n)
    | .ack .empty => some []
    | .ack _ => none
  | .notice (.taskState n) => some (taskStateBody n)
  | .notice _ => none

/-- The bytes of such a frame (Table 11-10). -/
def TxFrame.bytes? (f : TxFrame) : Option (List Byte) := f.body?.map (hostFrame f.kindByte f.tag)

/-! ## TASK-SUBMIT body (Table 11-7) -/

/-- The fields of a TASK-SUBMIT body; none for a wrong length. -/
def decodeSubmit : List Byte → Option TaskSubmit
  | [t1, t0, c, k3, k2, k1, k0, f, sk, s1, s0, sc, dk, d1, d0, dc] =>
    some
      { task := nat2 t1 t0, crane := c.toNat, coil := nat4 k3 k2 k1 k0, flags := f
        srcKind := sk.toNat, srcNum := nat2 s1 s0, srcCradle := sc.toNat
        dstKind := dk.toNat, dstNum := nat2 d1 d0, dstCradle := dc.toNat }
  | _ => none

/-- The TASK-SUBMIT body of some fields. -/
def encodeSubmit (t : TaskSubmit) : List Byte :=
  bytes2 t.task ++ [byteOf t.crane] ++ bytes4 t.coil ++ [t.flags, byteOf t.srcKind] ++ bytes2 t.srcNum
    ++ [byteOf t.srcCradle, byteOf t.dstKind] ++ bytes2 t.dstNum ++ [byteOf t.dstCradle]

/-! ## Receivers (R182, R187) -/

/-- What the bytes collected after a sync byte are: not yet a whole frame or record, a bad one, or a good
one with its contents. -/
inductive Judged (α : Type) where
  | more
  | bad
  | good (v : α)
  deriving DecidableEq, Repr

/-- What a receiver makes of some bytes: how it stands after them, how many frames or records it has
discarded, and the good one that they complete. -/
structure Fed (α : Type) where
  receiver : Receiver
  bad : Nat
  good : Option α
  deriving DecidableEq, Repr

/-- A byte judged as a possible sync byte. -/
def receiverAt (sync b : Byte) : Receiver := if b = sync then .inside [] else .hunting

/-- Bytes that arrive in time and without error: hunting skips every byte but the sync byte; inside, each
byte joins those collected, which are judged with it; after a discard hunting goes on with the next byte.
The bytes end with the frame or record that they complete (log 32). -/
def Receiver.feed {α : Type} (sync : Byte) (judge : List Byte → Judged α) (r : Receiver) :
    List Byte → Fed α
  | [] => ⟨r, 0, none⟩
  | b :: rest =>
    match r with
    | .hunting => (receiverAt sync b).feed sync judge rest
    | .inside got =>
      match judge (got ++ [b]) with
      | .more => (Receiver.inside (got ++ [b])).feed sync judge rest
      | .bad =>
        let f := Receiver.hunting.feed sync judge rest
        { f with bad := f.bad + 1 }
      | .good v => ⟨.hunting, 0, some v⟩

/-- What the break of a frame or record adds to the discards: 1 inside one, 0 while hunting. -/
def Receiver.broken : Receiver → Nat
  | .hunting => 0
  | .inside _ => 1

/-- A gap before a late byte: what was being received is discarded, and the late byte is judged at once as
a possible sync byte. -/
def Fed.gap {α : Type} (f : Fed α) (sync late : Byte) : Fed α :=
  { f with bad := f.bad + f.receiver.broken, receiver := receiverAt sync late }

/-- A byte with a stop-bit error: what was being received is discarded. -/
def Fed.stopBit {α : Type} (f : Fed α) : Fed α :=
  { f with bad := f.bad + f.receiver.broken, receiver := .hunting }

/-- The contents of a host frame as its bytes give them. -/
structure RawFrame where
  kind : Byte
  tag : Byte
  body : List Byte
  deriving DecidableEq, Repr

/-- The bytes of a host frame after its sync byte: bad at a length above 240 or a CRC that differs (R182). -/
def judgeFrame : List Byte → Judged RawFrame
  | kind :: tag :: n :: rest =>
    if Config.bodyMax < n.toNat then .bad
    else if rest.length < n.toNat + 2 then .more
    else
      let body := rest.take n.toNat
      if rest.drop n.toNat = bytes2 (crc16 (kind :: tag :: n :: body)).toNat then .good ⟨kind, tag, body⟩
      else .bad
  | _ => .more

/-- The bytes of a status record after its sync byte, on a port (R86, R187). -/
def judgeStatus (c : CraneId) (got : List Byte) : Judged StatusRec :=
  if got.length < Config.statusBytes then .more
  else
    match decodeStatus c got with
    | some r => .good r
    | none => .bad

/-- Bytes on the host link, and on a crane's port. -/
def Receiver.feedHost (r : Receiver) (bytes : List Byte) : Fed RawFrame :=
  r.feed Config.hostSync judgeFrame bytes
def Receiver.feedCrane (r : Receiver) (c : CraneId) (bytes : List Byte) : Fed StatusRec :=
  r.feed Config.craneSync (judgeStatus c) bytes

end Sys2Proof.Machine
end

