-- ==== Sys2Proof/Machine/Host.lean ====
section
/-! DEFINITION. The host link unit (11): receiving and taking frames, the judging of a request in the
order of R184, the reply, the transmitter, the silence timer; and the receivers of the crane ports. -/

namespace Sys2Proof.Machine

/-- The kind byte of a request (Table 11-3). -/
def requestCode : Request → Byte
  | .runwayDefineSet _ => ReqKind.runwayDefine.code
  | .runwayDefineClear _ => ReqKind.runwayDefine.code
  | .craneDefineSet _ => ReqKind.craneDefine.code
  | .craneDefineClear _ => ReqKind.craneDefine.code
  | .slotDefineSet _ => ReqKind.slotDefine.code
  | .slotDefineClear _ => ReqKind.slotDefine.code
  | .bayDefineSet _ => ReqKind.bayDefine.code
  | .bayDefineClear _ => ReqKind.bayDefine.code
  | .configSet _ => ReqKind.configSet.code
  | .commitLayout _ => ReqKind.commitLayout.code
  | .openYard _ => ReqKind.openYard.code
  | .closeYard _ => ReqKind.closeYard.code
  | .restartAll _ => ReqKind.restart.code
  | .restartYard _ => ReqKind.restart.code
  | .coilAdd _ => ReqKind.coilAdd.code
  | .coilRemove _ => ReqKind.coilRemove.code
  | .coilQueryOne _ => ReqKind.coilQuery.code
  | .coilQueryList _ => ReqKind.coilQuery.code
  | .slotQueryOne _ => ReqKind.slotQuery.code
  | .slotQueryList _ => ReqKind.slotQuery.code
  | .slotBlock _ => ReqKind.slotBlock.code
  | .slotUnblock _ => ReqKind.slotUnblock.code
  | .slotSuggest _ => ReqKind.slotSuggest.code
  | .taskSubmit _ => ReqKind.taskSubmit.code
  | .taskCancel _ => ReqKind.taskCancel.code
  | .retry _ => ReqKind.retry.code
  | .acceptWeight _ => ReqKind.acceptWeight.code
  | .redirect _ => ReqKind.redirect.code
  | .taskReturn _ => ReqKind.taskReturn.code
  | .taskQueryOne _ => ReqKind.taskQuery.code
  | .taskQueryCrane _ => ReqKind.taskQuery.code
  | .halt _ => ReqKind.halt.code
  | .resume _ => ReqKind.resume.code
  | .detach _ => ReqKind.detach.code
  | .attach _ => ReqKind.attach.code
  | .craneQuery _ => ReqKind.craneQuery.code
  | .zero _ => ReqKind.zero.code
  | .weighReset _ => ReqKind.weighReset.code
  | .weighQuery _ => ReqKind.weighQuery.code
  | .runwayQuery _ => ReqKind.runwayQuery.code
  | .truckArrive _ => ReqKind.truckArrive.code
  | .truckDepart _ => ReqKind.truckDepart.code
  | .bayMode _ => ReqKind.bayMode.code
  | .bayClear _ => ReqKind.bayClear.code
  | .bayAck _ => ReqKind.bayAck.code
  | .planOpen _ => ReqKind.planOpen.code
  | .planEntry _ => ReqKind.planEntry.code
  | .planCancel _ => ReqKind.planCancel.code
  | .loadClose _ => ReqKind.loadClose.code
  | .bayQuery _ => ReqKind.bayQuery.code
  | .inputAssign _ => ReqKind.inputAssign.code
  | .outputAssign _ => ReqKind.outputAssign.code
  | .beaconSet _ => ReqKind.beaconSet.code
  | .ioQuery _ => ReqKind.ioQuery.code
  | .status _ => ReqKind.status.code
  | .faultReport _ => ReqKind.faultReport.code
  | .faultMask _ => ReqKind.faultMask.code
  | .unknown k => k

/-! ## Receiving (R182, R183, R186) -/

/-- The host-silence period in ms; none for OFF (Table 1-4). -/
def silenceMs : SilencePeriod → Option Nat
  | .off => none
  | .s1 => some 1000
  | .s5 => some 5000
  | .s20 => some 20000

/-- The silence timer restarted with the period in force, or stopped for OFF (R186). -/
def State.restartSilence (s : State) : State :=
  s.setHlu { s.hlu with
    silence := (silenceMs s.lsu.settings.hostSilence).map fun p => s.now + p }

/-- The HOST_SILENT condition ends, where it is live (R186). -/
def State.endSilence (s : State) : State :=
  if s.hlu.silent then (s.setHlu { s.hlu with silent := false }).endCond .hostSilent else s

/-- What a valid frame does before it is judged (R186). -/
def State.validFrame (s : State) : State := s.endSilence.restartSilence

/-- A frame placed in the inbound buffer, or discarded by overrun (R183). -/
def Hlu.enqueue (u : Hlu) (f : Frame) : Hlu :=
  if u.inbound.length < Config.inboundMax then { u with inbound := u.inbound ++ [f] }
  else { u with overruns := bump u.overruns }

/-- The host link's receiver after some bytes: where it stands, and the frames it discarded counted (R182). -/
def Hlu.hear (u : Hlu) (f : Fed RawFrame) : Hlu :=
  { u with frameErrors := bumpBy u.frameErrors f.bad, receiver := f.receiver }

/-- The bytes of a frame are those of a symbolic frame, as far as its header says (log 4). -/
def frameCarries (f : Frame) (raw : RawFrame) : Bool :=
  raw.kind == requestCode f.request && raw.tag == f.tag

/-! ## Taking and replying (R184) -/

/-- The oldest waiting frame is taken while no request is handled; where the buffer is empty, the
command's own frame arrives valid and is taken at once (log 3). None where the frame cannot be taken. -/
def State.takeFrame (s : State) (f : Frame) : Option State :=
  match s.hlu.handling, s.hlu.inbound with
  | some _, _ => none
  | none, [] =>
    let s := s.validFrame
    some (s.setHlu { s.hlu with receiver := .hunting, handling := some f })
  | none, g :: rest =>
    if g = f then some (s.setHlu { s.hlu with inbound := rest, handling := some f }) else none

/-- The reply of the request being handled. -/
def State.replyWith (s : State) (tag kind : Byte) (a : Answer) : State :=
  s.setHlu { s.hlu with reply := some ⟨tag, kind, a⟩ }

/-- What the unit that owns a request answers: a refusal, which changes nothing, or the state after the
effects with the ACK's body. -/
abbrev Verdict := Except Nak (State × Ack)

/-- A check of a request. -/
def require (ok : Bool) (code : RefusalCode) (detail : Nat) : Except Nak Unit :=
  if ok then .ok () else .error ⟨code, detail⟩

/-- A check that something exists. -/
def requireSome {α : Type} (v : Option α) (code : RefusalCode) (detail : Nat) : Except Nak α :=
  match v with
  | some a => .ok a
  | none => .error ⟨code, detail⟩

/-- A check made elsewhere: none where it passes. -/
def requireNone (n : Option Nak) : Except Nak Unit :=
  match n with
  | none => .ok ()
  | some n => .error n

/-- The state and the answer after an owner's verdict. -/
def Verdict.settle (v : Verdict) (s : State) : State × Answer :=
  match v with
  | .ok (s', a) => (s', .ack a)
  | .error n => (s, .nak n)

/-- Stages a request is accepted in (Table 1-7). -/
def inAny (_ : Stage) : Bool := true
def inConfig (g : Stage) : Bool := g == .config
def inInventory (g : Stage) : Bool := g == .inventory
def inRun (g : Stage) : Bool := g == .run
def committed (g : Stage) : Bool := g != .config

/-- How a field that picks the row of the table is refused when outside its set: the stages in which
that is BAD_VALUE rather than WRONG_STAGE, and the detail (R10, R188; log 6). -/
structure Selector where
  stages : Stage → Bool
  detail : Nat

/-- The judging of a taken request: checks 2 to 5 of R184. -/
def State.judge {α : Type} (s : State) (b : Body α) (stages : Stage → Bool) (selector : Selector)
    (own : State → α → Verdict) : State × Answer :=
  match b with
  | .badLength n => (s, .nak ⟨.badLength, n⟩)
  | .badSelector _ =>
    match s.bcu.build with
    | some u => (s.discardBuild, .nak ⟨.planInProgress, numVal u.bay⟩)
    | none =>
      if selector.stages s.lsu.stage then (s, .nak ⟨.badValue, selector.detail⟩)
      else (s, .nak ⟨.wrongStage, 0⟩)
  | .fields v =>
    match s.bcu.build with
    | some u => (s.discardBuild, .nak ⟨.planInProgress, numVal u.bay⟩)
    | none =>
      if stages s.lsu.stage then (own s v).settle s else (s, .nak ⟨.wrongStage, 0⟩)

/-- A request taken, judged and answered. -/
def State.serve {α : Type} (s : State) (tag : Byte) (r : Request) (b : Body α)
    (stages : Stage → Bool) (selector : Selector) (own : State → α → Verdict) : State :=
  match s.takeFrame ⟨tag, r⟩ with
  | none => s
  | some s =>
    let (s', a) := s.judge b stages selector own
    s'.replyWith tag (requestCode r) a

/-! ## Transmitting (R185, R179) -/

/-- The frame being sent ends; the end of a reply ends the handling of its request. -/
def Hlu.endFrame (u : Hlu) : Hlu :=
  match u.sending with
  | none => u
  | some (.reply r) => { u with sending := none, lastSent := some (.reply r), handling := none }
  | some (.notice n) => { u with sending := none, lastSent := some (.notice n) }

/-- The next frame starts: the waiting reply, else the head notice, which leaves its queue. -/
def State.startFrame (s : State) : State :=
  match s.hlu.reply, s.fnu.notices with
  | some r, _ => s.setHlu { s.hlu with reply := none, sending := some (.reply r) }
  | none, n :: rest =>
    (s.setHlu { s.hlu with sending := some (.notice n) }).setFnu { s.fnu with notices := rest }
  | none, [] => s

/-! ## Crane ports (R187) -/

/-- A port's receiver after some bytes: where it stands, and the records it discarded counted (R86, R101). -/
def Port.hear (p : Port) (f : Fed StatusRec) : Port :=
  { p with errors := bumpBy p.errors f.bad, receiver := f.receiver }

end Sys2Proof.Machine
end

