-- ==== Sys2Proof/Machine/Operands.lean ====
section
/-! DEFINITION. The operand forms of the requests: ranges of fields, the naming of a failing field, and
the reading of coded fields. -/

namespace Sys2Proof.Machine

/-! ## Checks of fields -/

/-- The first field of a list that fails is refused with BAD_VALUE, its ordinal in the detail; the list
begins with the field of ordinal `k` (R188, Table 11-5). -/
def checkFrom (k : Nat) : List Bool → Except Nak Unit
  | [] => .ok ()
  | b :: t => if b then checkFrom (k + 1) t else .error ⟨.badValue, k⟩

/-- A number within a range. -/
def within (lo hi n : Nat) : Bool := decide (lo ≤ n) && decide (n ≤ hi)

/-- A coded field that names a member of its set. -/
def codedOk {α : Type} : Coded α → Bool
  | .known _ => true
  | .other _ => false

/-- The member a coded field names, or BAD_VALUE with a detail. -/
def readCoded {α : Type} (v : Coded α) (detail : Nat) : Except Nak α :=
  match v with
  | .known a => .ok a
  | .other _ => .error ⟨.badValue, detail⟩

/-- A crane or bay number carried in a request, or BAD_VALUE with a detail. -/
def readNum (n detail : Nat) : Except Nak Num4 := requireSome (num4? n) .badValue detail

def coilIdOk (n : Nat) : Bool := within 1 4294967295 n
def taskIdOk (n : Nat) : Bool := within 1 65535 n
def slotOk (n : Nat) : Bool := decide (n < Config.slotCount)
def cradleOk (n : Nat) : Bool := within 1 Config.planMax n
def num4Ok (n : Nat) : Bool := within 1 4 n

/-! ## Layout items -/

/-- The fields of RUNWAY-DEFINE with SET after its operation (R1). -/
def runwaySetChecks (v : RunwaySet) : List Bool := [codedOk v.runway, within 1000 250000 v.length]

/-- The fields of Table 1-2, with the tests of the runway, the order index and the reference position
given: they differ between CONFIG and service (R2, R3). -/
def craneSetChecks (v : CraneSet) (runwayOk orderOk xRefOk : Bool) : List Bool :=
  [num4Ok v.crane, runwayOk, orderOk, within 0 20000 v.front, within 0 20000 v.rear,
   within 100 4000 v.vFull, within 10 v.vFull v.vSlow, within 10 v.vSlow v.vCreep,
   within 50 2000 v.decel, within 0 2000 v.react, xRefOk, within 1000 60000 v.capacity,
   within 1 1000000 v.gain]

def paramsOf (v : CraneSet) (r : RunwayId) : ParamSet :=
  ⟨r, v.order, v.front, v.rear, v.vFull, v.vSlow, v.vCreep, v.decel, v.react, v.xRef, v.capacity, v.gain⟩

/-- The fields of Table 1-3 (R5). -/
def slotSetChecks (v : SlotSet) : List Bool :=
  [slotOk v.slot, codedOk v.runway, within 0 255 v.row, within 0 250000 v.x, within 0 40000 v.y,
   within 1 2 v.tier, within 900 2400 v.dMax, v.tier != 1 || within 1000 45000 v.mMax,
   within 0 255 v.group, v.tier != 2 || slotOk v.left, v.tier != 2 || slotOk v.right]

def slotGeomOf (v : SlotSet) (r : RunwayId) : SlotGeom :=
  ⟨r, v.row, v.x, v.y, v.dMax, v.group, if v.tier = 1 then .one v.mMax else .two v.left v.right⟩

/-- The fields of BAY-DEFINE with SET after its operation (R6). -/
def baySetChecks (v : BaySet) : List Bool :=
  [num4Ok v.bay, codedOk v.runway, within 0 250000 v.xLo, within 0 250000 v.xHi,
   within 0 250000 v.kingpinX, v.direction == 1 || v.direction == -1, within 0 40000 v.trailerY]

def bayGeomOf (v : BaySet) (r : RunwayId) : BayGeom :=
  ⟨r, v.xLo, v.xHi, v.kingpinX, v.direction, v.trailerY⟩

/-! ## Settings (R8) -/

/-- The value a pair gives a setting fits the setting's kind: a listed value of an enumerated setting, a
number for a numeric one (log 29). -/
def settingFits : Setting → SettingValue → Bool
  | .faultLatch, .latch _ => true
  | .hostSilence, .silence _ => true
  | .faultLatch, _ => false
  | .hostSilence, _ => false
  | _, .number _ => true
  | _, _ => false

/-- The range of a numeric setting (Table 1-4). -/
def settingRange : Setting → Nat × Nat
  | .faultLatch => (0, 0)
  | .hostSilence => (0, 0)
  | .linkTimeout => (40, 500)
  | .gap => (500, 10000)
  | .passHeight => (0, 15000)
  | .posTolerance => (10, 500)
  | .jumpLimit => (50, 2000)
  | .refTolerance => (10, 500)
  | .weightTolerance => (5, 100)
  | .stabilityBand => (10, 500)
  | .settleTime => (1000, 20000)
  | .rezeroCount => (0, 255)
  | .trailTime => (0, 60)
  | .beaconStretch => (0, 3)
  | .debounce => (0, 50)
  | .tier2Penalty => (0, 255)
  | .overspeedRecords => (1, 10)

/-- The value taken for a setting: clamped, a link_timeout first rounded to a multiple of 10. -/
def takenValue (k : Setting) : SettingValue → SettingValue
  | .number n =>
    let n := if k = .linkTimeout then (n + 5) / 10 * 10 else n
    .number (clamp (settingRange k).1 (settingRange k).2 n)
  | .latch m => .latch m
  | .silence p => .silence p
  | .unlisted n => .unlisted n

/-- A setting written. -/
def Settings.put (t : Settings) : Setting → SettingValue → Settings
  | .faultLatch, .latch m => { t with faultLatch := m }
  | .hostSilence, .silence p => { t with hostSilence := p }
  | .linkTimeout, .number n => { t with linkTimeout := n }
  | .gap, .number n => { t with gap := n }
  | .passHeight, .number n => { t with passHeight := n }
  | .posTolerance, .number n => { t with posTolerance := n }
  | .jumpLimit, .number n => { t with jumpLimit := n }
  | .refTolerance, .number n => { t with refTolerance := n }
  | .weightTolerance, .number n => { t with weightTolerance := n }
  | .stabilityBand, .number n => { t with stabilityBand := n }
  | .settleTime, .number n => { t with settleTime := n }
  | .rezeroCount, .number n => { t with rezeroCount := n }
  | .trailTime, .number n => { t with trailTime := n }
  | .beaconStretch, .number n => { t with beaconStretch := n }
  | .debounce, .number n => { t with debounce := n }
  | .tier2Penalty, .number n => { t with tier2Penalty := n }
  | .overspeedRecords, .number n => { t with overspeedRecords := n }
  | _, _ => t

/-- The pairs of a CONFIG-SET, each checked against those before it: the taken pairs, or the position of
the first offending pair (R8; log 17). -/
def readPairs (k : Nat) (seen : List Setting) : List SettingPair → Except Nak (List (Setting × SettingValue))
  | [] => .ok []
  | p :: t =>
    match p.setting with
    | .other _ => .error ⟨.badValue, k⟩
    | .known g =>
      if seen.contains g || !settingFits g p.value then .error ⟨.badValue, k⟩
      else
        match readPairs (k + 1) (g :: seen) t with
        | .ok rest => .ok ((g, takenValue g p.value) :: rest)
        | .error n => .error n

/-! ## Coils and slots -/

/-- The fields of COIL-ADD (R33, Table 2-3). -/
def coilAddChecks (v : CoilAdd) : List Bool :=
  [coilIdOk v.coil, within 600 2100 v.width, within 900 2400 v.diameter, within 1000 45000 v.declared,
   within 0 255 v.group,
   match v.measured with
   | none => true
   | some m => decide (-65000 ≤ m) && decide (m ≤ 66000),
   slotOk v.slot]

/-- The fields of SLOT-SUGGEST (R50). -/
def suggestChecks (v : SlotSuggest) : List Bool :=
  num4Ok v.crane ::
    match v.about with
    | .coil id => [true, coilIdOk id]
    | .described w d m g => [true, within 600 2100 w, within 900 2400 d, within 1000 45000 m, within 0 255 g]
    | .otherMode _ => [false]

/-! ## Tasks (Table 11-7) -/

/-- A source, given by its codes. -/
def readPlace (kind num cradle : Nat) : Option Place :=
  match kind with
  | 1 => some (.slot num)
  | 2 => (num4? num).map fun b => .cradle b cradle
  | _ => none

/-- A destination, given by its codes. -/
def readDest (kind num cradle : Nat) : Option Dest :=
  match kind with
  | 1 => some (.place (.slot num))
  | 2 => some .auto
  | 3 => (num4? num).map fun b => .place (.cradle b cradle)
  | _ => none

/-- The three fields of a source (Table 11-7; log 27). -/
def sourceChecks (kind num cradle : Nat) : List Bool :=
  [within 1 2 kind, if kind = 1 then slotOk num else num4Ok num,
   if kind = 1 then cradle == 0 else cradleOk cradle]

/-- The three fields of a destination (Table 11-7; log 27). -/
def destChecks (kind num cradle : Nat) : List Bool :=
  [within 1 3 kind, if kind = 1 then slotOk num else if kind = 2 then num == 0 else num4Ok num,
   if kind = 3 then cradleOk cradle else cradle == 0]

/-- The fields of TASK-SUBMIT (Table 4-4 check 1; a flag byte by R188). -/
def submitChecks (v : TaskSubmit) : List Bool :=
  [taskIdOk v.task, num4Ok v.crane, coilIdOk v.coil, decide (v.flags.toNat < 4)]
    ++ sourceChecks v.srcKind v.srcNum v.srcCradle ++ destChecks v.dstKind v.dstNum v.dstCradle

/-! ## Bays -/

/-- The fields of PLAN-OPEN (R152, Table 8-4; log 41). -/
def planOpenChecks (v : PlanOpen) : List Bool :=
  [num4Ok v.bay, codedOk v.kind, within 4000 14000 v.length, within 0 20000 v.eK, within 0 20000 v.eA,
   within 1000 30000 v.kLim, within 1000 40000 v.aLim, within 1000 80000 v.gLim,
   within 1 Config.planMax v.cradles.length]

/-- The cradle positions of PLAN-OPEN: list entries, each from 500 to the L carried (R152). -/
def cradleChecks (v : PlanOpen) : List Bool := v.cradles.map (within 500 v.length)

def planHeadOf (v : PlanOpen) (k : PlanKind) : PlanHead :=
  ⟨k, v.length, v.eK, v.eA, v.kLim, v.aLim, v.gLim, v.cradles⟩

/-- The fields of PLAN-ENTRY (R153 check 1). -/
def planEntryOk (v : PlanEntry) (n : Nat) : Bool :=
  codedOk v.kind && within 1 n v.cradle && coilIdOk v.coil &&
    (match v.kind with
     | .known .unload =>
       within 600 2100 v.width && within 900 2400 v.diameter && within 1000 45000 v.declared
     | .known .load => true
     | .other _ => true)

/-! ## Lines -/

/-- The signal of a number (Table 9-2). -/
def signal? (n : Nat) : Option Signal := allSignals[n]?

/-- A RUN_ENABLE signal (R170). -/
def isRunEnable : Signal → Bool
  | .runEnable _ => true
  | .beacon _ => false
  | .gateLock _ => false
  | .fault => false
  | .yardRun => false

def energises : OutputMode → Bool
  | .on => true
  | .inverted => true
  | .off => false
  | .signal => false
  | .released => false

/-- The mask set of a FAULT-MASK list, or the position of the first code that names no kind or repeats
one (R178; log 17). -/
def readMasks (k : Nat) (seen : List FaultKind) : List (Coded FaultKind) → Except Nak (List FaultKind)
  | [] => .ok (allFaultKinds.filter seen.contains)
  | .other _ :: _ => .error ⟨.badValue, k⟩
  | .known g :: t =>
    if seen.contains g then .error ⟨.badValue, k⟩ else readMasks (k + 1) (g :: seen) t

end Sys2Proof.Machine
end

