-- ==== Sys2Proof/Machine/Layout.lean ====
section
/-! DEFINITION. Layout and stage unit (01): the definition requests, CONFIG-SET, the stage changes. -/

namespace Sys2Proof.Machine

/-- The selector of the definition requests: the operation is field 1 (log 6). -/
def defineSelector : Selector := ⟨inConfig, 1⟩

/-- The selector of a request that stands in one row. -/
def noSelector : Selector := ⟨inAny, 0⟩

/-! ## Definitions (R1 to R7) -/

def ownRunwaySet (s : State) (v : RunwaySet) : Verdict := do
  checkFrom 2 (runwaySetChecks v)
  let r ← readCoded v.runway 2
  .ok (s.setLsu { s.lsu with runways := s.lsu.runways.set r (some v.length) }, .runwaySet r v.length)

def execRunwayDefineSet (tag : Byte) (b : Body RunwaySet) (s : State) :
    Host.Outcome State Fault Refusal :=
  .next (s.serve tag (.runwayDefineSet b) b inConfig defineSelector ownRunwaySet)

def ownRunwayClear (s : State) (v : Coded RunwayId) : Verdict := do
  let r ← readCoded v 2
  require (s.lsu.runways.get r).isSome .noSuchItem 0
  .ok (s.setLsu { s.lsu with runways := s.lsu.runways.set r none }, .cleared .runway (runwayVal r))

def execRunwayDefineClear (tag : Byte) (b : Body (Coded RunwayId)) (s : State) :
    Host.Outcome State Fault Refusal :=
  .next (s.serve tag (.runwayDefineClear b) b inConfig defineSelector ownRunwayClear)

/-- CRANE-DEFINE with SET in CONFIG (R2). -/
def ownCraneConfig (s : State) (v : CraneSet) : Verdict := do
  checkFrom 2 (craneSetChecks v (codedOk v.runway) (within 1 3 v.order) (within 0 250000 v.xRef))
  let c ← readNum v.crane 2
  let r ← readCoded v.runway 3
  let p := paramsOf v r
  .ok (s.setLsu { s.lsu with active := s.lsu.active.set c (some p) }, .craneSet c p)

/-- CRANE-DEFINE with SET in INVENTORY or RUN (R3; log 42). -/
def ownCraneService (s : State) (v : CraneSet) : Verdict := do
  let c ← readNum v.crane 2
  require (s.links.get c).isSome .noSuchItem 0
  let q ← requireSome (s.lsu.active.get c) .noSuchItem 0
  checkFrom 2 (craneSetChecks v (v.runway == .known q.runway) (v.order == q.order)
    (within 0 (min 250000 ((s.lsu.runways.get q.runway).getD 0)) v.xRef))
  let p := paramsOf v q.runway
  .ok (s.setLsu { s.lsu with shadow := s.lsu.shadow.set c (some p) }, .craneSet c p)

def ownCraneSet (s : State) (v : CraneSet) : Verdict :=
  match s.lsu.stage with
  | .config => ownCraneConfig s v
  | .inventory => ownCraneService s v
  | .run => ownCraneService s v

/-- The selector of the requests whose row of Table 1-7 depends on a field (R10). -/
def rowSelector : Selector := ⟨inAny, 1⟩

def execCraneDefineSet (tag : Byte) (b : Body CraneSet) (s : State) :
    Host.Outcome State Fault Refusal :=
  .next (s.serve tag (.craneDefineSet b) b inAny rowSelector ownCraneSet)

def ownCraneClear (s : State) (v : Nat) : Verdict := do
  let c ← readNum v 2
  require (s.lsu.active.get c).isSome .noSuchItem 0
  .ok (s.setLsu { s.lsu with active := s.lsu.active.set c none }, .cleared .crane (numVal c))

def execCraneDefineClear (tag : Byte) (b : Body Nat) (s : State) : Host.Outcome State Fault Refusal :=
  .next (s.serve tag (.craneDefineClear b) b inConfig rowSelector ownCraneClear)

def ownSlotSet (s : State) (v : SlotSet) : Verdict := do
  checkFrom 2 (slotSetChecks v)
  let r ← readCoded v.runway 3
  let g := slotGeomOf v r
  let slot : Slot := match s.slot? v.slot with
    | some t => { t with geom := g }
    | none => ⟨g, .free, .none⟩
  .ok (s.setSlots (Table.put v.slot slot s.smu.slots), .slotSet v.slot g)

def execSlotDefineSet (tag : Byte) (b : Body SlotSet) (s : State) : Host.Outcome State Fault Refusal :=
  .next (s.serve tag (.slotDefineSet b) b inConfig defineSelector ownSlotSet)

def ownSlotClear (s : State) (v : Nat) : Verdict := do
  require (slotOk v) .badValue 2
  require (s.slot? v).isSome .noSuchItem 0
  .ok (s.setSlots (Table.drop v s.smu.slots), .cleared .slot v)

def execSlotDefineClear (tag : Byte) (b : Body Nat) (s : State) : Host.Outcome State Fault Refusal :=
  .next (s.serve tag (.slotDefineClear b) b inConfig defineSelector ownSlotClear)

/-- R6. The ACK's body, which R6 does not give, is the bay number and the geometry taken: the model's choice,
log 48. -/
def ownBaySet (s : State) (v : BaySet) : Verdict := do
  checkFrom 2 (baySetChecks v)
  let b ← readNum v.bay 2
  let r ← readCoded v.runway 3
  let g := bayGeomOf v r
  .ok (s.setLsu { s.lsu with bays := s.lsu.bays.set b (some g) }, .baySet b g)

def execBayDefineSet (tag : Byte) (b : Body BaySet) (s : State) : Host.Outcome State Fault Refusal :=
  .next (s.serve tag (.bayDefineSet b) b inConfig defineSelector ownBaySet)

def ownBayUndefine (s : State) (v : Nat) : Verdict := do
  let b ← readNum v 2
  require (s.lsu.bays.get b).isSome .noSuchItem 0
  .ok (s.setLsu { s.lsu with bays := s.lsu.bays.set b none }, .cleared .bay (numVal b))

def execBayDefineClear (tag : Byte) (b : Body Nat) (s : State) : Host.Outcome State Fault Refusal :=
  .next (s.serve tag (.bayDefineClear b) b inConfig defineSelector ownBayUndefine)

/-! ## CONFIG-SET (R8, R9, R176, R186) -/

/-- Flags cleared, and each crane whose OVERSPEED flag is among them evaluated (R176, R177, R137). -/
def State.clearFlags (s : State) (fs : List FlagId) : State :=
  let s := fs.foldl State.clearFlag s
  s.evaluateAll (allNum4.filter fun c => fs.contains (.crane .overspeed c))

/-- The set condition flags whose condition is not live (R176). -/
def Fnu.ended (u : Fnu) : List FlagId :=
  allFlags.filter fun f => f.isCondition && u.isSet f && !(u.flag f).live

/-- The settings written, with the effects of a changed latch mode and a changed silence period. -/
def State.putSettings (s : State) (taken : List (Setting × SettingValue)) : State :=
  let old := s.lsu.settings
  let new := taken.foldl (fun t p => t.put p.1 p.2) old
  let s := s.setLsu { s.lsu with settings := new }
  let s := if old.hostSilence = new.hostSilence then s else s.restartSilence
  if new.faultLatch = .realTime ∧ old.faultLatch = .latched then s.clearFlags s.fnu.ended else s

/-- R8. The ACK lists the settings in the order of the request's pairs, which R8 leaves open: the model's
choice, log 54. -/
def ownConfigSet (s : State) (v : List SettingPair) : Verdict := do
  require (within 1 17 v.length) .badValue 0
  let taken ← readPairs 1 [] v
  .ok (s.putSettings taken,
    .settings taken (decide (taken.map (·.2) ≠ v.map (·.value))))

def execConfigSet (tag : Byte) (b : Body (List SettingPair)) (s : State) :
    Host.Outcome State Fault Refusal :=
  .next (s.serve tag (.configSet b) b inAny noSelector ownConfigSet)

/-! ## COMMIT-LAYOUT (R12, R13) -/

/-- An item in a detail of LAYOUT_INVALID (Table 11-5; log 44). -/
def layoutDetail (check kind key : Nat) : Nat := 4096 * check + 1024 * kind + key

/-- The defined cranes, slots' table and bays, with their keys in order. -/
def State.cranesDefined (s : State) : List (CraneId × ParamSet) :=
  allNum4.filterMap fun c => (s.lsu.active.get c).map fun p => (c, p)
def State.runwaysDefined (s : State) : List (RunwayId × Nat) :=
  allRunways.filterMap fun r => (s.lsu.runways.get r).map fun n => (r, n)
def State.baysDefined (s : State) : List (BayId × BayGeom) :=
  allNum4.filterMap fun b => (s.lsu.bays.get b).map fun g => (b, g)

/-- The first offender of a check over a list of items, as a detail. -/
def firstOffence {α : Type} (check kind : Nat) (key : α → Nat) (ok : α → Bool) (items : List α) :
    Option Nat :=
  (items.find? fun i => !ok i).map fun i => layoutDetail check kind (key i)

/-- A position within a defined runway. -/
def State.onRunway (s : State) (r : RunwayId) (x : Nat) : Bool :=
  match s.lsu.runways.get r with
  | some n => decide (x ≤ n)
  | none => false

/-- The order indices of a runway's cranes are exactly 1 to n (check 2b). -/
def State.orderOk (s : State) (r : RunwayId) : Bool :=
  let orders := (s.cranesDefined.filter fun e => e.2.runway == r).map (·.2.order)
  (List.range orders.length).all fun k => orders.contains (k + 1)

/-- A slot has the x of the lowest-indexed slot of its row (check 3b). -/
def rowOk (slots : List (Nat × Slot)) (e : Nat × Slot) : Bool :=
  match slots.find? fun f => f.2.geom.runway == e.2.geom.runway && f.2.geom.row == e.2.geom.row with
  | some f => f.2.geom.x == e.2.geom.x
  | none => true

/-- A support of a tier-2 slot is a defined tier-1 slot of its runway and row, its y by `lt` (check 4a). -/
def supportFits (slots : List (Nat × Slot)) (g : SlotGeom) (i : Nat) (lt : Nat → Bool) : Bool :=
  match Table.find i slots with
  | none => false
  | some t =>
    (match t.geom.tier with | .one _ => true | .two _ _ => false) && t.geom.runway == g.runway
      && t.geom.row == g.row && lt t.geom.y

def supportsOk (slots : List (Nat × Slot)) (e : Nat × Slot) : Bool :=
  let g := e.2.geom
  match g.tier with
  | .one _ => true
  | .two l r => supportFits slots g l (fun y => y < g.y) && supportFits slots g r (fun y => g.y < y)

/-- No lower-indexed tier-2 slot has the slot's left support as its left, or its right as its right
(check 4b). -/
def supportsAlone (slots : List (Nat × Slot)) (e : Nat × Slot) : Bool :=
  match e.2.geom.tier with
  | .one _ => true
  | .two l r =>
    slots.all fun f =>
      match f.2.geom.tier with
      | .one _ => true
      | .two l' r' => !decide (f.1 < e.1) || (l' != l && r' != r)

def selected (a : InAssign) : Bool := within 2 33 a.selection

/-- The first offence of Table 1-8. -/
def State.layoutOffence (s : State) : Option Nat :=
  let cranes := s.cranesDefined
  let slots := s.smu.slots
  if cranes.isEmpty then some (layoutDetail 1 1 0)
  else if slots.isEmpty then some (layoutDetail 1 2 0)
  else
    (firstOffence 2 1 (fun e => numVal e.1) (fun e => s.onRunway e.2.runway e.2.xRef) cranes).or <|
    (firstOffence 3 0 (fun e => runwayVal e.1) (fun e => s.orderOk e.1) s.runwaysDefined).or <|
    (firstOffence 4 2 (·.1) (fun e => s.onRunway e.2.geom.runway e.2.geom.x) slots).or <|
    (firstOffence 5 2 (·.1) (rowOk slots) slots).or <|
    (firstOffence 6 2 (·.1) (supportsOk slots) slots).or <|
    (firstOffence 7 2 (·.1) (supportsAlone slots) slots).or <|
    (firstOffence 8 3 (fun e => numVal e.1)
      (fun e => decide (e.2.xLo < e.2.xHi) && s.onRunway e.2.runway e.2.xHi) s.baysDefined).or <|
    (firstOffence 9 1 (fun e => numVal e.1) (fun e => selected (s.dio.inputs.ref.get e.1)) cranes).or <|
    firstOffence 10 0 (fun e => runwayVal e.1) (fun e => selected (s.dio.inputs.estop.get e.1))
      s.runwaysDefined

/-- The collision record at COMMIT-LAYOUT (Table 7-1). -/
def RcuCrane.fresh : RcuCrane where
  motion := none
  load := none
  seenRef := false
  claim := .none
  availF := 0
  availR := 0
  compF := .stop
  compR := .stop
  finalF := .stop
  finalR := .stop
  caps := []
  lower := false
  runEnable := false
  awaiting := false

/-- The committed-yard state of the units (R13), before the evaluation. -/
def State.committedYard (s : State) : State :=
  let bays := s.lsu.bays.map fun b g => g.map fun _ => Bay.fresh (s.dio.bayInputs b) .latched
  { s with
    lsu := { s.lsu with stage := .inventory }
    smu := s.smu.emptied
    tcu := { s.tcu with queues := .all [], halts := .all none, detached := .all false }
    links := s.lsu.active.map fun _ p => p.map fun _ => CraneLink.fresh
    ports := s.ports.map fun _ p => { p with lastSent := .stopRecord }
    hoists := s.lsu.active.map fun _ p => p.map fun _ => Hoist.fresh
    rcu :=
      { cranes := s.lsu.active.map fun _ p => p.map fun _ => RcuCrane.fresh
        views := s.lsu.runways.map fun r n => n.map fun n => ⟨n, s.dio.fnLevel (.estop r)⟩
        zones := bays.map fun _ y => y.map Bay.zone }
    bcu := { s.bcu with bays := bays } }

/-- The stage changes, every runway is evaluated, and the stage notice is queued (R139, R16). -/
def State.enterStage (s : State) (g : Stage) (cause : StageCause) : State :=
  ((s.setLsu { s.lsu with stage := g }).evaluateYard).notify (.stageChanged g cause)

def ownCommit (s : State) (_ : Unit) : Verdict :=
  match s.layoutOffence with
  | some d => .error ⟨.layoutInvalid, d⟩
  | none => .ok (s.committedYard.enterStage .inventory .commit, .empty)

def execCommitLayout (tag : Byte) (b : Body Unit) (s : State) : Host.Outcome State Fault Refusal :=
  .next (s.serve tag (.commitLayout b) b inConfig noSelector ownCommit)

/-! ## Opening and closing (R14, R15) -/

def ownOpen (s : State) (_ : Unit) : Verdict := .ok (s.enterStage .run .openYard, .empty)

def execOpenYard (tag : Byte) (b : Body Unit) (s : State) : Host.Outcome State Fault Refusal :=
  .next (s.serve tag (.openYard b) b inInventory noSelector ownOpen)

/-- The first crane with a task, else the first bay that is not EMPTY (R15). -/
def State.yardBusy (s : State) : Option Nat :=
  match allNum4.find? fun c => !(s.tcu.queues.get c).isEmpty with
  | some c => some (numVal c)
  | none =>
    (allNum4.find? fun b =>
      match s.bcu.bays.get b with | some y => y.state != .empty | none => false).map numVal

def ownClose (s : State) (_ : Unit) : Verdict :=
  match s.yardBusy with
  | some d => .error ⟨.stateConflict, d⟩
  | none => .ok (s.enterStage .inventory .closeYard, .empty)

def execCloseYard (tag : Byte) (b : Body Unit) (s : State) : Host.Outcome State Fault Refusal :=
  .next (s.serve tag (.closeYard b) b inRun noSelector ownClose)

end Sys2Proof.Machine
end

