-- ==== Sys2Proof/Machine/Restart.lean ====
section
/-! DEFINITION. Power-on and the restarts (R17 to R19). -/

namespace Sys2Proof.Machine

/-- POWER_ON (R17). -/
def execPowerOn (straps : Straps) (lines : BitVec 32) (s : State) : Host.Outcome State Fault Refusal :=
  .next (State.fresh .powerUp straps lines s.now s.pending)

/-- The raw levels of the lines: bit k is line INk. -/
def Dio.rawLevels (d : Dio) : BitVec 32 := BitVec.ofBoolListLE (d.lines.toList.map (·.raw)) |>.setWidth 32

/-- RESTART ALL takes effect (R18): the power-on values with RESTARTED, and a STOP record sent on each
port. -/
def State.restartAll (s : State) (straps : Straps) : State :=
  (State.fresh .restarted straps s.dio.rawLevels s.now s.pending).setPorts
    (s.ports.map fun _ p => ({ Port.powerOn with sending := p.sending } : Port).send s.now .stopRecord)

/-- An accepted RESTART is answered before it takes effect (R18; log 9): any frame being sent ends, then
the ACK is sent whole. -/
def State.ackWhole (s : State) (r : Reply) : State :=
  s.setHlu { s.hlu with reply := none, sending := none, handling := none, lastSent := some (.reply r) }

/-- The one frame sent last is kept in the model's window through RESTART ALL (log 9). -/
def State.keepSent (s old : State) : State := s.setHlu { s.hlu with lastSent := old.hlu.lastSent }

def execRestartAll (tag : Byte) (b : Body Unit) (straps : Straps) (s : State) :
    Host.Outcome State Fault Refusal :=
  match s.takeFrame ⟨tag, .restartAll b⟩ with
  | none => .next s
  | some s =>
    match s.judge b inAny rowSelector (fun s _ => .ok (s, .empty)) with
    | (s', .nak n) => .next (s'.replyWith tag ReqKind.restart.code (.nak n))
    | (s', .ack a) =>
      let s' := s'.ackWhole ⟨tag, ReqKind.restart.code, .ack a⟩
      .next ((s'.restartAll straps).keepSent s')

/-! ## RESTART YARD (R19) -/

/-- A collision record at RESTART YARD (Table 7-1). -/
def RcuCrane.restarted (r : RcuCrane) : RcuCrane :=
  { r with
    availF := 0, availR := 0, compF := .stop, compR := .stop, finalF := .stop, finalR := .stop
    lower := false, runEnable := false, awaiting := true }

/-- What RESTART YARD clears, with the stage INVENTORY (R19, Tables 5-2, 7-1, 8-2). -/
def State.cleared (s : State) : State :=
  let bays := s.bcu.bays.map fun b y => y.map fun y => Bay.fresh (s.dio.bayInputs b) y.mode
  { s with
    lsu := { s.lsu with stage := .inventory }
    smu := s.smu.emptied
    tcu := .powerOn
    links := s.links.map fun _ l => l.map fun l => { l with overCount := 0, overspeed := false }
    ports := s.ports.map fun _ p => { p with errors := 0 }
    rcu :=
      { s.rcu with
        cranes := s.rcu.cranes.map fun _ r => r.map RcuCrane.restarted
        zones := bays.map fun _ y => y.map Bay.zone }
    bcu := ⟨bays, none⟩
    fnu := { s.fnu with flags := Vector.replicate 50 ⟨none, false⟩, notices := [], lost := 0 }
    hlu := { s.hlu with frameErrors := 0, overruns := 0, silent := false } }

/-- A record last sent whose classes have become STOP and its lower allowed false (Table 7-1; log 33): its
order, task id and raise flag stay those of the record that was sent. -/
def CommandRec.stopped (r : CommandRec) : CommandRec :=
  { r with fwd := .stop, rev := .stop, fwdSpeed := 0, revSpeed := 0, lower := false }

/-- What RESTART YARD does on the port of a defined crane. The last sent classes become STOP (R139, Table 7-1);
on a link that is ACTIVE the STOP record of R19 is sent, which becomes the last sent record when it starts
(R187; log 52). -/
def Port.stop (p : Port) (now : Nat) (active : Bool) (r : CommandRec) : Port :=
  let p := { p with lastSent := p.lastSent.stopped }
  if active then p.send now r else p

/-- A defined crane at RESTART YARD, on its port (R19). -/
def State.stopCrane (s : State) (c : CraneId) : State :=
  if (s.links.get c).isSome then
    s.modPort c fun p => p.stop s.now (s.linkActive c) (s.record c .stop .stop false)
  else s

/-- The caps of a crane's record formed again (R139, R141; log 33). -/
def State.recap (s : State) (c : CraneId) : State := s.modCrane c fun r => { r with caps := s.capsOf c r }

/-- A condition of a flag is live at its owning unit (R19). -/
def State.conditionLive (s : State) : FlagId → Bool
  | .crane .linkLost c => match s.links.get c with | some l => l.link == .lost | none => false
  | .crane .orderConflict c => s.orderConflict c
  | .crane .overspeed c => match s.links.get c with | some l => l.overspeed | none => false
  | .crane .driveFault c => s.driveFault c
  | .crane .overload c => match s.hoists.get c with | some h => h.conds.overload | none => false
  | .crane .underload c => match s.hoists.get c with | some h => h.conds.underload | none => false
  | .crane .cellSaturated c => match s.hoists.get c with | some h => h.conds.saturated | none => false
  | .crane .positionJump _ => false
  | .crane .refDrift _ => false
  | .crane .zeroDrift _ => false
  | .bayIntrusion b => match s.bcu.bays.get b with | some y => y.intrusion | none => false
  | .estop r => match s.rcu.views.get r with | some v => v.estop | none => false
  | .hostSilent => s.hlu.silent
  | .noticeLost => false
  | .powerUp => false
  | .restarted => false

/-- A condition still live is raised again. -/
def State.raiseAgain (s : State) (f : FlagId) : State := if s.conditionLive f then s.raise f else s

/-- A crane's beacon is judged against the flags (R171). -/
def State.judgeBeacon (s : State) (c : CraneId) : State :=
  s.setDio { s.dio with beacons := s.dio.beacons.modify c fun b => b.judge (s.fnu.craneSet c) }

/-- RESTART YARD takes effect. -/
def State.restartYard (s : State) : State :=
  let was := s.lsu.stage
  let s := allNum4.foldl State.stopCrane s.cleared
  let s := allNum4.foldl State.recap s
  let s := s.raise .restarted
  let s := allFlags.foldl State.raiseAgain s
  let s := allNum4.foldl State.judgeBeacon s
  if was = .run then s.notify (.stageChanged .inventory .restart) else s

def execRestartYard (tag : Byte) (b : Body Unit) (s : State) : Host.Outcome State Fault Refusal :=
  match s.takeFrame ⟨tag, .restartYard b⟩ with
  | none => .next s
  | some s =>
    match s.judge b committed rowSelector (fun s _ => .ok (s, .empty)) with
    | (s', .nak n) => .next (s'.replyWith tag ReqKind.restart.code (.nak n))
    | (s', .ack a) => .next (s'.ackWhole ⟨tag, ReqKind.restart.code, .ack a⟩).restartYard

end Sys2Proof.Machine
end

