-- ==== Sys2Proof/Machine/Store.lean ====
section
/-! DEFINITION. The requests of the slot map unit and the slot selector (02 R33 to R37, 03 R50 to R52). -/

namespace Sys2Proof.Machine

/-! ## COIL-ADD, COIL-REMOVE -/

/-- What COIL-ADD says of the coil for the fit test (Table 2-6 check 7). -/
def addedDesc (v : CoilAdd) : CoilDesc :=
  ⟨v.width, v.diameter, v.measured.getD (v.declared : Int), v.group⟩

def addedCoil (v : CoilAdd) : Coil :=
  ⟨v.width, v.diameter, v.declared, v.measured, v.group, .slot v.slot, none, none⟩

/-- A coil stored in a slot: its record joins, the slot becomes OCCUPIED (R33). -/
def Smu.store (u : Smu) (coil slot : Nat) (k : Coil) : Smu :=
  { u with coils := Table.put coil k u.coils }.setState slot (.occupied coil)

def ownCoilAdd (s : State) (v : CoilAdd) : Verdict := do
  checkFrom 1 (coilAddChecks v)
  require (s.coil? v.coil).isNone .duplicate 0
  let t ← requireSome (s.slot? v.slot) .noSuchItem v.slot
  require (t.state == .free) .stateConflict v.slot
  require (t.resv == .none) .reserved v.slot
  requireNone ((s.smu.failingSupport t.geom).map fun j => ⟨.supportConflict, j⟩)
  require (s.smu.fits (addedDesc v) t.geom) .notFit v.slot
  require (decide (s.smu.coils.length < Config.coilMax)) .tableFull 0
  .ok (s.setSmu (s.smu.store v.coil v.slot (addedCoil v)), .coilSlot v.coil v.slot)

def execCoilAdd (tag : Byte) (b : Body CoilAdd) (s : State) : Host.Outcome State Fault Refusal :=
  .next (s.serve tag (.coilAdd b) b committed noSelector ownCoilAdd)

/-- The slot a coil is stored in. -/
def Coil.slot? (k : Coil) : Option Nat :=
  match k.location with
  | .slot i => some i
  | .hook _ => none
  | .cradle _ _ => none

def ownCoilRemove (s : State) (id : Nat) : Verdict := do
  let k ← requireSome (s.coil? id) .noSuchItem 0
  let i ← requireSome k.slot? .locationMismatch 0
  require k.task.isNone .stateConflict 0
  require k.plan.isNone .stateConflict 0
  requireNone ((s.smu.blockedAbove i).map fun j => ⟨.supportConflict, j⟩)
  .ok (s.setSmu ({ s.smu with coils := Table.drop id s.smu.coils }.setState i .free),
    .coilRemoved id k i)

def execCoilRemove (tag : Byte) (b : Body Nat) (s : State) : Host.Outcome State Fault Refusal :=
  .next (s.serve tag (.coilRemove b) b committed noSelector ownCoilRemove)

/-! ## Queries (R36, R37) -/

/-- Up to 8 records of a table whose keys are not below a key, and whether more remain. -/
def listFrom {α : Type} (k : Nat) (t : List (Nat × α)) : List (Nat × α) × Bool :=
  let rest := t.filter fun e => decide (k ≤ e.1)
  (rest.take 8, decide (8 < rest.length))

def ownCoilQueryOne (s : State) (id : Nat) : Verdict := do
  let k ← requireSome (s.coil? id) .noSuchItem 0
  .ok (s, .coilRecord id k)

def execCoilQueryOne (tag : Byte) (b : Body Nat) (s : State) : Host.Outcome State Fault Refusal :=
  .next (s.serve tag (.coilQueryOne b) b inAny noSelector ownCoilQueryOne)

def ownCoilQueryList (s : State) (id : Nat) : Verdict :=
  .ok (s, .coilList (listFrom id s.smu.coils).1 (listFrom id s.smu.coils).2)

def execCoilQueryList (tag : Byte) (b : Body Nat) (s : State) : Host.Outcome State Fault Refusal :=
  .next (s.serve tag (.coilQueryList b) b inAny noSelector ownCoilQueryList)

def ownSlotQueryOne (s : State) (i : Nat) : Verdict := do
  require (slotOk i) .badValue 0
  let t ← requireSome (s.slot? i) .noSuchItem 0
  .ok (s, .slotRecord i t)

def execSlotQueryOne (tag : Byte) (b : Body Nat) (s : State) : Host.Outcome State Fault Refusal :=
  .next (s.serve tag (.slotQueryOne b) b inAny noSelector ownSlotQueryOne)

def ownSlotQueryList (s : State) (i : Nat) : Verdict := do
  require (slotOk i) .badValue 0
  .ok (s, .slotList (listFrom i s.smu.slots).1 (listFrom i s.smu.slots).2)

def execSlotQueryList (tag : Byte) (b : Body Nat) (s : State) : Host.Outcome State Fault Refusal :=
  .next (s.serve tag (.slotQueryList b) b inAny noSelector ownSlotQueryList)

/-! ## SLOT-BLOCK, SLOT-UNBLOCK (R35) -/

/-- R35. A slot that is OCCUPIED and reserved as a source gets STATE_CONFLICT, where R35 gives no order of the
two refusals: the model's choice, log 56. -/
def ownSlotBlock (s : State) (i : Nat) : Verdict := do
  let t ← requireSome (s.slot? i) .noSuchItem 0
  require (t.state == .free) .stateConflict 0
  require (t.resv == .none) .reserved 0
  .ok (s.setSmu (s.smu.setState i .blocked), .slotState i .blocked)

def execSlotBlock (tag : Byte) (b : Body Nat) (s : State) : Host.Outcome State Fault Refusal :=
  .next (s.serve tag (.slotBlock b) b committed noSelector ownSlotBlock)

def ownSlotUnblock (s : State) (i : Nat) : Verdict := do
  let t ← requireSome (s.slot? i) .noSuchItem 0
  require (t.state == .blocked) .stateConflict 0
  .ok (s.setSmu ((s.smu.setState i .free).reserve i .none), .slotState i .free)

def execSlotUnblock (tag : Byte) (b : Body Nat) (s : State) : Host.Outcome State Fault Refusal :=
  .next (s.serve tag (.slotUnblock b) b committed noSelector ownSlotUnblock)

/-! ## SLOT-SUGGEST (R50 to R52) -/

/-- The coil a SLOT-SUGGEST asks about (R50 check 4). -/
def State.suggested (s : State) : SuggestAbout → Except Nak CoilDesc
  | .coil id => do
    let k ← requireSome (s.coil? id) .noSuchItem 0
    .ok k.desc
  | .described w d m g => .ok ⟨w, d, (m : Int), g⟩
  | .otherMode _ => .error ⟨.badValue, 2⟩

/-- The slot map a SLOT-SUGGEST judges: the tier-1 slot of a STORED coil counts as carrying a SOURCE
reservation (R51). -/
def State.suggestMap (s : State) : SuggestAbout → Smu
  | .coil id =>
    match (s.coil? id).bind Coil.slot? with
    | none => s.smu
    | some i =>
      match s.slot? i with
      | some t =>
        match t.geom.tier with
        | .one _ => s.smu.reserve i (.source 0)
        | .two _ _ => s.smu
      | none => s.smu
  | .described _ _ _ _ => s.smu
  | .otherMode _ => s.smu

/-- The answer to a SLOT-SUGGEST, from its winner and the number of candidates (R52). -/
def suggestion (winner : Option (Nat × CostTerms)) (candidates : Nat) : Suggestion :=
  match winner with
  | some (i, c) => ⟨.slot, i, c.total, c, candidates⟩
  | none => ⟨.noSlot, 0, 0, ⟨0, 0, 0, 0⟩, candidates⟩

def ownSlotSuggest (s : State) (v : SlotSuggest) : Verdict := do
  checkFrom 1 (suggestChecks v)
  let c ← readNum v.crane 1
  require (s.links.get c).isSome .noSuchItem v.crane
  let r ← requireSome (s.craneRunway c) .noSuchItem v.crane
  let x ← requireSome (s.position? c) .stateConflict v.crane
  let d ← s.suggested v.about
  let found := (s.suggestMap v.about).candidates s.lsu.settings.tier2Penalty r x d
  .ok (s, .suggestion (suggestion (cheapest found) found.length))

def execSlotSuggest (tag : Byte) (b : Body SlotSuggest) (s : State) : Host.Outcome State Fault Refusal :=
  .next (s.serve tag (.slotSuggest b) b committed noSelector ownSlotSuggest)

end Sys2Proof.Machine
end

