-- ==== Sys2Proof/Machine/TaskRequests.lean ====
section
/-! DEFINITION. The requests of the task control unit (04): TASK-SUBMIT, the resolutions, HALT and
RESUME, DETACH and ATTACH, TASK-QUERY. -/

namespace Sys2Proof.Machine

/-! ## TASK-SUBMIT (R56 to R58) -/

/-- The slot index or bay number of a place, as a detail. -/
def Place.number : Place → Nat
  | .slot i => i
  | .cradle b _ => numVal b

/-- A slot or bay of a place is defined in the committed layout. -/
def State.placeDefined (s : State) : Place → Bool
  | .slot i => (s.slot? i).isSome
  | .cradle b _ => (s.bcu.bays.get b).isSome

/-- The runway of a place. -/
def State.placeRunway (s : State) : Place → Option RunwayId
  | .slot i => (s.slot? i).map (·.geom.runway)
  | .cradle b _ => (s.lsu.bays.get b).map (·.runway)

/-- The installed plan of a bay has an entry at a cradle that names a coil, with a kind and a status
(R57). -/
def State.entryIs (s : State) (b : BayId) (k coil : Nat) (kind : PlanKind) (status : EntryStatus) : Bool :=
  match s.plan? b with
  | none => false
  | some p => p.head.kind == kind && p.entries.contains ⟨k, coil, status⟩

/-- A bay a task may take a coil from (R57). -/
def BayState.occupied : BayState → Bool
  | .present => true
  | .secured => true
  | .working => true
  | .empty => false
  | .complete => false

/-- A source passes the cradle check of R57. -/
def State.sourceOk (s : State) (k : Coil) (coil : Nat) : Place → Bool
  | .slot _ => true
  | .cradle b n =>
    s.entryIs b n coil .unload .onTruck && k.location == .cradle b n &&
      match s.bcu.bays.get b with
      | some y => y.state.occupied
      | none => false

/-- A destination passes the cradle check of R57. -/
def State.destOk (s : State) (coil : Nat) : Dest → Bool
  | .auto => true
  | .place (.slot _) => true
  | .place (.cradle b n) => s.entryIs b n coil .load .pending

def isCradle : Place → Bool
  | .slot _ => false
  | .cradle _ _ => true

def Dest.place? : Dest → Option Place
  | .auto => none
  | .place p => some p

def onHook : Location → Bool
  | .hook _ => true
  | .slot _ => false
  | .cradle _ _ => false

/-- The new task of a TASK-SUBMIT (R58). -/
def submitted (v : TaskSubmit) (src : Place) (dst : Dest) : Task where
  id := v.task
  coil := v.coil
  kind := taskKind src dst
  source := src
  dest := dst
  priority := v.flags.getLsbD 0
  noVerify := v.flags.getLsbD 1
  phase := .queued
  hold := none
  deadline := none
  offered := none
  fresh := false

/-- An accepted task is placed, with its reservations, its claim and its coil's task field (R58). -/
def State.accept (s : State) (c : CraneId) (t : Task) : State :=
  let u := ((s.smu.grantSource t.id t.source).grantDest t.id t.dest).modCoil t.coil fun k =>
    { k with task := some t.id }
  (((s.setSmu u).entryTo t.dest t.coil .pending .claimed).setQueue c
    (placeTask t (s.tcu.queues.get c))).notify (t.notice c .queued)

/-- The place of a task in a queue, 1 for the head. -/
def placeIn (id : Nat) (q : List Task) : Nat := (q.takeWhile fun t => t.id != id).length + 1

/-- R56, R57, in the order of Table 4-4. Where source and destination both fail check 8, or both the runway
test of check 9, the detail names the source's slot or bay, and where both are cradles, which is tested after
the runways, the destination's bay: Table 4-4 says neither, the model's choice, log 47. -/
def ownTaskSubmit (s : State) (v : TaskSubmit) : Verdict := do
  checkFrom 1 (submitChecks v)
  let c ← readNum v.crane 2
  let src ← requireSome (readPlace v.srcKind v.srcNum v.srcCradle) .badValue 5
  let dst ← requireSome (readDest v.dstKind v.dstNum v.dstCradle) .badValue 8
  require ((s.links.get c).isSome && !s.tcu.detached.get c) .stateConflict v.crane
  let r ← requireSome (s.craneRunway c) .stateConflict v.crane
  require (decide ((s.tcu.queues.get c).length < Config.queueMax)) .queueFull v.crane
  require (s.task? v.task).isNone .duplicate v.task
  let k ← requireSome (s.coil? v.coil) .noSuchItem 0
  require (!onHook k.location) .locationMismatch 0
  require k.task.isNone .stateConflict (k.task.getD 0)
  require (s.placeDefined src) .noSuchItem v.srcNum
  require (dst.place?.all s.placeDefined) .noSuchItem v.dstNum
  require (s.placeRunway src == some r) .badValue v.srcNum
  require (dst.place?.all fun p => s.placeRunway p == some r) .badValue v.dstNum
  require (!(isCradle src && dst.place?.any isCradle)) .badValue v.dstNum
  require (s.sourceOk k v.coil src) .locationMismatch v.srcNum
  require (s.destOk v.coil dst) .locationMismatch v.dstNum
  requireNone (s.smu.testBoth v.task v.coil r k.desc src dst)
  let t := submitted v src dst
  .ok (s.accept c t, .taskQueued t.id c t.kind (placeIn t.id (placeTask t (s.tcu.queues.get c))))

def execTaskSubmit (tag : Byte) (b : Body TaskSubmit) (s : State) : Host.Outcome State Fault Refusal :=
  .next (s.serve tag (.taskSubmit b) b inRun noSelector ownTaskSubmit)

/-! ## Resolutions (R73 to R79) -/

/-- The hold reason of a task as a detail (Table 11-5). -/
def Task.holdDetail (t : Task) : Nat :=
  match t.hold with
  | some h => holdCode h
  | none => 0

/-- What the ACK of a resolution carries: the task as it stands after the request (R73). Where the task is
gone, the state CANCELLED and the destination it had: the model's choice, log 50. -/
def State.resolutionAck (s : State) (id : Nat) (gone : Task) : Ack :=
  match s.task? id with
  | some (_, t) => .resolution ⟨id, t.state, t.dest, t.hold⟩
  | none => .resolution ⟨id, .cancelled, gone.dest, none⟩

/-- The live task of a resolution (R73 check 1). -/
def State.liveTask (s : State) (id : Nat) : Except Nak (CraneId × Task) :=
  requireSome (s.task? id) .noSuchItem id

/-- The check of a resolution that the owner answers with a state: a refusal, or the state after. -/
def State.resolved (s : State) (id : Nat) (t : Task) : Verdict := .ok (s, s.resolutionAck id t)

/-- A task cancelled (R79). -/
def State.cancelTask (s : State) (c : CraneId) (t : Task) : State :=
  let u := ((s.smu.releaseSource t.id t.source).releaseDest t.id t.dest).modCoil t.coil fun k =>
    { k with task := none }
  let s := (s.setSmu u).entryTo t.dest t.coil .claimed .pending
  let s := (s.removeTask c t.id).notify ({ t with hold := none }.notice c .cancelled)
  let s := if t.inFlight then s.workStopAll t else s
  if t.phase = .picking then s.evaluate c else s

/-- R79. The ACK's body, for a task that is no more, and the detail 0 of COIL_ON_HOOK for a HELD task are the
model's choices, logs 50 and 57. -/
def ownTaskCancel (s : State) (id : Nat) : Verdict := do
  let (c, t) ← s.liveTask id
  require (!t.onHook) .coilOnHook 0
  (s.cancelTask c t).resolved id t

def execTaskCancel (tag : Byte) (b : Body Nat) (s : State) : Host.Outcome State Fault Refusal :=
  .next (s.serve tag (.taskCancel b) b inRun noSelector ownTaskCancel)

/-- A deadline for a task that returns to WEIGHING (R74). -/
def State.settleAt (s : State) (p : Phase) : Option Nat :=
  if p = .weighing then some (s.now + s.lsu.settings.settleTime) else none

/-- The final check alone, for a task held with AXLE_LIMIT from CARRYING (R160, R74). -/
def State.finalPasses (s : State) (t : Task) : Bool :=
  match t.dest with
  | .place (.cradle b k) =>
    match s.plan? b with
    | some p => s.smu.finalCheck p t.coil k
    | none => true
  | .place (.slot _) => true
  | .auto => true

/-- RETRY of a task by its hold reason (R74): the state after, or none for CONDITION_ACTIVE. -/
def State.retry (s : State) (c : CraneId) (t : Task) : HoldReason → Option State
  | .positionMismatch => some (s.advance c (t.working t.phase true none))
  | .weighTimeout => some (s.advance c (t.working .weighing false (s.settleAt .weighing)))
  | .noSlot => (s.selectFor c t.coil).map fun e => s.grantChoice c t e.1
  | .axleLimit =>
    if t.phase = .weighing then
      if s.predicts t then some (s.exitCarry c t) else none
    else if s.finalPasses t then some (s.advance c (t.working .placing false none))
    else none
  | .linkLost =>
    if s.linkActive c && s.referenced c then
      some (s.advance c (t.working t.phase false (s.settleAt t.phase)))
    else none
  | .referenceLost =>
    if s.linkActive c && s.referenced c then
      some (s.advance c (t.working t.phase false (s.settleAt t.phase)))
    else none
  | .weightMismatch => none
  | .planOrder => none

/-- The hold reasons that allow RETRY (Table 4-7). -/
def retryAllowed : HoldReason → Bool
  | .positionMismatch => true
  | .weighTimeout => true
  | .noSlot => true
  | .axleLimit => true
  | .linkLost => true
  | .referenceLost => true
  | .weightMismatch => false
  | .planOrder => false

def ownRetry (s : State) (id : Nat) : Verdict := do
  let (c, t) ← s.liveTask id
  let why ← requireSome t.hold .stateConflict 0
  require (retryAllowed why) .stateConflict (holdCode why)
  let s' ← requireSome (s.retry c t why) .conditionActive 0
  s'.resolved id t

def execRetry (tag : Byte) (b : Body Nat) (s : State) : Host.Outcome State Fault Refusal :=
  .next (s.serve tag (.retry b) b inRun noSelector ownRetry)

def ownAcceptWeight (s : State) (id : Nat) : Verdict := do
  let (c, t) ← s.liveTask id
  require (t.hold == some .weightMismatch || t.hold == some .weighTimeout) .stateConflict t.holdDetail
  (s.weighExit c t (if t.hold = some .weightMismatch then t.offered else none)).resolved id t

def execAcceptWeight (tag : Byte) (b : Body Nat) (s : State) : Host.Outcome State Fault Refusal :=
  .next (s.serve tag (.acceptWeight b) b inRun noSelector ownAcceptWeight)

/-- The checks of a REDIRECT's destination (R76). -/
def State.redirectTest (s : State) (c : CraneId) (t : Task) (d : Dest) : Except Nak Unit :=
  match d with
  | .auto => .ok ()
  | .place p => do
    require (s.placeDefined p) .noSuchItem p.number
    require (s.placeRunway p == s.craneRunway c) .badValue p.number
    require (d != t.dest) .stateConflict 0
    match p with
    | .slot i => do
      let k ← requireSome (s.coil? t.coil) .noSuchItem 0
      let r ← requireSome (s.craneRunway c) .badValue i
      requireNone (s.smu.testDest r i k.desc)
    | .cradle b _ => require (s.destOk t.coil d) .locationMismatch (numVal b)

/-- A task in flight stops or starts referencing bays: those the old record names and the new does not,
and the reverse (R76). -/
def State.moveWork (s : State) (old new : Task) : State :=
  let s := (old.bays.filter fun b => !new.references b).foldl (fun s b => s.workStop b old.id) s
  (new.bays.filter fun b => !old.references b).foldl (fun s b => s.workStart b new.id) s

/-- A task with a new destination and the kind that follows (R54). -/
def Task.redirected (t : Task) (d : Dest) : Task := { t with dest := d, kind := taskKind t.source d }

/-- The reservations, plan entries, record and bay work of a REDIRECT (R76, R77). -/
def State.redirect (s : State) (c : CraneId) (t : Task) (d : Dest) : State :=
  let s := s.setSmu ((s.smu.releaseDest t.id t.dest).grantDest t.id d)
  let s := (s.entryTo t.dest t.coil .claimed .pending).entryTo d t.coil .pending .claimed
  let s := s.putTask c (t.redirected d)
  if t.inFlight then s.moveWork t (t.redirected d) else s

/-- R76, R77. An exit that ends in the hold reason the task had queues a notice too: the model's choice,
log 21. -/
def ownRedirect (s : State) (v : Redirect) : Verdict := do
  let (c, t) ← s.liveTask v.task
  require (!t.onHook || t.held) .stateConflict t.holdDetail
  checkFrom 2 (destChecks v.dstKind v.dstNum v.dstCradle)
  let d ← requireSome (readDest v.dstKind v.dstNum v.dstCradle) .badValue 3
  s.redirectTest c t d
  let s' := s.redirect c t d
  (if t.onHook then s'.exitSelect c (t.redirected d) else s').resolved v.task t

def execRedirect (tag : Byte) (b : Body Redirect) (s : State) : Host.Outcome State Fault Refusal :=
  .next (s.serve tag (.redirect b) b inRun noSelector ownRedirect)

/-- RETURN: the source becomes the destination, and the task is CARRYING (R78). -/
def State.returnTask (s : State) (c : CraneId) (t : Task) : State :=
  let t' := { t with dest := .place t.source }
  let s := s.setSmu (s.smu.releaseDest t.id t.dest)
  let s := s.entryTo t.dest t.coil .claimed .pending
  (s.moveWork t t').exitCarry c t'

def ownReturn (s : State) (id : Nat) : Verdict := do
  let (c, t) ← s.liveTask id
  require (t.held && t.onHook) .stateConflict t.holdDetail
  (s.returnTask c t).resolved id t

def execReturn (tag : Byte) (b : Body Nat) (s : State) : Host.Outcome State Fault Refusal :=
  .next (s.serve tag (.taskReturn b) b inRun noSelector ownReturn)

/-! ## TASK-QUERY (R84) -/

/-- The record of a task, each optional field present in the states that Table 4-1 names (R84). The settle
deadline is a time of the model's clock, log 1. -/
def Task.report (t : Task) (c : CraneId) : TaskReport where
  id := t.id
  crane := c
  coil := t.coil
  kind := t.kind
  source := t.source
  dest := t.dest
  priority := t.priority
  noVerify := t.noVerify
  state := t.state
  hold := t.hold
  heldFrom := t.hold.map fun _ => t.phase
  deadline := if t.state = .weighing then t.deadline else none
  offered := if t.hold = some .weightMismatch then t.offered else none
  fresh := if t.state = .dispatched ∨ t.state = .carrying then some t.fresh else none

def ownTaskQueryOne (s : State) (id : Nat) : Verdict := do
  let (c, t) ← requireSome (s.task? id) .noSuchItem 0
  .ok (s, .taskRecord (t.report c))

def execTaskQueryOne (tag : Byte) (b : Body Nat) (s : State) : Host.Outcome State Fault Refusal :=
  .next (s.serve tag (.taskQueryOne b) b inAny noSelector ownTaskQueryOne)

/-- A crane number of a request, defined in the committed layout. -/
def State.readCrane (s : State) (n : Nat) : Except Nak CraneId := do
  let c ← readNum n 0
  require (s.links.get c).isSome .noSuchItem 0
  .ok c

/-- What R84 gives of each task of a queue. -/
def Task.line (t : Task) : TaskLine := ⟨t.id, t.coil, t.kind, t.state, t.hold⟩

/-- R84. The ACK also names the crane: the model's choice, log 49. -/
def ownTaskQueryCrane (s : State) (n : Nat) : Verdict := do
  let c ← s.readCrane n
  .ok (s, .taskQueue c ((s.tcu.queues.get c).map Task.line))

def execTaskQueryCrane (tag : Byte) (b : Body Nat) (s : State) : Host.Outcome State Fault Refusal :=
  .next (s.serve tag (.taskQueryCrane b) b inAny noSelector ownTaskQueryCrane)

/-! ## HALT, RESUME (R80, R81) -/

/-- The cranes a target names (R80; log 43). -/
def State.haltTargets (s : State) : HaltTarget → Except Nak (List CraneId)
  | .crane n => do
    let c ← s.readCrane n
    .ok [c]
  | .runway r => do
    let r ← readCoded r 0
    require (s.rcu.views.get r).isSome .noSuchItem 0
    .ok (allNum4.filter fun c => (s.links.get c).isSome && s.craneRunway c == some r)
  | .all => .ok (allNum4.filter fun c => (s.links.get c).isSome)
  | .other _ => .error ⟨.badValue, 0⟩

/-- The halts of some cranes written, and their runways evaluated (R136). -/
def State.setHalts (s : State) (cs : List CraneId) (m : Option HaltMode) : State :=
  let s := s.setTcu { s.tcu with halts := s.tcu.halts.map fun c h => if cs.contains c then m else h }
  (allRunways.filter fun r => cs.any fun c => s.craneRunway c == some r).foldl State.evaluateRunway s

/-- The values of a target lie in their sets (log 43). -/
def targetOk : HaltTarget → Bool
  | .crane n => num4Ok n
  | .runway r => codedOk r
  | .all => true
  | .other _ => false

/-- R80. The ACK lists the cranes by ascending number: the model's choice, log 54. -/
def ownHalt (s : State) (v : HaltReq) : Verdict := do
  require (targetOk v.target) .badValue 0
  let m ← readCoded v.mode 0
  let cs ← s.haltTargets v.target
  .ok (s.setHalts cs (some m), .halted cs m)

def execHalt (tag : Byte) (b : Body HaltReq) (s : State) : Host.Outcome State Fault Refusal :=
  .next (s.serve tag (.halt b) b committed noSelector ownHalt)

/-- R81. The ACK lists the cranes by ascending number: the model's choice, log 54. -/
def ownResume (s : State) (v : HaltTarget) : Verdict := do
  let cs ← s.haltTargets v
  .ok (s.setHalts cs none, .resumed (cs.filter fun c => (s.tcu.halts.get c).isSome))

def execResume (tag : Byte) (b : Body HaltTarget) (s : State) : Host.Outcome State Fault Refusal :=
  .next (s.serve tag (.resume b) b committed noSelector ownResume)

/-! ## DETACH, ATTACH (R82) -/

/-- A defined crane by its number; NO_SUCH_ITEM for any other number. -/
def State.definedCrane (s : State) (n : Nat) : Except Nak CraneId := do
  let c ← requireSome (num4? n) .noSuchItem 0
  require (s.links.get c).isSome .noSuchItem 0
  .ok c

def State.setDetached (s : State) (c : CraneId) (v : Bool) : State :=
  s.setTcu { s.tcu with detached := s.tcu.detached.set c v }

def ownDetach (s : State) (n : Nat) : Verdict := do
  let c ← s.definedCrane n
  require (s.tcu.queues.get c).isEmpty .stateConflict 0
  .ok (s.setDetached c true, .detachMark c true)

def execDetach (tag : Byte) (b : Body Nat) (s : State) : Host.Outcome State Fault Refusal :=
  .next (s.serve tag (.detach b) b committed noSelector ownDetach)

def ownAttach (s : State) (n : Nat) : Verdict := do
  let c ← s.definedCrane n
  .ok (s.setDetached c false, .detachMark c false)

def execAttach (tag : Byte) (b : Body Nat) (s : State) : Host.Outcome State Fault Refusal :=
  .next (s.serve tag (.attach b) b committed noSelector ownAttach)

end Sys2Proof.Machine
end

