-- ==== Sys2Proof/Machine/CraneRequests.lean ====
section
/-! DEFINITION. The requests about one crane or runway: CRANE-QUERY (R102), ZERO (R109, R110), WEIGH-RESET
(R115), WEIGH-QUERY (R120), RUNWAY-QUERY (R141). -/

namespace Sys2Proof.Machine

/-- The state of a link, without its watchdog. -/
def Link.state : Link → LinkState
  | .silent => .silent
  | .active _ => .active
  | .lost => .lost

/-- What R102 lists of a command record. -/
def CommandRec.report (r : CommandRec) : SentReport := ⟨r.fwd, r.rev, r.lower, r.raise, r.order, r.task⟩

/-- R102. -/
def State.craneReport (s : State) (c : CraneId) (l : CraneLink) : CraneReport where
  link := l.link.state
  referenced := l.referenced
  correction := l.correction
  hasPosition := l.last.isSome
  last := l.last.map fun r => (r.record, r.corrected, s.now - r.time)
  overCount := l.overCount
  overspeed := l.overspeed
  orderConflict := s.orderConflict c
  driveFault := l.driveFault
  sent := (s.ports.get c).lastSent.report

/-- R102. The ACK also names the crane: the model's choice, log 49. -/
def ownCraneQuery (s : State) (n : Nat) : Verdict := do
  let c ← readNum n 0
  let l ← requireSome (s.links.get c) .noSuchItem 0
  .ok (s, .crane c (s.craneReport c l))

def execCraneQuery (tag : Byte) (b : Body Nat) (s : State) : Host.Outcome State Fault Refusal :=
  .next (s.serve tag (.craneQuery b) b inAny noSelector ownCraneQuery)

/-- The last valid status record exists and reports the grab OPEN (Table 6-4 check 3). -/
def State.grabOpen (s : State) (c : CraneId) : Bool :=
  match s.links.get c with
  | some l => match l.last with | some r => r.record.grab.isOpen | none => false
  | none => false

/-- The derived values of a hoist formed from its window as a request left it (R120; log 30). -/
def State.reform (s : State) (c : CraneId) (p : ParamSet) : State :=
  s.modHoist c fun h => { h with result := h.form p.gain s.lsu.settings.stabilityBand true }

def ownZero (s : State) (v : ZeroReq) : Verdict := do
  let c ← readNum v.crane 1
  let force ← readCoded v.force 2
  let h ← requireSome (s.hoists.get c) .noSuchItem v.crane
  let p ← requireSome (s.lsu.active.get c) .noSuchItem v.crane
  require (s.grabOpen c) .stateConflict v.crane
  requireNone (h.frozen.map fun f => ⟨.conditionActive, f.cause.bits⟩)
  let r := h.form p.gain s.lsu.settings.stabilityBand true
  require r.steady .notSteady r.count
  let w := r.filtered.getD 0
  require (force || h.state == .unzeroed || inZeroBand p.capacity w) .zeroOutOfRange
    (min w.natAbs 65535)
  let cause := if force then ZeroCause.forced else .manual
  .ok ((s.takeZero c h cause).reform c p, .zeroTaken (h.zeroTaken c cause s.lsu.settings.rezeroCount))

def execZero (tag : Byte) (b : Body ZeroReq) (s : State) : Host.Outcome State Fault Refusal :=
  .next (s.serve tag (.zero b) b committed noSelector ownZero)

def ownWeighReset (s : State) (n : Nat) : Verdict := do
  let c ← readNum n 0
  let h ← requireSome (s.hoists.get c) .noSuchItem 0
  require (!h.conds.any) .conditionActive h.conds.bits
  .ok ((s.emptyWindow c).modHoist c fun h => { h with frozen := none }, .weighReset c h.frozen.isSome)

def execWeighReset (tag : Byte) (b : Body Nat) (s : State) : Host.Outcome State Fault Refusal :=
  .next (s.serve tag (.weighReset b) b committed noSelector ownWeighReset)

/-- R120. While the window is not full, steady and valid are false, as R106 says, and not marked absent: the
model's choice, log 51. -/
def Hoist.report (h : Hoist) (gain : Nat) : WeighReport where
  state := h.state
  z := h.z
  counter := h.counter
  count := h.window.length
  samples := h.window.map fun r => (r, weightOf h.z gain r)
  filtered := h.result.filtered
  recorded := h.result.recorded
  steady := h.result.steady
  valid := h.result.valid
  conds := h.conds
  raiseInhibit := h.conds.overload
  loadClass := h.loadClass
  frozen := h.frozen

/-- R120. The ACK also names the crane: the model's choice, log 49. -/
def ownWeighQuery (s : State) (n : Nat) : Verdict := do
  let c ← readNum n 0
  let h ← requireSome (s.hoists.get c) .noSuchItem 0
  let p ← requireSome (s.lsu.active.get c) .noSuchItem 0
  .ok (s, .weigh c (h.report p.gain))

def execWeighQuery (tag : Byte) (b : Body Nat) (s : State) : Host.Outcome State Fault Refusal :=
  .next (s.serve tag (.weighQuery b) b inAny noSelector ownWeighQuery)

/-- R141. -/
def State.runwayCrane (s : State) (c : CraneId) : Option RunwayCraneReport :=
  match s.links.get c, s.rcu.cranes.get c with
  | some l, some r =>
    let sent := (s.ports.get c).lastSent
    some
      { crane := c, link := l.link.state, awaiting := r.awaiting, motion := r.motion, load := r.load
        swing := r.load.map LoadClass.swing, claim := r.claim, availF := r.availF, availR := r.availR
        compF := r.compF, compR := r.compR, caps := r.caps, finalF := r.finalF, finalR := r.finalR
        sentF := sent.fwd, sentR := sent.rev, lower := r.lower, sentLower := sent.lower
        runEnable := r.runEnable }
  | _, _ => none

/-- R141. The ACK also names the runway: the model's choice, log 49. -/
def ownRunwayQuery (s : State) (v : Coded RunwayId) : Verdict := do
  let r ← readCoded v 0
  let view ← requireSome (s.rcu.views.get r) .noSuchItem 0
  .ok (s, .runway r view.length view.estop
    ((s.zonesOn r).map fun (b, g, z) => ⟨b, g.xLo, g.xHi, z.closed, z.manned⟩)
    ((s.cranesOn r).filterMap s.runwayCrane))

def execRunwayQuery (tag : Byte) (b : Body (Coded RunwayId)) (s : State) :
    Host.Outcome State Fault Refusal :=
  .next (s.serve tag (.runwayQuery b) b inAny noSelector ownRunwayQuery)

end Sys2Proof.Machine
end

