-- ==== Sys2Proof/Machine/BayRequests.lean ====
section
/-! DEFINITION. The requests of the bay control unit (08). -/

namespace Sys2Proof.Machine

/-- A bay number of a request, with its record (BAD_VALUE, NO_SUCH_ITEM). -/
def State.readBay (s : State) (n : Nat) : Except Nak (BayId × Bay) := do
  let b ← readNum n 0
  let y ← requireSome (s.bcu.bays.get b) .noSuchItem 0
  .ok (b, y)

/-- Bay states in a detail (Table 11-5). -/
def bayStateCode : BayState → Nat
  | .empty => 0 | .present => 1 | .secured => 2 | .working => 3 | .complete => 4

/-! ## Trailers (R148, R164) -/

def ownTruckArrive (s : State) (n : Nat) : Verdict := do
  let (b, y) ← s.readBay n
  require (y.state == .empty) .stateConflict 0
  let v := if y.secure then BayState.secured else .present
  .ok (s.setBayState b v, .bayState b v)

def execTruckArrive (tag : Byte) (b : Body Nat) (s : State) : Host.Outcome State Fault Refusal :=
  .next (s.serve tag (.truckArrive b) b inRun noSelector ownTruckArrive)

/-- TRUCK-DEPART may be accepted in the bay's state (R164). -/
def Bay.mayDepart (y : Bay) : Bool :=
  match y.state with
  | .complete => true
  | .present => y.plan.isNone
  | .secured => y.plan.isNone
  | .empty => false
  | .working => false

/-- R164. The ACK also names the bay: the model's choice, log 49. -/
def ownTruckDepart (s : State) (n : Nat) : Verdict := do
  let (b, y) ← s.readBay n
  require (y.state != .working) .conditionActive 0
  require y.mayDepart .stateConflict 0
  let u := s.smu.deleteBay b
  let s' := (s.setSmu u).modBay b fun y => { y with plan := none }
  .ok (s'.setBayState b .empty, .departed b (s.smu.coils.length - u.coils.length))

def execTruckDepart (tag : Byte) (b : Body Nat) (s : State) : Host.Outcome State Fault Refusal :=
  .next (s.serve tag (.truckDepart b) b inRun noSelector ownTruckDepart)

/-! ## Curtain and snapshot (R144, R145, R147) -/

/-- The latch after BAY-MODE (R144; log 46). -/
def Bay.latchFor (y : Bay) (m : CurtainMode) : Bool :=
  y.latch || (y.mode == .level && m == .latched && y.live.curtain)

/-- R144. A mode outside its two is BAD_VALUE, also for a bay that is not defined: the order of the two checks
is the model's choice, log 43. -/
def ownBayMode (s : State) (v : BayModeReq) : Verdict := do
  let b ← readNum v.bay 0
  let m ← readCoded v.mode 0
  let y ← requireSome (s.bcu.bays.get b) .noSuchItem 0
  let latch := y.latchFor m
  let s' := s.modBay b fun y => { y with mode := m, latch := latch }
  .ok (s'.bayDerived b, .bayMode b m latch)

def execBayMode (tag : Byte) (b : Body BayModeReq) (s : State) : Host.Outcome State Fault Refusal :=
  .next (s.serve tag (.bayMode b) b inRun noSelector ownBayMode)

def ownBayClear (s : State) (n : Nat) : Verdict := do
  let (b, y) ← s.readBay n
  require (!y.live.curtain) .conditionActive 0
  let s' := s.modBay b fun y => { y with latch := false }
  .ok (s'.bayDerived b, .bayCleared b false (y.live.secure false) (y.live.manned false))

def execBayClear (tag : Byte) (b : Body Nat) (s : State) : Host.Outcome State Fault Refusal :=
  .next (s.serve tag (.bayClear b) b inRun noSelector ownBayClear)

/-- R147. The ACK also names the bay: the model's choice, log 49. -/
def ownBayAck (s : State) (n : Nat) : Verdict := do
  let (b, y) ← s.readBay n
  if y.live = y.snapshot then
    .ok (s.modBay b fun y => { y with frozen := false }, .bayAcked b y.snapshot false)
  else
    let y' := { y with snapshot := y.live, frozen := true }
    .ok ((s.modBay b fun _ => y').notifyInputs b y', .bayAcked b y.live true)

def execBayAck (tag : Byte) (b : Body Nat) (s : State) : Host.Outcome State Fault Refusal :=
  .next (s.serve tag (.bayAck b) b inRun noSelector ownBayAck)

/-! ## Building a plan (R152 to R157) -/

/-- A cradle's runway x lies within the bay (R152 check 5). -/
def cradleInBay (g : BayGeom) (c : Nat) : Bool :=
  let x := (g.kingpinX : Int) + g.direction * (c : Int)
  decide ((g.xLo : Int) ≤ x) && decide (x ≤ (g.xHi : Int))

def ownPlanOpen (s : State) (v : PlanOpen) : Verdict := do
  checkFrom 1 (planOpenChecks v)
  checkFrom 1 (cradleChecks v)
  let b ← readNum v.bay 1
  let k ← readCoded v.kind 2
  let y ← requireSome (s.bcu.bays.get b) .noSuchItem 0
  let g ← requireSome (s.lsu.bays.get b) .noSuchItem 0
  require (y.state == .present || y.state == .secured) .stateConflict (bayStateCode y.state)
  require y.plan.isNone .stateConflict 0
  checkFrom 1 (v.cradles.map (cradleInBay g))
  .ok (s.setBcu { s.bcu with build := some ⟨b, planHeadOf v k, []⟩ }, .planOpened b v.cradles.length)

def execPlanOpen (tag : Byte) (b : Body PlanOpen) (s : State) : Host.Outcome State Fault Refusal :=
  .next (s.serve tag (.planOpen b) b inRun noSelector ownPlanOpen)

/-- The place in loading order, from 1, of the first entry that names a coil. -/
def placeOfCoil (coil : Nat) (es : List (Nat × Nat)) : Option Nat :=
  (es.findIdx? fun e => e.2 == coil).map (· + 1)

/-- The checks of a LOAD entry (R154). -/
def State.loadEntryTest (s : State) (u : Build) (v : PlanEntry) : Except Nak Unit := do
  let k ← requireSome (s.coil? v.coil) .noSuchItem 0
  requireNone ((placeOfCoil v.coil u.entries).map fun i => ⟨.duplicate, i⟩)
  let i ← requireSome k.slot? .locationMismatch 0
  require ((s.slot? i).map (·.geom.runway) == (s.lsu.bays.get u.bay).map (·.runway)) .locationMismatch 0
  requireNone (k.plan.map fun b => ⟨.stateConflict, numVal b⟩)

/-- The checks of an UNLOAD entry (R155, R38). -/
def State.unloadEntryTest (s : State) (v : PlanEntry) : Except Nak Unit := do
  require (s.coil? v.coil).isNone .duplicate 0
  require (decide (s.smu.coils.length < Config.coilMax)) .tableFull 0

/-- The checks of an entry (R153 to R155). -/
def State.entryTest (s : State) (u : Build) (v : PlanEntry) : Except Nak Unit := do
  require (planEntryOk v u.head.cradles.length) .badValue 0
  require (v.kind == .known u.head.kind) .badValue 0
  require (!(u.entries.any fun e => e.1 == v.cradle)) .duplicate v.cradle
  match u.head.kind with
  | .load => s.loadEntryTest u v
  | .unload => s.unloadEntryTest v

/-- The record an UNLOAD entry creates (R38). -/
def trailerCoil (b : BayId) (v : PlanEntry) : Coil :=
  ⟨v.width, v.diameter, v.declared, none, 0, .cradle b v.cradle, none, none⟩

/-- The entry joins the build; an UNLOAD entry creates its coil's record. -/
def State.addEntry (s : State) (u : Build) (v : PlanEntry) : State :=
  let s := match u.head.kind with
    | .load => s
    | .unload => s.setCoils (Table.put v.coil (trailerCoil u.bay v) s.smu.coils)
  s.setBcu { s.bcu with build := some { u with entries := u.entries ++ [(v.cradle, v.coil)] } }

/-- The entries of a build by declared weight and position, in loading order (R157). -/
def Smu.declared (m : Smu) (u : Build) : List (Int × Nat) :=
  u.entries.filterMap fun e =>
    match m.coil? e.2, u.head.position? e.1 with
    | some k, some c => some ((k.declared : Int), c)
    | _, _ => none

/-- The plan check of R157: the detail of LIMIT_EXCEEDED. -/
def Smu.planCheck (m : Smu) (u : Build) : Except Nak Unit :=
  match u.head.kind with
  | .unload => .ok ()
  | .load => requireNone ((u.head.failingPrefix (m.declared u)).map fun e =>
      ⟨.limitExceeded, 256 * e.1 + e.2⟩)

/-- The plan that a build becomes (R157). -/
def Build.plan (u : Build) : Plan :=
  let status := match u.head.kind with | .load => EntryStatus.pending | .unload => .onTruck
  ⟨u.head, u.entries.map fun e => ⟨e.1, e.2, status⟩, false⟩

/-- The plan is installed (R157). -/
def State.install (s : State) (u : Build) : State :=
  let m := match u.head.kind with
    | .load => s.smu.setPlan (u.entries.map (·.2)) (some u.bay)
    | .unload => s.smu
  ((s.setSmu m).setBcu { s.bcu with build := none }).modBay u.bay fun y => { y with plan := some u.plan }

/-- A PLAN-ENTRY while a plan is being built (R153). -/
def ownPlanEntry (s : State) (u : Build) (v : PlanEntry) : Verdict := do
  s.entryTest u v
  let u' := { u with entries := u.entries ++ [(v.cradle, v.coil)] }
  let s' := s.addEntry u v
  if u'.entries.length < u.head.cradles.length then
    .ok (s', .planEntry u'.entries.length (u.head.cradles.length - u'.entries.length))
  else do
    s'.smu.planCheck u'
    .ok (s'.install u', .planInstalled (u.head.totals (s'.smu.declared u')))

/-- The judging of a PLAN-ENTRY: a failed entry discards the build (R156). -/
def State.judgeEntry (s : State) (b : Body PlanEntry) : State × Answer :=
  match b with
  | .badLength n => (s, .nak ⟨.badLength, n⟩)
  | .badSelector _ => (s, .nak ⟨.badValue, 0⟩)
  | .fields v =>
    if s.lsu.stage ≠ .run then (s, .nak ⟨.wrongStage, 0⟩)
    else
      match s.bcu.build with
      | none => (s, .nak ⟨.noPlanOpen, 0⟩)
      | some u => (ownPlanEntry s u v).settle s.discardBuild

def execPlanEntry (tag : Byte) (b : Body PlanEntry) (s : State) : Host.Outcome State Fault Refusal :=
  match s.takeFrame ⟨tag, .planEntry b⟩ with
  | none => .next s
  | some s => .next ((s.judgeEntry b).1.replyWith tag ReqKind.planEntry.code (s.judgeEntry b).2)

/-! ## Ending a plan (R162, R163) -/

/-- No live task references the bay (R162, R163). -/
def State.unreferenced (s : State) (b : BayId) : Except Nak Unit :=
  requireNone ((s.firstReference b).map fun t => ⟨.stateConflict, t.id⟩)

/-- The place in loading order of the first PLACED entry of a LOAD plan (R163 check 4). -/
def Plan.firstPlaced (p : Plan) : Option Nat :=
  match p.head.kind with
  | .unload => none
  | .load => (p.entries.findIdx? fun e => e.status == .placed).map (· + 1)

def ownPlanCancel (s : State) (n : Nat) : Verdict := do
  let (b, y) ← s.readBay n
  let p ← requireSome y.plan .stateConflict 0
  s.unreferenced b
  requireNone (p.firstPlaced.map fun i => ⟨.stateConflict, i⟩)
  let ids := p.entries.map (·.coil)
  let m := match p.head.kind with
    | .load => s.smu.setPlan ids none
    | .unload => s.smu.deleteOnTruck b ids
  let s' := (s.setSmu m).modBay b fun y => { y with plan := none }
  let s' := if y.state = .complete then s'.setBayState b (if y.secure then .secured else .present) else s'
  .ok (s', .planCancelled (s.smu.coils.length - m.coils.length))

def execPlanCancel (tag : Byte) (b : Body Nat) (s : State) : Host.Outcome State Fault Refusal :=
  .next (s.serve tag (.planCancel b) b inRun noSelector ownPlanCancel)

/-- The installed LOAD plan of a bay (R162 check 2). -/
def Bay.loadPlan? (y : Bay) : Option Plan := y.plan.filter fun p => p.head.kind == .load

def ownLoadClose (s : State) (n : Nat) : Verdict := do
  let (b, y) ← s.readBay n
  let p ← requireSome y.loadPlan? .stateConflict 0
  s.unreferenced b
  let placed := p.entries.filter fun e => e.status == .placed
  let removed := (p.entries.filter fun e => e.status != .placed).map (·.coil)
  let s' := (s.setSmu (s.smu.setPlan removed none)).modPlan b fun p =>
    { p with entries := placed, closed := true }
  let s' := if y.state = .present ∨ y.state = .secured then s'.setBayState b .complete else s'
  .ok (s', .loadClosed removed.length placed.length)

def execLoadClose (tag : Byte) (b : Body Nat) (s : State) : Host.Outcome State Fault Refusal :=
  .next (s.serve tag (.loadClose b) b inRun noSelector ownLoadClose)

/-! ## BAY-QUERY (R165) -/

/-- An entry of a plan as BAY-QUERY reports it. -/
def State.entryReport (s : State) (b : BayId) (h : PlanHead) (e : Entry) : EntryReport :=
  ⟨e, (h.position? e.cradle).getD 0, (s.destTarget (.place (.cradle b e.cradle))).1⟩

def State.bayReport (s : State) (b : BayId) (y : Bay) : BayReport where
  geom := s.lsu.bays.get b
  state := y.state
  live := y.live
  mode := y.mode
  latch := y.latch
  secure := y.secure
  closed := y.closed
  manned := y.manned
  snapshot := y.snapshot
  frozen := y.frozen
  work := y.work
  trailLeft := y.trail.map (· - s.now)
  intrusion := y.intrusion
  plan := y.plan.map fun p =>
    (p.head, p.closed, p.entries.map (s.entryReport b p.head), p.head.totals (s.smu.placed p))

/-- R165. The ACK also names the bay: the model's choice, log 49. -/
def ownBayQuery (s : State) (n : Nat) : Verdict := do
  let (b, y) ← s.readBay n
  .ok (s, .bay b (s.bayReport b y))

def execBayQuery (tag : Byte) (b : Body Nat) (s : State) : Host.Outcome State Fault Refusal :=
  .next (s.serve tag (.bayQuery b) b inAny noSelector ownBayQuery)

end Sys2Proof.Machine
end

