-- ==== Sys2Proof/Machine/IoRequests.lean ====
section
/-! DEFINITION. The requests of the discrete I/O unit (09 R168 to R173), and STATUS, FAULT-REPORT and
FAULT-MASK (10 R177 to R180); UNKNOWN_REQUEST (R184). -/

namespace Sys2Proof.Machine

/-! ## INPUT-ASSIGN, OUTPUT-ASSIGN (R168, R170) -/

def State.setInputs (s : State) (t : InTable) : State := s.setDio { s.dio with inputs := t }

def ownInputAssign (s : State) (v : InputAssign) : Verdict := do
  let f ← readCoded v.fn 1
  require (within 0 33 v.selection) .badValue 2
  let m ← readCoded v.mode 4
  require (modeFits f m) .badValue 4
  let i ← readCoded v.invert 3
  let a : InAssign := ⟨v.selection, i, m⟩
  .ok (s.setInputs (s.dio.inputs.set f a), .inputAssigned f a (a.level s.dio.lines))

def execInputAssign (tag : Byte) (b : Body InputAssign) (s : State) : Host.Outcome State Fault Refusal :=
  .next (s.serve tag (.inputAssign b) b inConfig noSelector ownInputAssign)

/-- The assignment of an output line replaced. -/
def Dio.setOutput (d : Dio) (k : Nat) (a : OutAssign) : Dio :=
  { d with outputs := d.outputs.setIfInBounds k a }

def ownOutputAssign (s : State) (v : OutputAssign) : Verdict := do
  require (within 0 15 v.line) .badValue 1
  let g ← requireSome (signal? v.signal) .badValue 2
  let m ← readCoded v.mode 3
  require (!(isRunEnable g && energises m)) .unsafeOutput v.line
  .ok (s.setDio (s.dio.setOutput v.line ⟨g, m⟩), .outputAssigned v.line ⟨g, m⟩ (s.drive ⟨g, m⟩))

def execOutputAssign (tag : Byte) (b : Body OutputAssign) (s : State) :
    Host.Outcome State Fault Refusal :=
  .next (s.serve tag (.outputAssign b) b inConfig noSelector ownOutputAssign)

/-! ## BEACON-SET (R172), IO-QUERY (R173) -/

/-- A beacon after BEACON-SET to AUTO (R172). -/
def Beacon.toAuto (b : Beacon) (anySet : Bool) (now stretch : Nat) : Beacon :=
  match b.mode with
  | .auto => b
  | .host =>
    let b := { b with mode := .auto }
    if anySet then b.onSet now stretch else { b with on := false }

/-- A beacon after BEACON-SET to HOST with a level (R172). -/
def Beacon.toHost (b : Beacon) (level : Bool) : Beacon :=
  { b with mode := .host, hostLevel := level, on := level, stretch := none }

/-- The ACK of BEACON-SET (R172). -/
def Beacon.ack (b : Beacon) (c : CraneId) : Ack := .beacon c b.mode b.hostLevel b.on

/-- A beacon of IO-QUERY (R173). -/
def Beacon.report (b : Beacon) : BeaconReport := ⟨b.mode, b.hostLevel, b.on, b.stretch.isSome⟩

def State.setBeacon (s : State) (c : CraneId) (b : Beacon) : State :=
  s.setDio { s.dio with beacons := s.dio.beacons.set c b }

/-- R172. In AUTO the level field is neither checked nor used, which R172 leaves open: the model's choice,
log 55. -/
def ownBeaconSet (s : State) (v : BeaconSet) : Verdict := do
  let c ← readNum v.crane 1
  let m ← readCoded v.mode 2
  match m with
  | .auto => do
    let b := (s.dio.beacons.get c).toAuto (s.fnu.craneSet c) s.now s.lsu.settings.beaconStretch
    .ok (s.setBeacon c b, b.ack c)
  | .host => do
    let level ← readCoded v.level 3
    let b := (s.dio.beacons.get c).toHost level
    .ok (s.setBeacon c b, b.ack c)

def execBeaconSet (tag : Byte) (b : Body BeaconSet) (s : State) : Host.Outcome State Fault Refusal :=
  .next (s.serve tag (.beaconSet b) b inAny noSelector ownBeaconSet)

def State.ioReport (s : State) : IoReport where
  lines := s.dio.lines.toList.map fun l => (l.level, l.settling.isSome)
  functions := allInputFns.map fun f => (f, s.dio.inputs.get f, s.dio.fnLevel f)
  outputs := s.dio.outputs.toList.map fun a => (a, s.drive a)
  signals := allSignals.map s.signal
  beacons := allNum4.map fun c => (s.dio.beacons.get c).report

def execIoQuery (tag : Byte) (b : Body Unit) (s : State) : Host.Outcome State Fault Refusal :=
  .next (s.serve tag (.ioQuery b) b inAny noSelector fun s _ => .ok (s, .io s.ioReport))

/-! ## STATUS (R180) -/

/-- A crane of STATUS; none while it is not defined in the committed layout. -/
def State.craneStatus (s : State) (c : CraneId) : Option CraneStatus :=
  match s.links.get c, s.hoists.get c, s.rcu.cranes.get c with
  | some l, some h, some r =>
    let sent := (s.ports.get c).lastSent
    some
      { link := l.link.state, referenced := l.referenced, weigh := h.state
        queueLength := (s.tcu.queues.get c).length, sentF := sent.fwd, sentR := sent.rev
        runEnable := r.runEnable, halt := s.tcu.halts.get c, detached := s.tcu.detached.get c
        swapPending := (s.lsu.shadow.get c).isSome }
  | _, _, _ => none

def State.bayStatus (s : State) (b : BayId) : Option BayStatus :=
  (s.bcu.bays.get b).map fun y => ⟨y.state, y.secure, y.manned⟩

/-- The set flags, in the order of R177. -/
def Fnu.setFlags (u : Fnu) : List FlagId := allFlags.filter u.isSet

def State.statusReport (s : State) : StatusReport where
  stage := s.lsu.stage
  flagsSet := s.fnu.setFlags.length
  flagsUnmasked := (s.fnu.setFlags.filter fun f => !s.fnu.masks.contains f.kind).length
  fault := s.fnu.faultSignal
  masks := s.fnu.masks
  hostSilent := s.hlu.silent
  noticeDepth := s.fnu.notices.length
  noticesLost := s.fnu.lost
  cranes := allNum4.map s.craneStatus
  bays := allNum4.map s.bayStatus
  frameErrors := s.hlu.frameErrors
  overruns := s.hlu.overruns
  recordErrors := allNum4.map fun c => (s.ports.get c).errors
  mismatches := s.tcu.mismatches

def execStatus (tag : Byte) (b : Body Unit) (s : State) : Host.Outcome State Fault Refusal :=
  .next (s.serve tag (.status b) b inAny noSelector fun s _ => .ok (s, .status s.statusReport))

/-! ## FAULT-REPORT, FAULT-MASK (R177, R178) -/

/-- An entry of a FAULT-REPORT. -/
def Fnu.entry (u : Fnu) (f : FlagId) : FlagId × Nat × Option Bool :=
  (f, (u.flag f).count.getD 0, if f.isCondition then some (u.flag f).live else none)

/-- The listed flags that a FAULT-REPORT clears. -/
def Fnu.reported (u : Fnu) : List FlagId :=
  u.setFlags.filter fun f => !(f.isCondition && (u.flag f).live)

def ownFaultReport (s : State) (_ : Unit) : Verdict :=
  .ok (s.clearFlags s.fnu.reported, .faults (s.fnu.setFlags.map s.fnu.entry))

def execFaultReport (tag : Byte) (b : Body Unit) (s : State) : Host.Outcome State Fault Refusal :=
  .next (s.serve tag (.faultReport b) b inAny noSelector ownFaultReport)

/-- R178. The ACK lists the mask set in the order of Table 10-1: the model's choice, log 54. -/
def ownFaultMask (s : State) (v : List (Coded FaultKind)) : Verdict := do
  require (within 0 16 v.length) .badValue 0
  let masks ← readMasks 1 [] v
  let u := { s.fnu with masks := masks }
  .ok (s.setFnu u, .masked masks u.faultSignal)

def execFaultMask (tag : Byte) (b : Body (List (Coded FaultKind))) (s : State) :
    Host.Outcome State Fault Refusal :=
  .next (s.serve tag (.faultMask b) b inAny noSelector ownFaultMask)

/-! ## UNKNOWN_REQUEST (R184 check 1) -/

def execUnknownRequest (tag kind : Byte) (s : State) : Host.Outcome State Fault Refusal :=
  match s.takeFrame ⟨tag, .unknown kind⟩ with
  | none => .next s
  | some s => .next (s.replyWith tag kind (.nak ⟨.unknownKind, 0⟩))

end Sys2Proof.Machine
end

