-- ==== Sys2Proof/Machine/Events.lean ====
section
/-! DEFINITION. The events that are not requests: bytes and frames of the host link, records of the crane
ports, expiries of timers, input lines. A frame, a record, a gap and a byte error come with the bytes that
arrived on their line since the line's last event (log 32). An expiry brings the clock to its timer's end,
and does nothing where its timer does not run (log 2). -/

namespace Sys2Proof.Machine

/-! ## Host link -/

/-- What the receiver makes of a frame's bytes (R182, R183, R186): discards are counted, and a good frame
waits in the inbound buffer. A good frame that is not the one the command names is none (log 32). -/
def State.hearFrame (s : State) (f : Frame) (heard : Fed RawFrame) : State :=
  match heard.good with
  | none => s.setHlu (s.hlu.hear heard)
  | some raw =>
    if frameCarries f raw then
      let s := s.validFrame
      s.setHlu ((s.hlu.enqueue f).hear heard)
    else s

/-- What the receiver makes of bytes that complete no frame; where they do, the command stands for no event
on the line and nothing happens (log 32). -/
def State.hearNoFrame (s : State) (heard : Fed RawFrame) : State :=
  if heard.good.isSome then s else s.setHlu (s.hlu.hear heard)

/-- HOST_FRAME_RECEIVED (R182, R183, R186). -/
def execHostFrameReceived (tag : Byte) (r : Request) (bytes : List Byte) (s : State) :
    Host.Outcome State Fault Refusal :=
  .next (s.hearFrame ⟨tag, r⟩ (s.hlu.receiver.feedHost bytes))

/-- HOST_BYTE_GAP (R182). -/
def execHostByteGap (g : ByteGap) (s : State) : Host.Outcome State Fault Refusal :=
  .next (s.hearNoFrame ((s.hlu.receiver.feedHost g.before).gap Config.hostSync g.late))

/-- FRAME_BYTE_ERROR (R182): a length byte above 240, or a byte with a stop-bit error. -/
def execFrameByteError (e : FrameError) (s : State) : Host.Outcome State Fault Refusal :=
  match e.badLength with
  | some n => .next (s.hearNoFrame (s.hlu.receiver.feedHost (e.before ++ [n])))
  | none => .next (s.hearNoFrame (s.hlu.receiver.feedHost e.before).stopBit)

/-- HOST_FRAME_SENT (R185): the frame being sent ends, if any, and the next one starts. -/
def execHostFrameSent (s : State) : Host.Outcome State Fault Refusal :=
  .next (s.setHlu s.hlu.endFrame).startFrame

/-- HOST_SILENCE_EXPIRY (R186, R156). -/
def execHostSilenceExpiry (s : State) : Host.Outcome State Fault Refusal :=
  match s.hlu.silence with
  | none => .next s
  | some t =>
    let s := s.reach t
    let s' := s.setHlu { s.hlu with silence := none, silent := true }
    .next (s'.report .hostSilent s.hlu.silent true).discardBuild

/-! ## Crane ports -/

/-- Some bytes on a crane's port. -/
def State.feedPort (s : State) (c : CraneId) (bytes : List Byte) : Fed StatusRec :=
  (s.ports.get c).receiver.feedCrane c bytes

/-- What a port's receiver makes of bytes that complete no valid record; where they do, the command stands
for no event on the line and nothing happens (log 32). -/
def State.hearNoRecord (s : State) (c : CraneId) (heard : Fed StatusRec) : State :=
  if heard.good.isSome then s else s.modPort c fun p => p.hear heard

/-- STATUS_RECORD (R86, R187). -/
def execStatusRecord (port : CraneId) (bytes : List Byte) (s : State) :
    Host.Outcome State Fault Refusal :=
  let heard := s.feedPort port bytes
  let s := s.modPort port fun p => p.hear heard
  match heard.good with
  | none => .next s
  | some r => .next (s.validRecord port r)

/-- CRANE_RECORD_GAP (R187, R182). -/
def execCraneRecordGap (port : CraneId) (g : ByteGap) (s : State) : Host.Outcome State Fault Refusal :=
  .next (s.hearNoRecord port ((s.feedPort port g.before).gap Config.craneSync g.late))

/-- RECORD_BYTE_ERROR (R187): a byte with a stop-bit error. -/
def execRecordByteError (e : RecordError) (s : State) : Host.Outcome State Fault Refusal :=
  .next (s.hearNoRecord e.port (s.feedPort e.port e.before).stopBit)

/-- COMMAND_RECORD_SENT (R187; on a port that sends nothing, log 53). -/
def execCommandRecordSent (port : CraneId) (s : State) : Host.Outcome State Fault Refusal :=
  .next (s.modPort port fun p => p.finish s.now)

/-! ## Expiries -/

/-- LINK_WATCHDOG_EXPIRY (R92). -/
def execLinkWatchdogExpiry (c : CraneId) (s : State) : Host.Outcome State Fault Refusal :=
  match s.links.get c with
  | none => .next s
  | some l =>
    match l.link with
    | .active t => .next ((s.reach t).loseLink c)
    | .silent => .next s
    | .lost => .next s

/-- SETTLE_DEADLINE_EXPIRY (R66). -/
def execSettleDeadlineExpiry (c : CraneId) (s : State) : Host.Outcome State Fault Refusal :=
  match s.settleDeadline? c with
  | none => .next s
  | some (t, d) => .next ((s.reach d).settleExpire c t)

/-- TRAIL_EXPIRY (R150). -/
def execTrailExpiry (b : BayId) (s : State) : Host.Outcome State Fault Refusal :=
  match (s.bcu.bays.get b).bind (·.trail) with
  | none => .next s
  | some t => .next ((s.reach t).trailExpire b)

/-- STRETCH_EXPIRY (R171). -/
def execStretchExpiry (c : CraneId) (s : State) : Host.Outcome State Fault Refusal :=
  match (s.dio.beacons.get c).stretch with
  | none => .next s
  | some t =>
    .next ((s.reach t).setBeacon c
      ({ s.dio.beacons.get c with stretch := none }.judge (s.fnu.craneSet c)))

/-! ## Input lines (R166) -/

/-- RAW_LINE_CHANGE. A raw level that is the line's already changes nothing (log 36). -/
def execRawLineChange (k : Fin 32) (high : Bool) (s : State) : Host.Outcome State Fault Refusal :=
  let l := s.dio.lines[k.val]
  if l.raw = high then .next s
  else if l.level = high then .next (s.setDio (s.dio.setLine k { l with raw := high, settling := none }))
  else if s.lsu.settings.debounce = 0 then .next (s.lineTakes k ⟨high, high, none⟩)
  else
    .next (s.setDio (s.dio.setLine k
      { l with raw := high, settling := some (s.now + s.lsu.settings.debounce) }))

/-- SETTLING_END. -/
def execSettlingEnd (k : Fin 32) (s : State) : Host.Outcome State Fault Refusal :=
  let l := s.dio.lines[k.val]
  match l.settling with
  | none => .next s
  | some t => .next ((s.reach t).lineTakes k ⟨l.raw, l.raw, none⟩)

end Sys2Proof.Machine
end

