-- ==== Sys2Proof/Machine/Dispatch.lean ====
section
/-! DEFINITION. One arm per command: its meaning. -/

namespace Sys2Proof.Machine

def exec (i : Instr) (s : State) : Host.Outcome State Fault Refusal :=
  match i with
  | .powerOn straps lines => Sys2Proof.Machine.execPowerOn straps lines s
  | .runwayDefineSet tag b => Sys2Proof.Machine.execRunwayDefineSet tag b s
  | .runwayDefineClear tag b => Sys2Proof.Machine.execRunwayDefineClear tag b s
  | .craneDefineSet tag b => Sys2Proof.Machine.execCraneDefineSet tag b s
  | .craneDefineClear tag b => Sys2Proof.Machine.execCraneDefineClear tag b s
  | .slotDefineSet tag b => Sys2Proof.Machine.execSlotDefineSet tag b s
  | .slotDefineClear tag b => Sys2Proof.Machine.execSlotDefineClear tag b s
  | .bayDefineSet tag b => Sys2Proof.Machine.execBayDefineSet tag b s
  | .bayDefineClear tag b => Sys2Proof.Machine.execBayDefineClear tag b s
  | .configSet tag b => Sys2Proof.Machine.execConfigSet tag b s
  | .commitLayout tag b => Sys2Proof.Machine.execCommitLayout tag b s
  | .openYard tag b => Sys2Proof.Machine.execOpenYard tag b s
  | .closeYard tag b => Sys2Proof.Machine.execCloseYard tag b s
  | .restartAll tag b straps => Sys2Proof.Machine.execRestartAll tag b straps s
  | .restartYard tag b => Sys2Proof.Machine.execRestartYard tag b s
  | .coilAdd tag b => Sys2Proof.Machine.execCoilAdd tag b s
  | .coilRemove tag b => Sys2Proof.Machine.execCoilRemove tag b s
  | .coilQueryOne tag b => Sys2Proof.Machine.execCoilQueryOne tag b s
  | .coilQueryList tag b => Sys2Proof.Machine.execCoilQueryList tag b s
  | .slotQueryOne tag b => Sys2Proof.Machine.execSlotQueryOne tag b s
  | .slotQueryList tag b => Sys2Proof.Machine.execSlotQueryList tag b s
  | .slotBlock tag b => Sys2Proof.Machine.execSlotBlock tag b s
  | .slotUnblock tag b => Sys2Proof.Machine.execSlotUnblock tag b s
  | .slotSuggest tag b => Sys2Proof.Machine.execSlotSuggest tag b s
  | .taskSubmit tag b => Sys2Proof.Machine.execTaskSubmit tag b s
  | .taskCancel tag b => Sys2Proof.Machine.execTaskCancel tag b s
  | .retry tag b => Sys2Proof.Machine.execRetry tag b s
  | .acceptWeight tag b => Sys2Proof.Machine.execAcceptWeight tag b s
  | .redirect tag b => Sys2Proof.Machine.execRedirect tag b s
  | .taskReturn tag b => Sys2Proof.Machine.execReturn tag b s
  | .taskQueryOne tag b => Sys2Proof.Machine.execTaskQueryOne tag b s
  | .taskQueryCrane tag b => Sys2Proof.Machine.execTaskQueryCrane tag b s
  | .halt tag b => Sys2Proof.Machine.execHalt tag b s
  | .resume tag b => Sys2Proof.Machine.execResume tag b s
  | .detach tag b => Sys2Proof.Machine.execDetach tag b s
  | .attach tag b => Sys2Proof.Machine.execAttach tag b s
  | .craneQuery tag b => Sys2Proof.Machine.execCraneQuery tag b s
  | .zero tag b => Sys2Proof.Machine.execZero tag b s
  | .weighReset tag b => Sys2Proof.Machine.execWeighReset tag b s
  | .weighQuery tag b => Sys2Proof.Machine.execWeighQuery tag b s
  | .runwayQuery tag b => Sys2Proof.Machine.execRunwayQuery tag b s
  | .truckArrive tag b => Sys2Proof.Machine.execTruckArrive tag b s
  | .truckDepart tag b => Sys2Proof.Machine.execTruckDepart tag b s
  | .bayMode tag b => Sys2Proof.Machine.execBayMode tag b s
  | .bayClear tag b => Sys2Proof.Machine.execBayClear tag b s
  | .bayAck tag b => Sys2Proof.Machine.execBayAck tag b s
  | .planOpen tag b => Sys2Proof.Machine.execPlanOpen tag b s
  | .planEntry tag b => Sys2Proof.Machine.execPlanEntry tag b s
  | .planCancel tag b => Sys2Proof.Machine.execPlanCancel tag b s
  | .loadClose tag b => Sys2Proof.Machine.execLoadClose tag b s
  | .bayQuery tag b => Sys2Proof.Machine.execBayQuery tag b s
  | .inputAssign tag b => Sys2Proof.Machine.execInputAssign tag b s
  | .outputAssign tag b => Sys2Proof.Machine.execOutputAssign tag b s
  | .beaconSet tag b => Sys2Proof.Machine.execBeaconSet tag b s
  | .ioQuery tag b => Sys2Proof.Machine.execIoQuery tag b s
  | .status tag b => Sys2Proof.Machine.execStatus tag b s
  | .faultReport tag b => Sys2Proof.Machine.execFaultReport tag b s
  | .faultMask tag b => Sys2Proof.Machine.execFaultMask tag b s
  | .unknownRequest tag kind => Sys2Proof.Machine.execUnknownRequest tag kind s
  | .hostFrameReceived tag r bytes => Sys2Proof.Machine.execHostFrameReceived tag r bytes s
  | .hostByteGap g => Sys2Proof.Machine.execHostByteGap g s
  | .hostFrameSent => Sys2Proof.Machine.execHostFrameSent s
  | .hostSilenceExpiry => Sys2Proof.Machine.execHostSilenceExpiry s
  | .statusRecord port bytes => Sys2Proof.Machine.execStatusRecord port bytes s
  | .craneRecordGap port g => Sys2Proof.Machine.execCraneRecordGap port g s
  | .commandRecordSent port => Sys2Proof.Machine.execCommandRecordSent port s
  | .linkWatchdogExpiry c => Sys2Proof.Machine.execLinkWatchdogExpiry c s
  | .settleDeadlineExpiry c => Sys2Proof.Machine.execSettleDeadlineExpiry c s
  | .trailExpiry b => Sys2Proof.Machine.execTrailExpiry b s
  | .stretchExpiry c => Sys2Proof.Machine.execStretchExpiry c s
  | .rawLineChange line high => Sys2Proof.Machine.execRawLineChange line high s
  | .settlingEnd line => Sys2Proof.Machine.execSettlingEnd line s
  | .frameByteError e => Sys2Proof.Machine.execFrameByteError e s
  | .recordByteError e => Sys2Proof.Machine.execRecordByteError e s

end Sys2Proof.Machine
end

