-- ==== Sys2Proof/WellFormed.lean ====
section
/-! DEFINITION. Well-formed commands: those that bytes on the lines can spell (log 4). The check refuses a
body length above 240, or one that is not wrong; a row-picking field outside its set where the kind has one
row; a kind byte that is a request kind in UNKNOWN_REQUEST; TASK-SUBMIT fields wider than Table 11-7; a list
longer than a body holds; a frame whose symbolic request is not what its bytes say; and bytes that no
receiver, hunting or just after a sync byte, takes for the event that the command names: a frame or record
that its last byte does not complete, a gap or a byte error where nothing is being received, a length byte
that is no error. -/

namespace Sys2Proof

open Machine

/-- How a request's body stands before its owner sees it. -/
inductive Shape where
  | fields
  | badSelector
  | badLength (length : Nat)
  deriving DecidableEq, Repr

def bodyShape {α : Type} : Body α → Shape
  | .fields _ => .fields
  | .badSelector _ => .badSelector
  | .badLength n => .badLength n

def requestShape : Request → Shape
  | .runwayDefineSet b => bodyShape b
  | .runwayDefineClear b => bodyShape b
  | .craneDefineSet b => bodyShape b
  | .craneDefineClear b => bodyShape b
  | .slotDefineSet b => bodyShape b
  | .slotDefineClear b => bodyShape b
  | .bayDefineSet b => bodyShape b
  | .bayDefineClear b => bodyShape b
  | .configSet b => bodyShape b
  | .commitLayout b => bodyShape b
  | .openYard b => bodyShape b
  | .closeYard b => bodyShape b
  | .restartAll b => bodyShape b
  | .restartYard b => bodyShape b
  | .coilAdd b => bodyShape b
  | .coilRemove b => bodyShape b
  | .coilQueryOne b => bodyShape b
  | .coilQueryList b => bodyShape b
  | .slotQueryOne b => bodyShape b
  | .slotQueryList b => bodyShape b
  | .slotBlock b => bodyShape b
  | .slotUnblock b => bodyShape b
  | .slotSuggest b => bodyShape b
  | .taskSubmit b => bodyShape b
  | .taskCancel b => bodyShape b
  | .retry b => bodyShape b
  | .acceptWeight b => bodyShape b
  | .redirect b => bodyShape b
  | .taskReturn b => bodyShape b
  | .taskQueryOne b => bodyShape b
  | .taskQueryCrane b => bodyShape b
  | .halt b => bodyShape b
  | .resume b => bodyShape b
  | .detach b => bodyShape b
  | .attach b => bodyShape b
  | .craneQuery b => bodyShape b
  | .zero b => bodyShape b
  | .weighReset b => bodyShape b
  | .weighQuery b => bodyShape b
  | .runwayQuery b => bodyShape b
  | .truckArrive b => bodyShape b
  | .truckDepart b => bodyShape b
  | .bayMode b => bodyShape b
  | .bayClear b => bodyShape b
  | .bayAck b => bodyShape b
  | .planOpen b => bodyShape b
  | .planEntry b => bodyShape b
  | .planCancel b => bodyShape b
  | .loadClose b => bodyShape b
  | .bayQuery b => bodyShape b
  | .inputAssign b => bodyShape b
  | .outputAssign b => bodyShape b
  | .beaconSet b => bodyShape b
  | .ioQuery b => bodyShape b
  | .status b => bodyShape b
  | .faultReport b => bodyShape b
  | .faultMask b => bodyShape b
  | .unknown _ => .fields

/-- The one right length of a request's body, where the manual gives it (log 4). -/
def rightLength : Request → Option Nat
  | .taskSubmit _ => some 16
  | .commitLayout _ => some 0
  | .openYard _ => some 0
  | .closeYard _ => some 0
  | .ioQuery _ => some 0
  | .status _ => some 0
  | .faultReport _ => some 0
  | _ => none

/-- A wrong length is not the right one. -/
def lengthFits (r : Request) : Bool :=
  match requestShape r with
  | .badLength n => rightLength r != some n
  | .badSelector => true
  | .fields => true

/-- A body a frame can hold; `two` where the kind stands in two rows. -/
def bodyFits {α : Type} (two : Bool) (b : Body α) (fits : α → Bool) : Bool :=
  match b with
  | .fields v => fits v
  | .badSelector _ => two
  | .badLength n => decide (n ≤ Config.bodyMax)

/-- The fields of TASK-SUBMIT fit their bytes (Table 11-7). -/
def submitFits (v : TaskSubmit) : Bool :=
  decide (v.task < 65536) && decide (v.crane < 256) && decide (v.coil < 4294967296)
    && decide (v.srcKind < 256) && decide (v.srcNum < 65536) && decide (v.srcCradle < 256)
    && decide (v.dstKind < 256) && decide (v.dstNum < 65536) && decide (v.dstCradle < 256)

/-- A request a frame can hold. -/
def requestFits : Request → Bool
  | .runwayDefineSet b => bodyFits true b fun _ => true
  | .runwayDefineClear b => bodyFits true b fun _ => true
  | .craneDefineSet b => bodyFits true b fun _ => true
  | .craneDefineClear b => bodyFits true b fun _ => true
  | .slotDefineSet b => bodyFits true b fun _ => true
  | .slotDefineClear b => bodyFits true b fun _ => true
  | .bayDefineSet b => bodyFits true b fun _ => true
  | .bayDefineClear b => bodyFits true b fun _ => true
  | .configSet b => bodyFits false b fun v => decide (1 + 3 * v.length ≤ Config.bodyMax)
  | .commitLayout b => bodyFits false b fun _ => true
  | .openYard b => bodyFits false b fun _ => true
  | .closeYard b => bodyFits false b fun _ => true
  | .restartAll b => bodyFits true b fun _ => true
  | .restartYard b => bodyFits true b fun _ => true
  | .coilAdd b => bodyFits false b fun _ => true
  | .coilRemove b => bodyFits false b fun _ => true
  | .coilQueryOne b => bodyFits true b fun _ => true
  | .coilQueryList b => bodyFits true b fun _ => true
  | .slotQueryOne b => bodyFits true b fun _ => true
  | .slotQueryList b => bodyFits true b fun _ => true
  | .slotBlock b => bodyFits false b fun _ => true
  | .slotUnblock b => bodyFits false b fun _ => true
  | .slotSuggest b => bodyFits false b fun _ => true
  | .taskSubmit b => bodyFits false b fun v => submitFits v
  | .taskCancel b => bodyFits false b fun _ => true
  | .retry b => bodyFits false b fun _ => true
  | .acceptWeight b => bodyFits false b fun _ => true
  | .redirect b => bodyFits false b fun _ => true
  | .taskReturn b => bodyFits false b fun _ => true
  | .taskQueryOne b => bodyFits true b fun _ => true
  | .taskQueryCrane b => bodyFits true b fun _ => true
  | .halt b => bodyFits false b fun _ => true
  | .resume b => bodyFits false b fun _ => true
  | .detach b => bodyFits false b fun _ => true
  | .attach b => bodyFits false b fun _ => true
  | .craneQuery b => bodyFits false b fun _ => true
  | .zero b => bodyFits false b fun _ => true
  | .weighReset b => bodyFits false b fun _ => true
  | .weighQuery b => bodyFits false b fun _ => true
  | .runwayQuery b => bodyFits false b fun _ => true
  | .truckArrive b => bodyFits false b fun _ => true
  | .truckDepart b => bodyFits false b fun _ => true
  | .bayMode b => bodyFits false b fun _ => true
  | .bayClear b => bodyFits false b fun _ => true
  | .bayAck b => bodyFits false b fun _ => true
  | .planOpen b => bodyFits false b fun v => decide (2 * v.cradles.length < Config.bodyMax)
  | .planEntry b => bodyFits false b fun _ => true
  | .planCancel b => bodyFits false b fun _ => true
  | .loadClose b => bodyFits false b fun _ => true
  | .bayQuery b => bodyFits false b fun _ => true
  | .inputAssign b => bodyFits false b fun _ => true
  | .outputAssign b => bodyFits false b fun _ => true
  | .beaconSet b => bodyFits false b fun _ => true
  | .ioQuery b => bodyFits false b fun _ => true
  | .status b => bodyFits false b fun _ => true
  | .faultReport b => bodyFits false b fun _ => true
  | .faultMask b => bodyFits false b fun v => decide (1 + v.length ≤ Config.bodyMax)
  | .unknown k => (reqKind? k).isNone

/-- The bytes of a body have the length of a body of wrong length. -/
def lengthAgrees (body : List Byte) (r : Request) : Bool :=
  match requestShape r with
  | .badLength n => body.length == n
  | .badSelector => true
  | .fields => true

/-- A body that carries a list: its count in the first byte, then `size` bytes for each entry (R184). -/
def listBody (size : Nat) (body : List Byte) : Option Nat :=
  match body with
  | [] => none
  | k :: rest => if rest.length = size * k.toNat then some k.toNat else none

/-- What the bytes of a body say agrees with a symbolic request, where the manual shows the layout: an empty
body, the fields of TASK-SUBMIT, the count of CONFIG-SET and FAULT-MASK (R184; log 4). -/
def bodyAgrees (body : List Byte) : Request → Bool
  | .taskSubmit (.fields v) => decodeSubmit body == some v
  | .configSet (.fields v) => listBody 3 body == some v.length
  | .configSet (.badLength _) => (listBody 3 body).isNone
  | .faultMask (.fields v) => listBody 1 body == some v.length
  | .faultMask (.badLength _) => (listBody 1 body).isNone
  | .commitLayout (.fields _) => body.isEmpty
  | .openYard (.fields _) => body.isEmpty
  | .closeYard (.fields _) => body.isEmpty
  | .ioQuery (.fields _) => body.isEmpty
  | .status (.fields _) => body.isEmpty
  | .faultReport (.fields _) => body.isEmpty
  | _ => true

/-- The frame of a request row: its tag and what it asks. -/
def frameOf : Instr → Option Frame
  | .runwayDefineSet tag b => some ⟨tag, .runwayDefineSet b⟩
  | .runwayDefineClear tag b => some ⟨tag, .runwayDefineClear b⟩
  | .craneDefineSet tag b => some ⟨tag, .craneDefineSet b⟩
  | .craneDefineClear tag b => some ⟨tag, .craneDefineClear b⟩
  | .slotDefineSet tag b => some ⟨tag, .slotDefineSet b⟩
  | .slotDefineClear tag b => some ⟨tag, .slotDefineClear b⟩
  | .bayDefineSet tag b => some ⟨tag, .bayDefineSet b⟩
  | .bayDefineClear tag b => some ⟨tag, .bayDefineClear b⟩
  | .configSet tag b => some ⟨tag, .configSet b⟩
  | .commitLayout tag b => some ⟨tag, .commitLayout b⟩
  | .openYard tag b => some ⟨tag, .openYard b⟩
  | .closeYard tag b => some ⟨tag, .closeYard b⟩
  | .restartAll tag b _ => some ⟨tag, .restartAll b⟩
  | .restartYard tag b => some ⟨tag, .restartYard b⟩
  | .coilAdd tag b => some ⟨tag, .coilAdd b⟩
  | .coilRemove tag b => some ⟨tag, .coilRemove b⟩
  | .coilQueryOne tag b => some ⟨tag, .coilQueryOne b⟩
  | .coilQueryList tag b => some ⟨tag, .coilQueryList b⟩
  | .slotQueryOne tag b => some ⟨tag, .slotQueryOne b⟩
  | .slotQueryList tag b => some ⟨tag, .slotQueryList b⟩
  | .slotBlock tag b => some ⟨tag, .slotBlock b⟩
  | .slotUnblock tag b => some ⟨tag, .slotUnblock b⟩
  | .slotSuggest tag b => some ⟨tag, .slotSuggest b⟩
  | .taskSubmit tag b => some ⟨tag, .taskSubmit b⟩
  | .taskCancel tag b => some ⟨tag, .taskCancel b⟩
  | .retry tag b => some ⟨tag, .retry b⟩
  | .acceptWeight tag b => some ⟨tag, .acceptWeight b⟩
  | .redirect tag b => some ⟨tag, .redirect b⟩
  | .taskReturn tag b => some ⟨tag, .taskReturn b⟩
  | .taskQueryOne tag b => some ⟨tag, .taskQueryOne b⟩
  | .taskQueryCrane tag b => some ⟨tag, .taskQueryCrane b⟩
  | .halt tag b => some ⟨tag, .halt b⟩
  | .resume tag b => some ⟨tag, .resume b⟩
  | .detach tag b => some ⟨tag, .detach b⟩
  | .attach tag b => some ⟨tag, .attach b⟩
  | .craneQuery tag b => some ⟨tag, .craneQuery b⟩
  | .zero tag b => some ⟨tag, .zero b⟩
  | .weighReset tag b => some ⟨tag, .weighReset b⟩
  | .weighQuery tag b => some ⟨tag, .weighQuery b⟩
  | .runwayQuery tag b => some ⟨tag, .runwayQuery b⟩
  | .truckArrive tag b => some ⟨tag, .truckArrive b⟩
  | .truckDepart tag b => some ⟨tag, .truckDepart b⟩
  | .bayMode tag b => some ⟨tag, .bayMode b⟩
  | .bayClear tag b => some ⟨tag, .bayClear b⟩
  | .bayAck tag b => some ⟨tag, .bayAck b⟩
  | .planOpen tag b => some ⟨tag, .planOpen b⟩
  | .planEntry tag b => some ⟨tag, .planEntry b⟩
  | .planCancel tag b => some ⟨tag, .planCancel b⟩
  | .loadClose tag b => some ⟨tag, .loadClose b⟩
  | .bayQuery tag b => some ⟨tag, .bayQuery b⟩
  | .inputAssign tag b => some ⟨tag, .inputAssign b⟩
  | .outputAssign tag b => some ⟨tag, .outputAssign b⟩
  | .beaconSet tag b => some ⟨tag, .beaconSet b⟩
  | .ioQuery tag b => some ⟨tag, .ioQuery b⟩
  | .status tag b => some ⟨tag, .status b⟩
  | .faultReport tag b => some ⟨tag, .faultReport b⟩
  | .faultMask tag b => some ⟨tag, .faultMask b⟩
  | .unknownRequest tag k => some ⟨tag, .unknown k⟩
  | .powerOn _ _ => none
  | .hostFrameReceived _ _ _ => none
  | .hostByteGap _ => none
  | .hostFrameSent => none
  | .hostSilenceExpiry => none
  | .statusRecord _ _ => none
  | .craneRecordGap _ _ => none
  | .commandRecordSent _ => none
  | .linkWatchdogExpiry _ => none
  | .settleDeadlineExpiry _ => none
  | .trailExpiry _ => none
  | .stretchExpiry _ => none
  | .rawLineChange _ _ => none
  | .settlingEnd _ => none
  | .frameByteError _ => none
  | .recordByteError _ => none

/-- The ways a receiver stands after an event on its line (log 32). -/
def restStates : List Receiver := [.hunting, .inside []]

/-- Nothing good is completed, and something is being received after the bytes. -/
def midway {α : Type} (f : Fed α) : Bool := f.good.isNone && f.receiver != .hunting

/-- The last byte completes a frame or record, good or bad: `before` is what the bytes without it give. -/
def completes {α : Type} (before after : Fed α) : Bool :=
  midway before && (after.good.isSome || after.receiver == .hunting)

/-- A good frame is the one named: its header, and its body where the manual shows the layout. -/
def frameAgrees (f : Frame) (raw : RawFrame) : Bool :=
  frameCarries f raw && lengthAgrees raw.body f.request && bodyAgrees raw.body f.request

/-- The check of the commands that are no request. -/
def eventFits : Instr → Bool
  | .hostFrameReceived tag q bytes =>
    requestFits q && lengthFits q && restStates.any fun r =>
      completes (r.feedHost bytes.dropLast) (r.feedHost bytes) &&
        (r.feedHost bytes).good.all (frameAgrees ⟨tag, q⟩)
  | .hostByteGap g => restStates.any fun r => midway (r.feedHost g.before)
  | .frameByteError ⟨before, none⟩ => restStates.any fun r => midway (r.feedHost before)
  | .frameByteError ⟨before, some n⟩ =>
    decide (Config.bodyMax < n.toNat) && restStates.any fun r =>
      completes (r.feedHost before) (r.feedHost (before ++ [n]))
  | .statusRecord c bytes => restStates.any fun r =>
      completes (r.feedCrane c bytes.dropLast) (r.feedCrane c bytes)
  | .craneRecordGap c g => restStates.any fun r => midway (r.feedCrane c g.before)
  | .recordByteError e => restStates.any fun r => midway (r.feedCrane e.port e.before)
  | _ => true

/-- The check. -/
def wellFormed (i : Instr) : Bool :=
  match frameOf i with
  | some f => requestFits f.request && lengthFits f.request
  | none => eventFits i

end Sys2Proof
end

