-- ==== Sys2Proof/Safety.lean ====
section
/-! DEFINITION. What the statements about the part are written with: a request that is let through to its
owner, the answers, Table 1-7, the ranges of the field tables, and the properties of states that every step
keeps. -/

namespace Sys2Proof.Machine

/-! ## Requests and answers -/

/-- The frame `f` is taken in `s`, which gives `s0`; no plan is being built, and the stage is one of
`stages`: checks 1 to 4 of R184 pass. -/
def State.Admits (s : State) (f : Frame) (stages : Stage → Bool) (s0 : State) : Prop :=
  s.takeFrame f = some s0 ∧ s0.bcu.build = none ∧ stages s0.lsu.stage = true

/-- The reply ACK of a request kind waits (R184). -/
def State.acked (s : State) (tag : Byte) (k : ReqKind) (a : Ack) : State :=
  { s with hlu := { s.hlu with reply := some ⟨tag, k.code, .ack a⟩ } }

/-- The reply NAK of a kind byte waits (R184). -/
def State.nacked (s : State) (tag kind : Byte) (code : RefusalCode) (detail : Nat) : State :=
  { s with hlu := { s.hlu with reply := some ⟨tag, kind, .nak ⟨code, detail⟩⟩ } }

/-- Table 1-7: the stages in which a request is accepted. -/
def acceptedIn (r : Request) (g : Stage) : Bool :=
  match r with
  | .runwayDefineSet _ => inConfig g
  | .runwayDefineClear _ => inConfig g
  | .craneDefineSet _ => true
  | .craneDefineClear _ => inConfig g
  | .slotDefineSet _ => inConfig g
  | .slotDefineClear _ => inConfig g
  | .bayDefineSet _ => inConfig g
  | .bayDefineClear _ => inConfig g
  | .configSet _ => true
  | .commitLayout _ => inConfig g
  | .openYard _ => inInventory g
  | .closeYard _ => inRun g
  | .restartAll _ => true
  | .restartYard _ => committed g
  | .coilAdd _ => committed g
  | .coilRemove _ => committed g
  | .coilQueryOne _ => true
  | .coilQueryList _ => true
  | .slotQueryOne _ => true
  | .slotQueryList _ => true
  | .slotBlock _ => committed g
  | .slotUnblock _ => committed g
  | .slotSuggest _ => committed g
  | .taskSubmit _ => inRun g
  | .taskCancel _ => inRun g
  | .retry _ => inRun g
  | .acceptWeight _ => inRun g
  | .redirect _ => inRun g
  | .taskReturn _ => inRun g
  | .taskQueryOne _ => true
  | .taskQueryCrane _ => true
  | .halt _ => committed g
  | .resume _ => committed g
  | .detach _ => committed g
  | .attach _ => committed g
  | .craneQuery _ => true
  | .zero _ => committed g
  | .weighReset _ => committed g
  | .weighQuery _ => true
  | .runwayQuery _ => true
  | .truckArrive _ => inRun g
  | .truckDepart _ => inRun g
  | .bayMode _ => inRun g
  | .bayClear _ => inRun g
  | .bayAck _ => inRun g
  | .planOpen _ => inRun g
  | .planEntry _ => inRun g
  | .planCancel _ => inRun g
  | .loadClose _ => inRun g
  | .bayQuery _ => true
  | .inputAssign _ => inConfig g
  | .outputAssign _ => inConfig g
  | .beaconSet _ => true
  | .ioQuery _ => true
  | .status _ => true
  | .faultReport _ => true
  | .faultMask _ => true
  | .unknown _ => false

/-- A request kind other than PLAN-ENTRY (R156). -/
def breaksBuild : Request → Bool
  | .planEntry _ => false
  | .unknown _ => false
  | _ => true

/-! ## Field tables -/

/-- Table 1-2, with the bounds that a stage sets on x_ref left out. -/
def craneFits (v : CraneSet) : Prop :=
  1 ≤ v.order ∧ v.order ≤ 3 ∧ v.front ≤ 20000 ∧ v.rear ≤ 20000 ∧
  100 ≤ v.vFull ∧ v.vFull ≤ 4000 ∧ 10 ≤ v.vSlow ∧ v.vSlow ≤ v.vFull ∧
  10 ≤ v.vCreep ∧ v.vCreep ≤ v.vSlow ∧ 50 ≤ v.decel ∧ v.decel ≤ 2000 ∧ v.react ≤ 2000 ∧
  1000 ≤ v.capacity ∧ v.capacity ≤ 60000 ∧ 1 ≤ v.gain ∧ v.gain ≤ 1000000

/-- Table 1-3. -/
def slotFits (v : SlotSet) : Prop :=
  v.slot ≤ 1023 ∧ v.row ≤ 255 ∧ v.x ≤ 250000 ∧ v.y ≤ 40000 ∧ 900 ≤ v.dMax ∧ v.dMax ≤ 2400 ∧
  v.group ≤ 255 ∧
  (v.tier = 1 ∧ 1000 ≤ v.mMax ∧ v.mMax ≤ 45000 ∨ v.tier = 2 ∧ v.left ≤ 1023 ∧ v.right ≤ 1023)

/-- The fields of BAY-DEFINE (R6). -/
def bayFits (v : BaySet) : Prop :=
  v.xLo ≤ 250000 ∧ v.xHi ≤ 250000 ∧ v.kingpinX ≤ 250000 ∧ (v.direction = 1 ∨ v.direction = -1) ∧
  v.trailerY ≤ 40000

/-- A parameter set within Table 1-2, as far as R123 uses it. -/
def ParamSet.ordered (p : ParamSet) : Prop :=
  p.vCreep ≤ p.vSlow ∧ p.vSlow ≤ p.vFull ∧ p.vFull ≤ 4000 ∧ 50 ≤ p.decel ∧ p.react ≤ 2000

/-- A source or destination within its range (Table 4-4 check 1). -/
def Place.fits : Place → Prop
  | .slot i => i ≤ 1023
  | .cradle _ k => 1 ≤ k ∧ k ≤ 6

def Dest.fits : Dest → Prop
  | .auto => True
  | .place p => p.fits

/-- The codes of a source: kind, slot index or bay, cradle (Table 11-7). -/
def Place.codes : Place → Nat × Nat × Nat
  | .slot i => (1, i, 0)
  | .cradle b k => (2, numVal b, k)

/-- The codes of a destination (Table 11-7). -/
def Dest.codes : Dest → Nat × Nat × Nat
  | .place (.slot i) => (1, i, 0)
  | .auto => (2, 0, 0)
  | .place (.cradle b k) => (3, numVal b, k)

/-- The fields of a TASK-SUBMIT. -/
def submitOf (task : Nat) (c : CraneId) (coil : Nat) (flags : Byte) (src : Place) (dst : Dest) :
    TaskSubmit :=
  ⟨task, numVal c, coil, flags, src.codes.1, src.codes.2.1, src.codes.2.2, dst.codes.1, dst.codes.2.1,
    dst.codes.2.2⟩

/-- The fields of a REDIRECT. -/
def redirectOf (task : Nat) (dst : Dest) : Redirect :=
  ⟨task, dst.codes.1, dst.codes.2.1, dst.codes.2.2⟩

/-! ## Properties that every step keeps -/

/-- No two live tasks of the part have the same id (R54, R55). -/
def State.TasksUnique (s : State) : Prop :=
  ((allNum4.flatMap fun c => s.tcu.queues.get c).map (·.id)).Nodup

/-- The two tables are in their canonical form, every slot index is below 1,024 (R20, R21), and task ids
are unique (R55). -/
def State.Keyed (s : State) : Prop :=
  Table.wf s.smu.slots ∧ Table.wf s.smu.coils ∧ (∀ e ∈ s.smu.slots, e.1 < Config.slotCount) ∧
  s.TasksUnique

/-- The capacities of Table 0-6 that a queue or table can reach, and the limits of the counters of STATUS: notices,
frames waiting, coil records, tasks per queue, weighing samples, plan entries per bay installed and being
built, with room for the next entry. -/
def State.Bounded (s : State) : Prop :=
  s.fnu.notices.length ≤ Config.noticeMax ∧ s.hlu.inbound.length ≤ Config.inboundMax ∧
  s.smu.coils.length ≤ Config.coilMax ∧
  (∀ c, (s.tcu.queues.get c).length ≤ Config.queueMax) ∧
  (∀ c h, s.hoists.get c = some h → h.window.length ≤ Config.windowMax) ∧
  (∀ b y p, s.bcu.bays.get b = some y → y.plan = some p → p.entries.length ≤ Config.planMax) ∧
  (∀ u, s.bcu.build = some u →
    u.entries.length < u.head.cradles.length ∧ u.head.cradles.length ≤ Config.planMax) ∧
  s.fnu.lost ≤ Config.counterMax ∧ s.hlu.frameErrors ≤ Config.counterMax ∧
  s.hlu.overruns ≤ Config.counterMax ∧ s.tcu.mismatches ≤ Config.counterMax ∧
  (∀ c, (s.ports.get c).errors ≤ Config.counterMax)

/-- Before COMMIT-LAYOUT no unit holds a crane, runway or bay record, no task and no coil exists, no set
waits and no plan is being built; a plan is built in RUN only (R85, R87, R103, R121, R122, R142, R152). -/
def State.Staged (s : State) : Prop :=
  (s.lsu.stage = .config →
    s.links = .all none ∧ s.hoists = .all none ∧ s.rcu = ⟨.all none, .both none, .all none⟩ ∧
    s.bcu.bays = .all none ∧ s.tcu.queues = .all [] ∧ s.lsu.shadow = .all none ∧ s.smu.coils = []) ∧
  (s.lsu.stage ≠ .run → s.bcu.build = none ∧ s.tcu.queues = .all [])

end Sys2Proof.Machine
end

