-- ==== Sys2Proof/Certificates/Slice0/Obligations.lean ====
section
/-! DEFINITION. The statements about the part, in the order of the chapters: the step and the host link, the
layout, the store, the tasks, the cranes, the collision unit, the bays, the lines, the flags and notices,
and the properties that every step keeps. A request's statement gives the state after it, whole, wherever
the request is let through (`State.Admits`), so it is also the frame of that request. -/

section Statements

open Sys2Proof

open Sys2Proof.Machine

/-! ## The step -/

/-- A step takes the front command and runs it with the queue's rest (log 35). -/
def Obligations.StepRunsFrontCommand : Prop :=
  ∀ (c : Instr) (rest : List Instr) (s : State),
    step (s.setPending (c :: rest)) = exec c (s.setPending rest)

/-- Nothing stops the part: every command answers a next state. With no command waiting, the model's clock
goes on by 1 ms and nothing else changes: the model's choice, log 1. -/
def Obligations.EveryStepAnswersNext : Prop :=
  (∀ s : State, s.pending = [] → step s = .next { s with now := s.now + 1 }) ∧
  (∀ (c : Instr) (s : State), ∃ t, exec c s = .next t)

/-- Power-on (R17): the state it leaves, unit by unit, whatever went before, and the FAULT-REPORT that
follows. The clock, the queue of commands and the window on the last frame sent (log 9) are the
model's own. -/
def Obligations.PowerOnValues : Prop :=
  ∀ (straps : Straps) (lines : BitVec 32) (s : State), ∃ t : State, exec (.powerOn straps lines) s = .next t ∧
    t.lsu =
      { stage := .config, runways := ⟨none, none⟩, active := ⟨none, none, none, none⟩
        shadow := ⟨none, none, none, none⟩, bays := ⟨none, none, none, none⟩
        settings :=
          { faultLatch := .latched, hostSilence := .off, linkTimeout := 100, gap := 1500
            passHeight := 8000, posTolerance := 50, jumpLimit := 500, refTolerance := 100
            weightTolerance := 30, stabilityBand := 40, settleTime := 5000, rezeroCount := 64
            trailTime := 10, beaconStretch := 2, debounce := 10, tier2Penalty := 20
            overspeedRecords := 3 } } ∧
    t.smu = ⟨[], []⟩ ∧
    t.tcu = ⟨⟨[], [], [], []⟩, ⟨none, none, none, none⟩, ⟨false, false, false, false⟩, 0⟩ ∧
    t.links = ⟨none, none, none, none⟩ ∧ t.hoists = ⟨none, none, none, none⟩ ∧
    t.rcu = ⟨⟨none, none, none, none⟩, ⟨none, none⟩, ⟨none, none, none, none⟩⟩ ∧
    t.bcu = ⟨⟨none, none, none, none⟩, none⟩ ∧
    (∀ c, (t.ports.get c).receiver = .hunting ∧ (t.ports.get c).errors = 0 ∧
      (t.ports.get c).sending = none ∧ (t.ports.get c).waiting = none) ∧
    (∀ k : Fin 32, t.dio.lines[k.val] = ⟨lines.getLsbD k.val, lines.getLsbD k.val, none⟩) ∧
    (∀ f, t.dio.inputs.get f = ⟨0, false, if isEventFn f then .rising else .level⟩) ∧
    (∀ k : Fin 14, t.dio.outputs[k.val] = ⟨allSignals[k.val], .signal⟩) ∧
    t.dio.outputs[14] = ⟨.runEnable .n1, .released⟩ ∧ t.dio.outputs[15] = ⟨.runEnable .n1, .released⟩ ∧
    (∀ c, t.dio.beacons.get c = ⟨.auto, false, false, none⟩) ∧
    (∀ f, t.fnu.flag f = if f = .powerUp then ⟨some 1, false⟩ else ⟨none, false⟩) ∧
    t.fnu.notices = [.faultRaised .powerUp none] ∧ t.fnu.masks = [] ∧ t.fnu.lost = 0 ∧
    t.hlu =
      { receiver := .hunting, inbound := [], handling := none, reply := none, sending := none
        lastSent := none, frameErrors := 0, overruns := 0, silence := none, silent := false
        baud :=
          if straps.strap1 then (if straps.strap0 then 921600 else 460800)
          else if straps.strap0 then 230400 else 115200 } ∧
    (∀ c, t.signal (.runEnable c) = false ∧ t.signal (.beacon c) = false) ∧
    (∀ b, t.signal (.gateLock b) = false) ∧ t.signal .yardRun = false ∧ t.signal .fault = true ∧
    (∀ u : Fnu, u.isSet .powerUp = true → FaultKind.powerUp ∉ u.masks → u.faultSignal = true) ∧
    (∀ tag : Byte, ∃ u, exec (.faultReport tag (.fields ())) t = .next u ∧
      u.hlu.reply = some ⟨tag, 0x3D, .ack (.faults [(.powerUp, 1, none)])⟩ ∧
      ∀ f, u.fnu.isSet f = false)

/-! ## The host link -/

/-- HOST_FRAME_RECEIVED (R182, R183, R186), over the bytes on the line since its last event. Hunting skips
every byte but the sync byte; a frame of Table 11-10 is good when its CRC is the one computed, else it is
discarded and counted. A good frame ends HOST_SILENT, restarts the silence timer, and waits where fewer than
three wait, else is discarded and counted as an overrun. Nothing else changes. That the command carries
these bytes, and does nothing where they hold a good frame of another kind or tag than its own, is the
model's form, log 32. -/
def Obligations.HostFrameReception : Prop :=
  (∀ skipped rest : List Byte, (∀ b ∈ skipped, b ≠ 0xA5) →
    Receiver.hunting.feedHost (skipped ++ rest) = Receiver.hunting.feedHost rest) ∧
  (∀ (kind tag : Byte) (body : List Byte) (hi lo : Byte), body.length ≤ 240 →
    Receiver.hunting.feedHost (0xA5 :: kind :: tag :: byteOf body.length :: (body ++ [hi, lo])) =
      if nat2 hi lo = (crc16 (kind :: tag :: byteOf body.length :: body)).toNat then
        ⟨.hunting, 0, some ⟨kind, tag, body⟩⟩
      else ⟨.hunting, 1, none⟩) ∧
  (∀ (tag : Byte) (r : Request) (bytes : List Byte) (s : State),
    let heard := s.hlu.receiver.feedHost bytes
    let errors := min (s.hlu.frameErrors + heard.bad) 65535
    (heard.good = none →
      exec (.hostFrameReceived tag r bytes) s = .next
        { s with hlu := { s.hlu with frameErrors := errors, receiver := heard.receiver } }) ∧
    (∀ body, heard.good = some ⟨requestCode r, tag, body⟩ →
      exec (.hostFrameReceived tag r bytes) s = .next
        { s with
          fnu := if s.hlu.silent then s.fnu.endCond s.lsu.settings.faultLatch .hostSilent else s.fnu
          hlu :=
            { s.hlu with
              frameErrors := errors
              receiver := heard.receiver
              silent := false
              silence :=
                match s.lsu.settings.hostSilence with
                | .off => none
                | .s1 => some (s.now + 1000)
                | .s5 => some (s.now + 5000)
                | .s20 => some (s.now + 20000)
              inbound :=
                if s.hlu.inbound.length < 3 then s.hlu.inbound ++ [⟨tag, r⟩] else s.hlu.inbound
              overruns :=
                if s.hlu.inbound.length < 3 then s.hlu.overruns
                else min (s.hlu.overruns + 1) 65535 } }) ∧
    (∀ raw, heard.good = some raw → raw.kind ≠ requestCode r ∨ raw.tag ≠ tag →
      exec (.hostFrameReceived tag r bytes) s = .next s))

/-- Breaks on a line (R182, R187): at a gap, a stop-bit error or a length above 240 the frame or record being
received is discarded and counted, and nothing is counted while the receiver hunts; the late byte of a gap
is judged at once as a possible sync byte. Nothing else changes. That each command carries the bytes before
the break, and does nothing where they hold a good frame or record, is the model's form, log 32. -/
def Obligations.BrokenFramesAreCounted : Prop :=
  (∀ (s : State) (before : List Byte),
    let heard := s.hlu.receiver.feedHost before
    let errors (more : Nat) : Nat := min (s.hlu.frameErrors + (heard.bad + more)) 65535
    let after (n : Nat) (r : Receiver) : State :=
      { s with hlu := { s.hlu with frameErrors := n, receiver := r } }
    (heard.good = none →
      (∀ late : Byte, exec (.hostByteGap ⟨before, late⟩) s = .next
        (after (errors (if heard.receiver = .hunting then 0 else 1))
          (if late = 0xA5 then .inside [] else .hunting))) ∧
      (exec (.frameByteError ⟨before, none⟩) s = .next
        (after (errors (if heard.receiver = .hunting then 0 else 1)) .hunting)) ∧
      (∀ kind tag n : Byte, heard.receiver = .inside [kind, tag] → 240 < n.toNat →
        exec (.frameByteError ⟨before, some n⟩) s = .next (after (errors 1) .hunting))) ∧
    (∀ raw, heard.good = some raw →
      (∀ late : Byte, exec (.hostByteGap ⟨before, late⟩) s = .next s) ∧
      ∀ n : Option Byte, exec (.frameByteError ⟨before, n⟩) s = .next s)) ∧
  (∀ (s : State) (c : CraneId) (before : List Byte),
    let port := s.ports.get c
    let heard := port.receiver.feedCrane c before
    let errors : Nat :=
      min (port.errors + (heard.bad + if heard.receiver = .hunting then 0 else 1)) 65535
    let after (r : Receiver) : State :=
      { s with ports := s.ports.set c { port with errors := errors, receiver := r } }
    (heard.good = none →
      (∀ late : Byte, exec (.craneRecordGap c ⟨before, late⟩) s = .next
        (after (if late = 0x5A then .inside [] else .hunting))) ∧
      exec (.recordByteError ⟨c, before⟩) s = .next (after .hunting)) ∧
    (∀ r, heard.good = some r →
      (∀ late : Byte, exec (.craneRecordGap c ⟨before, late⟩) s = .next s) ∧
      exec (.recordByteError ⟨c, before⟩) s = .next s))

/-- Taking (R183, R184): no frame while a request is handled; else the oldest waiting frame, which leaves the
buffer. A request command on an empty buffer acts as its own frame received and then taken, and one whose
frame is not the one to be taken does nothing: the model's choices, log 3. -/
def Obligations.TakingTheOldestFrame : Prop :=
  (∀ (s : State) (f g : Frame), s.hlu.handling = some g → s.takeFrame f = none) ∧
  (∀ (s : State) (f : Frame) (rest : List Frame), s.hlu.handling = none → s.hlu.inbound = f :: rest →
    s.takeFrame f = some { s with hlu := { s.hlu with inbound := rest, handling := some f } }) ∧
  (∀ (s : State) (f g : Frame) (rest : List Frame), s.hlu.handling = none → s.hlu.inbound = g :: rest →
    g ≠ f → s.takeFrame f = none) ∧
  (∀ (s u : State) (tag : Byte) (r : Request) (bytes body : List Byte), s.hlu.handling = none →
    s.hlu.inbound = [] → s.hlu.frameErrors ≤ 65535 →
    s.hlu.receiver.feedHost bytes = ⟨.hunting, 0, some ⟨requestCode r, tag, body⟩⟩ →
    exec (.hostFrameReceived tag r bytes) s = .next u → s.takeFrame ⟨tag, r⟩ = u.takeFrame ⟨tag, r⟩) ∧
  (∀ (c : Instr) (f : Frame) (s : State), frameOf c = some f → s.takeFrame f = none → exec c s = .next s)

/-- The checks of R184 that do nothing but refuse: a taken frame whose kind is no request kind is answered with
UNKNOWN_KIND, a plan being built included (R156); a wrong body length with BAD_LENGTH and the length received;
a request that Table 1-7 does not accept in the stage with WRONG_STAGE (R10). An operation, scope or mode
outside its set is BAD_VALUE (R10, R36, R37, R84); that the three other definition kinds answer it after the
stage check is the model's choice, and the detail 1 of all five its numbering (logs 6, 7). Fields outside their
range are BAD_VALUE: of the definition requests in CONFIG (R1, R2, R5, R6), of TASK-SUBMIT (Table 4-4 check 1),
a slot index above 1023 (R37), a crane number outside 1 to 4 (R84), and a flag byte with a bit that its layout
does not assign (R188). Which field a detail names is the model's numbering, logs 7 and 38; that an unused
field of TASK-SUBMIT has to be 0 its inference, log 27. -/
def Obligations.RequestsAreJudgedInOrder : Prop :=
  (∀ (tag kind : Byte) (s s0 : State), s.takeFrame ⟨tag, .unknown kind⟩ = some s0 →
     exec (.unknownRequest tag kind) s = .next (s0.nacked tag kind .unknownKind 0)) ∧
  (∀ (c : Instr) (f : Frame) (s s0 : State) (n : Nat), frameOf c = some f → s.takeFrame f = some s0 →
     requestShape f.request = .badLength n →
     exec c s = .next (s0.nacked f.tag (requestCode f.request) .badLength n)) ∧
  (∀ (c : Instr) (f : Frame) (s s0 : State), frameOf c = some f → s.takeFrame f = some s0 →
     requestShape f.request = .fields → s0.bcu.build = none → (∀ k, f.request ≠ .unknown k) →
     acceptedIn f.request s0.lsu.stage = false →
     exec c s = .next (s0.nacked f.tag (requestCode f.request) .wrongStage 0)) ∧
  (∀ (c : Instr) (f : Frame) (s s0 : State), frameOf c = some f → s.takeFrame f = some s0 →
     requestShape f.request = .badSelector → s0.bcu.build = none →
     let kind := requestCode f.request
     let refuse (code : RefusalCode) (detail : Nat) : Prop :=
       exec c s = .next (s0.nacked f.tag kind code detail)
     (kind = ReqKind.craneDefine.code ∨ kind = ReqKind.restart.code → refuse .badValue 1) ∧
     (kind = ReqKind.runwayDefine.code ∨ kind = ReqKind.slotDefine.code ∨
         kind = ReqKind.bayDefine.code →
       (s0.lsu.stage = .config → refuse .badValue 1) ∧
       (s0.lsu.stage ≠ .config → refuse .wrongStage 0)) ∧
     (kind = ReqKind.coilQuery.code ∨ kind = ReqKind.slotQuery.code ∨ kind = ReqKind.taskQuery.code →
       refuse .badValue 0)) ∧
  (∀ (tag : Byte) (v : RunwaySet) (s s0 : State), s.Admits ⟨tag, .runwayDefineSet (.fields v)⟩ inConfig s0 →
     ((∀ r, v.runway ≠ .known r) ∨ v.length < 1000 ∨ 250000 < v.length) →
     ∃ n, 2 ≤ n ∧ exec (.runwayDefineSet tag (.fields v)) s = .next
       (s0.nacked tag ReqKind.runwayDefine.code .badValue n)) ∧
  (∀ (tag : Byte) (v : CraneSet) (s s0 : State), s.Admits ⟨tag, .craneDefineSet (.fields v)⟩ inConfig s0 →
     ((∀ c, v.crane ≠ numVal c) ∨ (∀ r, v.runway ≠ .known r) ∨ ¬ craneFits v ∨ 250000 < v.xRef) →
     ∃ n, 2 ≤ n ∧ exec (.craneDefineSet tag (.fields v)) s = .next
       (s0.nacked tag ReqKind.craneDefine.code .badValue n)) ∧
  (∀ (tag : Byte) (v : SlotSet) (s s0 : State), s.Admits ⟨tag, .slotDefineSet (.fields v)⟩ inConfig s0 →
     ((∀ r, v.runway ≠ .known r) ∨ ¬ slotFits v) →
     ∃ n, 2 ≤ n ∧ exec (.slotDefineSet tag (.fields v)) s = .next
       (s0.nacked tag ReqKind.slotDefine.code .badValue n)) ∧
  (∀ (tag : Byte) (v : BaySet) (s s0 : State), s.Admits ⟨tag, .bayDefineSet (.fields v)⟩ inConfig s0 →
     ((∀ b, v.bay ≠ numVal b) ∨ (∀ r, v.runway ≠ .known r) ∨ ¬ bayFits v) →
     ∃ n, 2 ≤ n ∧ exec (.bayDefineSet tag (.fields v)) s = .next
       (s0.nacked tag ReqKind.bayDefine.code .badValue n)) ∧
  (∀ (tag : Byte) (v : TaskSubmit) (s s0 : State), s.Admits ⟨tag, .taskSubmit (.fields v)⟩ inRun s0 →
     ((∀ task c coil flags src dst, 1 ≤ task → task ≤ 65535 → 1 ≤ coil → coil ≤ 4294967295 →
         flags.toNat < 4 → src.fits → dst.fits → v ≠ submitOf task c coil flags src dst) →
       ∃ n, 1 ≤ n ∧ n ≤ 10 ∧ exec (.taskSubmit tag (.fields v)) s = .next
         (s0.nacked tag ReqKind.taskSubmit.code .badValue n)) ∧
     (1 ≤ v.task → v.task ≤ 65535 → (∃ c, v.crane = numVal c) → 1 ≤ v.coil → v.coil ≤ 4294967295 →
       4 ≤ v.flags.toNat → exec (.taskSubmit tag (.fields v)) s = .next
         (s0.nacked tag ReqKind.taskSubmit.code .badValue 4))) ∧
  (∀ (tag : Byte) (i : Nat) (s s0 : State), 1023 < i →
     (s.Admits ⟨tag, .slotQueryOne (.fields i)⟩ inAny s0 → exec (.slotQueryOne tag (.fields i)) s = .next
       (s0.nacked tag ReqKind.slotQuery.code .badValue 0)) ∧
     (s.Admits ⟨tag, .slotQueryList (.fields i)⟩ inAny s0 → exec (.slotQueryList tag (.fields i)) s = .next
       (s0.nacked tag ReqKind.slotQuery.code .badValue 0))) ∧
  (∀ (tag : Byte) (n : Nat) (s s0 : State), (∀ c, n ≠ numVal c) →
     s.Admits ⟨tag, .taskQueryCrane (.fields n)⟩ inAny s0 →
     exec (.taskQueryCrane tag (.fields n)) s = .next (s0.nacked tag ReqKind.taskQuery.code .badValue 0))

/-- R156: any request but PLAN-ENTRY, taken while a plan is being built, is refused with PLAN_IN_PROGRESS
and the bay, whatever its kind and the stage; the build is discarded with the records it created, and
nothing else changes. -/
def Obligations.OtherRequestBreaksOffBuild : Prop :=
  ∀ (c : Instr) (f : Frame) (s s0 : State) (u : Build), frameOf c = some f → s.takeFrame f = some s0 →
    breaksBuild f.request = true → (∀ n, requestShape f.request ≠ .badLength n) →
    s0.bcu.build = some u →
    ∃ t, exec c s = .next t ∧
      t = ({ s0 with smu := t.smu, bcu := { s0.bcu with build := none } } : State).nacked f.tag
        (requestCode f.request) .planInProgress (numVal u.bay) ∧
      t.smu.slots = s0.smu.slots ∧
      t.smu.coils = s0.smu.coils.filter fun e =>
        !(decide (u.head.kind = .unload ∧ e.1 ∈ u.entries.map (·.2)) &&
          match e.2.location with
          | .cradle b _ => b == u.bay
          | .slot _ => false
          | .hook _ => false)

/-- HOST_FRAME_SENT (R185): the frame being sent ends, and with a reply the handling of its request; then
the waiting reply starts, else the head notice, which leaves its queue. That a frame starts at this command
only (log 8) and the window on the last frame sent (log 9) are the model's choices. -/
def Obligations.TransmitterOrder : Prop :=
  ∀ s : State,
    let ended : Hlu :=
      match s.hlu.sending with
      | none => s.hlu
      | some (.reply r) =>
        { s.hlu with sending := none, lastSent := some (.reply r), handling := none }
      | some (.notice n) => { s.hlu with sending := none, lastSent := some (.notice n) }
    (∀ r, s.hlu.reply = some r → exec .hostFrameSent s = .next
      { s with hlu := { ended with reply := none, sending := some (.reply r) } }) ∧
    (∀ n rest, s.hlu.reply = none → s.fnu.notices = n :: rest → exec .hostFrameSent s = .next
      { s with hlu := { ended with sending := some (.notice n) }, fnu := { s.fnu with notices := rest } }) ∧
    (s.hlu.reply = none → s.fnu.notices = [] → exec .hostFrameSent s = .next { s with hlu := ended })

/-- HOST_SILENCE_EXPIRY (R186, R156): the timer stops, HOST_SILENT begins and is reported at its onset, and
a plan being built is discarded. A stopped timer does not expire. What an expiry does to the clock, and that
one without its timer changes nothing, are the model's choices, log 2. -/
def Obligations.HostSilenceBegins : Prop :=
  (∀ s : State, s.hlu.silence = none → exec .hostSilenceExpiry s = .next s) ∧
  (∀ (s : State) (t : Nat), s.hlu.silence = some t → exec .hostSilenceExpiry s = .next
    { s with
      now := max s.now t
      hlu := { s.hlu with silence := none, silent := true }
      fnu := if s.hlu.silent then s.fnu else s.fnu.raise .hostSilent
      bcu := { s.bcu with build := none }
      smu := match s.bcu.build with
        | none => s.smu
        | some u => s.smu.deleteOnTruck u.bay u.created })

/-! ## The layout and the stages -/

/-- The definition requests in CONFIG (R1, R2, R5, R6, R7): with SET the item named takes the fields carried,
each in its own field; with CLEAR a defined item is removed, and nothing that names it is touched, and an item
that is not defined is refused with NO_SUCH_ITEM. Nothing else changes. What the ACK of BAY-DEFINE with SET
carries, the bay number and the geometry taken, is the model's choice, log 48. -/
def Obligations.LayoutIsEdited : Prop :=
  (∀ (tag : Byte) (r : RunwayId) (length : Nat) (s s0 : State), 1000 ≤ length → length ≤ 250000 →
    s.Admits ⟨tag, .runwayDefineSet (.fields ⟨.known r, length⟩)⟩ inConfig s0 →
    exec (.runwayDefineSet tag (.fields ⟨.known r, length⟩)) s = .next
      (({ s0 with lsu := { s0.lsu with runways := s0.lsu.runways.set r (some length) } } : State).acked
        tag .runwayDefine (.runwaySet r length))) ∧
  (∀ (tag : Byte) (c : CraneId) (r : RunwayId) (v : CraneSet) (s s0 : State), v.crane = numVal c →
    v.runway = .known r → craneFits v → v.xRef ≤ 250000 →
    s.Admits ⟨tag, .craneDefineSet (.fields v)⟩ inConfig s0 →
    exec (.craneDefineSet tag (.fields v)) s = .next
      (({ s0 with lsu := { s0.lsu with active := s0.lsu.active.set c (some (paramsOf v r)) } } : State).acked
        tag .craneDefine (.craneSet c (paramsOf v r)))) ∧
  (∀ (tag : Byte) (r : RunwayId) (v : SlotSet) (s s0 : State), v.runway = .known r → slotFits v →
    s.Admits ⟨tag, .slotDefineSet (.fields v)⟩ inConfig s0 → s0.slot? v.slot = none →
    exec (.slotDefineSet tag (.fields v)) s = .next
      (({ s0 with
          smu :=
            { s0.smu with
              slots := Table.put v.slot ⟨slotGeomOf v r, .free, .none⟩ s0.smu.slots } } : State).acked
        tag .slotDefine (.slotSet v.slot (slotGeomOf v r)))) ∧
  (∀ (tag : Byte) (r : RunwayId) (v : SlotSet) (t : Slot) (s s0 : State), v.runway = .known r →
    slotFits v → s.Admits ⟨tag, .slotDefineSet (.fields v)⟩ inConfig s0 → s0.slot? v.slot = some t →
    exec (.slotDefineSet tag (.fields v)) s = .next
      (({ s0 with
          smu :=
            { s0.smu with
              slots := Table.put v.slot { t with geom := slotGeomOf v r } s0.smu.slots } } : State).acked
        tag .slotDefine (.slotSet v.slot (slotGeomOf v r)))) ∧
  (∀ (tag : Byte) (b : BayId) (r : RunwayId) (v : BaySet) (s s0 : State), v.bay = numVal b →
    v.runway = .known r → bayFits v → s.Admits ⟨tag, .bayDefineSet (.fields v)⟩ inConfig s0 →
    exec (.bayDefineSet tag (.fields v)) s = .next
      (({ s0 with lsu := { s0.lsu with bays := s0.lsu.bays.set b (some (bayGeomOf v r)) } } : State).acked
        tag .bayDefine (.baySet b (bayGeomOf v r)))) ∧
  (∀ (tag : Byte) (r : RunwayId) (s s0 : State),
    s.Admits ⟨tag, .runwayDefineClear (.fields (.known r))⟩ inConfig s0 →
    exec (.runwayDefineClear tag (.fields (.known r))) s = .next
      (if s0.lsu.runways.get r = none then s0.nacked tag ReqKind.runwayDefine.code .noSuchItem 0
       else
        ({ s0 with lsu := { s0.lsu with runways := s0.lsu.runways.set r none } } : State).acked tag
          .runwayDefine (.cleared .runway (runwayVal r)))) ∧
  (∀ (tag : Byte) (c : CraneId) (s s0 : State),
    s.Admits ⟨tag, .craneDefineClear (.fields (numVal c))⟩ inConfig s0 →
    exec (.craneDefineClear tag (.fields (numVal c))) s = .next
      (if s0.lsu.active.get c = none then s0.nacked tag ReqKind.craneDefine.code .noSuchItem 0
       else
        ({ s0 with lsu := { s0.lsu with active := s0.lsu.active.set c none } } : State).acked tag
          .craneDefine (.cleared .crane (numVal c)))) ∧
  (∀ (tag : Byte) (i : Nat) (s s0 : State), i ≤ 1023 →
    s.Admits ⟨tag, .slotDefineClear (.fields i)⟩ inConfig s0 →
    exec (.slotDefineClear tag (.fields i)) s = .next
      (if s0.slot? i = none then s0.nacked tag ReqKind.slotDefine.code .noSuchItem 0
       else
        ({ s0 with smu := { s0.smu with slots := s0.smu.slots.filter fun e => e.1 != i } } : State).acked
          tag .slotDefine (.cleared .slot i))) ∧
  (∀ (tag : Byte) (b : BayId) (s s0 : State),
    s.Admits ⟨tag, .bayDefineClear (.fields (numVal b))⟩ inConfig s0 →
    exec (.bayDefineClear tag (.fields (numVal b))) s = .next
      (if s0.lsu.bays.get b = none then s0.nacked tag ReqKind.bayDefine.code .noSuchItem 0
       else
        ({ s0 with lsu := { s0.lsu with bays := s0.lsu.bays.set b none } } : State).acked tag
          .bayDefine (.cleared .bay (numVal b)))) ∧
  (∀ (v : CraneSet) (r : RunwayId), paramsOf v r =
    { runway := r, order := v.order, front := v.front, rear := v.rear, vFull := v.vFull, vSlow := v.vSlow
      vCreep := v.vCreep, decel := v.decel, react := v.react, xRef := v.xRef, capacity := v.capacity
      gain := v.gain }) ∧
  (∀ (v : SlotSet) (r : RunwayId), slotGeomOf v r =
    { runway := r, row := v.row, x := v.x, y := v.y, dMax := v.dMax, group := v.group
      tier := if v.tier = 1 then .one v.mMax else .two v.left v.right }) ∧
  (∀ (v : BaySet) (r : RunwayId), bayGeomOf v r =
    { runway := r, xLo := v.xLo, xHi := v.xHi, kingpinX := v.kingpinX, direction := v.direction
      trailerY := v.trailerY })

/-- CRANE-DEFINE with SET in INVENTORY or RUN (R3): the shadow set alone takes the fields, whose runway and
order index are the active set's. -/
def Obligations.ServiceSetWaitsAsShadow : Prop :=
  ∀ (tag : Byte) (c : CraneId) (v : CraneSet) (q : ParamSet) (l : CraneLink) (len : Nat) (s s0 : State),
    v.crane = numVal c → craneFits v → s.Admits ⟨tag, .craneDefineSet (.fields v)⟩ committed s0 →
    s0.links.get c = some l → s0.lsu.active.get c = some q → s0.lsu.runways.get q.runway = some len →
    v.runway = .known q.runway → v.order = q.order → v.xRef ≤ 250000 → v.xRef ≤ len →
    exec (.craneDefineSet tag (.fields v)) s = .next
      (({ s0 with
          lsu := { s0.lsu with shadow := s0.lsu.shadow.set c (some (paramsOf v q.runway)) } } : State).acked
        tag .craneDefine (.craneSet c (paramsOf v q.runway)))

/-- CONFIG-SET (R8) in every stage: pairs that name different settings, each with a value of its kind, are all
taken at once (`putSettings`). Each writes its own setting. A number is taken at the nearest value of its range
in Table 1-4, a link_timeout first rounded to the nearest multiple of 10, halves up. That the ACK lists the
settings in the order of the request's pairs is the model's choice, log 54. -/
def Obligations.SettingsAreTaken : Prop :=
  (∀ (tag : Byte) (pairs : List (Setting × SettingValue)) (s s0 : State),
     1 ≤ pairs.length → pairs.length ≤ 17 → (pairs.map (·.1)).Nodup → (∀ p ∈ pairs, settingFits p.1 p.2 = true) →
     s.Admits ⟨tag, .configSet (.fields (pairs.map fun p => ⟨.known p.1, p.2⟩))⟩ inAny s0 →
     ∃ (t : State) (taken : List (Setting × SettingValue)),
       exec (.configSet tag (.fields (pairs.map fun p => ⟨.known p.1, p.2⟩))) s = .next
         (t.acked tag .configSet (.settings taken (decide (taken.map (·.2) ≠ pairs.map (·.2))))) ∧
       taken = pairs.map (fun p => (p.1, takenValue p.1 p.2)) ∧
       t = s0.putSettings taken ∧
       t.lsu = { s0.lsu with settings := taken.foldl (fun u p => u.put p.1 p.2) s0.lsu.settings } ∧
       t.smu = s0.smu ∧ t.tcu = s0.tcu ∧ t.links = s0.links ∧ t.hoists = s0.hoists ∧ t.bcu = s0.bcu ∧
       t.now = s0.now ∧ t.pending = s0.pending ∧
       (t.lsu.settings.faultLatch = s0.lsu.settings.faultLatch ∨ t.lsu.settings.faultLatch = .latched →
         t.fnu = s0.fnu ∧ t.dio = s0.dio ∧ t.rcu = s0.rcu ∧ t.ports = s0.ports) ∧
       (t.lsu.settings.hostSilence = s0.lsu.settings.hostSilence → t.hlu = s0.hlu)) ∧
  (∀ n : Nat,
     takenValue .linkTimeout (.number n) = .number (max 40 (min 500 (10 * ((n + 5) / 10)))) ∧
     takenValue .gap (.number n) = .number (max 500 (min 10000 n)) ∧
     takenValue .passHeight (.number n) = .number (max 0 (min 15000 n)) ∧
     takenValue .posTolerance (.number n) = .number (max 10 (min 500 n)) ∧
     takenValue .jumpLimit (.number n) = .number (max 50 (min 2000 n)) ∧
     takenValue .refTolerance (.number n) = .number (max 10 (min 500 n)) ∧
     takenValue .weightTolerance (.number n) = .number (max 5 (min 100 n)) ∧
     takenValue .stabilityBand (.number n) = .number (max 10 (min 500 n)) ∧
     takenValue .settleTime (.number n) = .number (max 1000 (min 20000 n)) ∧
     takenValue .rezeroCount (.number n) = .number (max 0 (min 255 n)) ∧
     takenValue .trailTime (.number n) = .number (max 0 (min 60 n)) ∧
     takenValue .beaconStretch (.number n) = .number (max 0 (min 3 n)) ∧
     takenValue .debounce (.number n) = .number (max 0 (min 50 n)) ∧
     takenValue .tier2Penalty (.number n) = .number (max 0 (min 255 n)) ∧
     takenValue .overspeedRecords (.number n) = .number (max 1 (min 10 n))) ∧
  (∀ (u : Settings) (m : LatchMode) (q : SilencePeriod) (n : Nat),
     takenValue .faultLatch (.latch m) = .latch m ∧ takenValue .hostSilence (.silence q) = .silence q ∧
     u.put .faultLatch (.latch m) = { u with faultLatch := m } ∧
     u.put .hostSilence (.silence q) = { u with hostSilence := q } ∧
     u.put .linkTimeout (.number n) = { u with linkTimeout := n } ∧
     u.put .gap (.number n) = { u with gap := n } ∧
     u.put .passHeight (.number n) = { u with passHeight := n } ∧
     u.put .posTolerance (.number n) = { u with posTolerance := n } ∧
     u.put .jumpLimit (.number n) = { u with jumpLimit := n } ∧
     u.put .refTolerance (.number n) = { u with refTolerance := n } ∧
     u.put .weightTolerance (.number n) = { u with weightTolerance := n } ∧
     u.put .stabilityBand (.number n) = { u with stabilityBand := n } ∧
     u.put .settleTime (.number n) = { u with settleTime := n } ∧
     u.put .rezeroCount (.number n) = { u with rezeroCount := n } ∧
     u.put .trailTime (.number n) = { u with trailTime := n } ∧
     u.put .beaconStretch (.number n) = { u with beaconStretch := n } ∧
     u.put .debounce (.number n) = { u with debounce := n } ∧
     u.put .tier2Penalty (.number n) = { u with tier2Penalty := n } ∧
     u.put .overspeedRecords (.number n) = { u with overspeedRecords := n })

/-- A change of fault_latch to REAL_TIME clears every set condition flag whose condition is not live, and
no other (R176); a change of host_silence restarts the silence timer or stops it (R186). -/
def Obligations.SettingChangesActAtOnce : Prop :=
  ∀ (s : State) (taken : List (Setting × SettingValue)),
    (s.lsu.settings.faultLatch = .latched →
      (s.putSettings taken).lsu.settings.faultLatch = .realTime →
      ∀ f, (s.putSettings taken).fnu.flag f =
        if f.isCondition ∧ (s.fnu.flag f).live = false then ⟨none, (s.fnu.flag f).live⟩
        else s.fnu.flag f) ∧
    ((s.putSettings taken).lsu.settings.hostSilence ≠ s.lsu.settings.hostSilence →
      (s.putSettings taken).hlu.silence =
        match (s.putSettings taken).lsu.settings.hostSilence with
        | .off => none
        | .s1 => some (s.now + 1000)
        | .s5 => some (s.now + 5000)
        | .s20 => some (s.now + 20000))

/-- COMMIT-LAYOUT (R12, R13): an offence of Table 1-8 is refused with its item and changes nothing; else the
stage becomes INVENTORY with every unit in its committed-yard state, a link SILENT, a hoist UNZEROED, a bay
EMPTY. The offence reported is the first check of Table 1-8 that some item offends, in the order of the table,
with the lowest key that offends it; the slot table is in its canonical form, as every step keeps it. That an
ESTOP input active then raises no flag (log 23), and the form of the detail, with keys 1 and 2 for the runways
and 0 for no item (log 44), are the model's inferences. -/
def Obligations.CommitFixesTheLayout : Prop :=
  (∀ (tag : Byte) (s s0 : State), s.Admits ⟨tag, .commitLayout (.fields ())⟩ inConfig s0 →
    (∀ d, s0.layoutOffence = some d → exec (.commitLayout tag (.fields ())) s = .next
      (s0.nacked tag ReqKind.commitLayout.code .layoutInvalid d)) ∧
    (s0.layoutOffence = none → ∃ t : State, exec (.commitLayout tag (.fields ())) s = .next
        (t.acked tag .commitLayout .empty) ∧
      t.lsu = { s0.lsu with stage := .inventory } ∧
      t.smu.slots = s0.smu.slots.map (fun e => (e.1, ⟨e.2.geom, .free, .none⟩)) ∧ t.smu.coils = [] ∧
      t.tcu = ⟨.all [], .all none, .all false, s0.tcu.mismatches⟩ ∧
      (∀ c, t.links.get c = (s0.lsu.active.get c).map fun _ => CraneLink.fresh) ∧
      (∀ c, t.hoists.get c = (s0.lsu.active.get c).map fun _ => Hoist.fresh) ∧
      (∀ b, t.bcu.bays.get b =
        (s0.lsu.bays.get b).map fun _ => Bay.fresh (s0.dio.bayInputs b) .latched) ∧
      (∀ r, t.rcu.views.get r =
        (s0.lsu.runways.get r).map fun n => ⟨n, s0.dio.fnLevel (.estop r)⟩) ∧
      (∀ b, t.rcu.zones.get b = (t.bcu.bays.get b).map fun y => ⟨y.closed, y.manned⟩) ∧
      (∀ c, (t.rcu.cranes.get c).isSome = (s0.lsu.active.get c).isSome) ∧
      (∀ c r, t.rcu.cranes.get c = some r → r.finalF = .stop ∧ r.finalR = .stop ∧
        r.runEnable = false ∧ r.lower = false ∧ r.claim = .none) ∧
      (∀ c, (t.ports.get c).lastSent.fwd = .stop ∧ (t.ports.get c).lastSent.rev = .stop) ∧
      t.fnu = s0.fnu.offer (.stageChanged .inventory .commit) ∧ t.dio = s0.dio ∧ t.hlu = s0.hlu ∧
      t.now = s0.now ∧ t.pending = s0.pending)) ∧
  (∀ s : State, Table.wf s.smu.slots →
    let along (r : RunwayId) (x : Nat) : Prop := ∃ n, s.lsu.runways.get r = some n ∧ x ≤ n
    let orders (r : RunwayId) : List Nat :=
      [Num4.n1, .n2, .n3, .n4].filterMap fun c =>
        match s.lsu.active.get c with
        | some p => if p.runway = r then some p.order else none
        | none => none
    let slot (i : Nat) (g : SlotGeom) : Prop := ∃ v, s.slot? i = some v ∧ v.geom = g
    let oneRow (g h : SlotGeom) : Prop := h.runway = g.runway ∧ h.row = g.row
    let supports (i : Nat) (g : SlotGeom) (beside : Nat → Prop) : Prop :=
      ∃ h m, slot i h ∧ h.tier = .one m ∧ oneRow g h ∧ beside h.y
    let unassigned (a : InAssign) : Prop := a.selection < 2 ∨ 33 < a.selection
    let offends (check kind key : Nat) : Prop :=
      match check, kind with
      | 1, 1 => key = 0 ∧ ∀ c, s.lsu.active.get c = none
      | 1, 2 => key = 0 ∧ s.smu.slots = []
      | 2, 1 => ∃ c p, key = numVal c ∧ s.lsu.active.get c = some p ∧ ¬ along p.runway p.xRef
      | 3, 0 => ∃ r n, key = runwayVal r ∧ s.lsu.runways.get r = some n ∧
          ¬ (orders r).Perm (List.range' 1 (orders r).length)
      | 4, 2 => ∃ g, slot key g ∧ ¬ along g.runway g.x
      | 5, 2 => ∃ g i h, slot key g ∧ slot i h ∧ oneRow g h ∧ (∀ j k, slot j k → oneRow g k → i ≤ j) ∧
          h.x ≠ g.x
      | 6, 2 => ∃ g l r, slot key g ∧ g.tier = .two l r ∧
          ¬ (supports l g (· < g.y) ∧ supports r g (g.y < ·))
      | 7, 2 => ∃ g l r i h l' r', slot key g ∧ g.tier = .two l r ∧ slot i h ∧ h.tier = .two l' r' ∧
          i < key ∧ (l' = l ∨ r' = r)
      | 8, 3 => ∃ b g, key = numVal b ∧ s.lsu.bays.get b = some g ∧ ¬ (g.xLo < g.xHi ∧ along g.runway g.xHi)
      | 9, 1 => ∃ c p, key = numVal c ∧ s.lsu.active.get c = some p ∧ unassigned (s.dio.inputs.ref.get c)
      | 10, 0 => ∃ r n, key = runwayVal r ∧ s.lsu.runways.get r = some n ∧
          unassigned (s.dio.inputs.estop.get r)
      | _, _ => False
    (s.layoutOffence = none ↔ ∀ check kind key, ¬ offends check kind key) ∧
    (∀ d, s.layoutOffence = some d → ∃ check kind key, d = 4096 * check + 1024 * kind + key ∧
      offends check kind key ∧
      ∀ check' kind' key', offends check' kind' key' → check < check' ∨ check = check' ∧
        (kind < kind' ∨ kind = kind' ∧ key ≤ key'))) ∧
  CraneLink.fresh =
    { link := .silent, last := none, seenPos := none, period := false, correction := 0
      referenced := false, overCount := 0, overspeed := false, pairAbove := false, driveFault := false } ∧
  Hoist.fresh =
    { window := [], z := 0, state := .unzeroed, counter := 0, frozen := none
      conds := ⟨false, false, false⟩, result := ⟨0, none, none, false, false, false⟩, loadClass := none } ∧
  (∀ (live : BayInputs) (mode : CurtainMode), Bay.fresh live mode =
    { state := .empty, live := live, mode := mode, latch := false, snapshot := live, frozen := false
      work := [], trail := none, plan := none, intrusion := false })

/-- OPEN-YARD and CLOSE-YARD (R14, R15, R16, R139): the stage changes, every runway is evaluated in the new
stage, one STAGE-CHANGED notice is queued, and nothing else moves; a yard with a task or a bay not EMPTY
does not close. -/
def Obligations.OpeningAndClosingTheYard : Prop :=
  (∀ (tag : Byte) (s s0 : State), s.Admits ⟨tag, .openYard (.fields ())⟩ inInventory s0 →
    let e : State := ({ s0 with lsu := { s0.lsu with stage := .run } } : State).evaluateYard
    ∃ t : State, exec (.openYard tag (.fields ())) s = .next (t.acked tag .openYard .empty) ∧
      t.lsu = { s0.lsu with stage := .run } ∧ t.signal .yardRun = true ∧ t.rcu = e.rcu ∧
      t.ports = e.ports ∧
      t.smu = s0.smu ∧ t.tcu = s0.tcu ∧ t.links = s0.links ∧ t.hoists = s0.hoists ∧ t.bcu = s0.bcu ∧
      t.dio = s0.dio ∧ t.hlu = s0.hlu ∧ t.fnu = s0.fnu.offer (.stageChanged .run .openYard) ∧
      t.now = s0.now ∧ t.pending = s0.pending) ∧
  (∀ (tag : Byte) (s s0 : State), s.Admits ⟨tag, .closeYard (.fields ())⟩ inRun s0 →
    (∀ c, s0.tcu.queues.get c = []) → (∀ b y, s0.bcu.bays.get b = some y → y.state = .empty) →
    let e : State := ({ s0 with lsu := { s0.lsu with stage := .inventory } } : State).evaluateYard
    ∃ t : State, exec (.closeYard tag (.fields ())) s = .next (t.acked tag .closeYard .empty) ∧
      t.lsu = { s0.lsu with stage := .inventory } ∧ t.signal .yardRun = false ∧ t.rcu = e.rcu ∧
      t.ports = e.ports ∧
      t.smu = s0.smu ∧ t.tcu = s0.tcu ∧ t.links = s0.links ∧ t.hoists = s0.hoists ∧ t.bcu = s0.bcu ∧
      t.dio = s0.dio ∧ t.hlu = s0.hlu ∧ t.fnu = s0.fnu.offer (.stageChanged .inventory .closeYard) ∧
      t.now = s0.now ∧ t.pending = s0.pending) ∧
  (∀ (tag : Byte) (c : CraneId) (s s0 : State), s.Admits ⟨tag, .closeYard (.fields ())⟩ inRun s0 →
    s0.tcu.queues.get c ≠ [] → (∀ d, numVal d < numVal c → s0.tcu.queues.get d = []) →
    exec (.closeYard tag (.fields ())) s = .next
      (s0.nacked tag ReqKind.closeYard.code .stateConflict (numVal c))) ∧
  (∀ (tag : Byte) (b : BayId) (y : Bay) (s s0 : State),
    s.Admits ⟨tag, .closeYard (.fields ())⟩ inRun s0 → (∀ c, s0.tcu.queues.get c = []) →
    s0.bcu.bays.get b = some y → y.state ≠ .empty →
    (∀ d z, numVal d < numVal b → s0.bcu.bays.get d = some z → z.state = .empty) →
    exec (.closeYard tag (.fields ())) s = .next
      (s0.nacked tag ReqKind.closeYard.code .stateConflict (numVal b)))

/-- RESTART ALL (R18): its ACK is sent whole, then the part is as after power-on, with RESTARTED in place
of POWER_UP and a STOP record on every port; the frames waiting are discarded. The raw levels are the
lines' own; the window on the last frame sent is the model's (log 9, 11). -/
def Obligations.RestartAllIsPowerOn : Prop :=
  ∀ (tag : Byte) (straps : Straps) (s s0 : State), s.Admits ⟨tag, .restartAll (.fields ())⟩ inAny s0 →
    ∃ t : State, exec (.restartAll tag (.fields ()) straps) s = .next t ∧
      t.lsu = .powerOn ∧ t.smu = ⟨[], []⟩ ∧ t.tcu = .powerOn ∧ t.links = .all none ∧
      t.hoists = .all none ∧ t.rcu = .powerOn ∧ t.bcu = ⟨.all none, none⟩ ∧
      t.dio = .powerOn s0.dio.rawLevels ∧
      (∀ f, t.fnu.flag f = if f = .restarted then ⟨some 1, false⟩ else ⟨none, false⟩) ∧
      t.fnu.notices = [.faultRaised .restarted none] ∧ t.fnu.masks = [] ∧ t.fnu.lost = 0 ∧
      t.hlu = { Hlu.powerOn straps with lastSent := some (.reply ⟨tag, 0x09, .ack .empty⟩) } ∧
      (∀ c, (t.ports.get c).receiver = .hunting ∧ (t.ports.get c).errors = 0 ∧
        ((s0.ports.get c).sending = none → (t.ports.get c).sending = some .stopRecord ∧
          (t.ports.get c).waiting = none) ∧
        (∀ r, (s0.ports.get c).sending = some r → (t.ports.get c).sending = some r ∧
          (t.ports.get c).waiting = some .stopRecord)) ∧
      t.now = s0.now ∧ t.pending = s0.pending

/-- RESTART YARD (R19): what it keeps and what it clears; RESTARTED and the conditions still live are raised, in
the order of a FAULT-REPORT listing, each flag by the live condition of its owning unit. On the port of a crane
whose link is ACTIVE the STOP record starts and is the last sent one, or on a busy line takes the place of any
that waits and is not the last sent one yet (R187). The window on the ACK sent, in the same step (log 9), is the
model's choice; that of the last sent record of any other crane, and on a busy line, classes, speeds and lower
allowed alone are cleared is its inference (logs 33 and 52). -/
def Obligations.RestartYardKeepsTheCranes : Prop :=
  (∀ (tag : Byte) (s s0 : State), s.Admits ⟨tag, .restartYard (.fields ())⟩ committed s0 →
    ∃ t : State, exec (.restartYard tag (.fields ())) s = .next t ∧
      t.lsu = { s0.lsu with stage := .inventory } ∧
      t.smu.slots = s0.smu.slots.map (fun e => (e.1, ⟨e.2.geom, .free, .none⟩)) ∧ t.smu.coils = [] ∧
      t.tcu = ⟨.all [], .all none, .all false, 0⟩ ∧ t.hoists = s0.hoists ∧
      (∀ c, t.links.get c =
        (s0.links.get c).map fun l => { l with overCount := 0, overspeed := false }) ∧
      (∀ b, t.bcu.bays.get b =
        (s0.bcu.bays.get b).map fun y => Bay.fresh (s0.dio.bayInputs b) y.mode) ∧
      t.bcu.build = none ∧
      (∀ c r, s0.rcu.cranes.get c = some r → ∃ k, t.rcu.cranes.get c = some k ∧ k.motion = r.motion ∧
        k.load = r.load ∧ k.claim = r.claim ∧ k.awaiting = true ∧ k.runEnable = false ∧
        k.finalF = .stop ∧ k.finalR = .stop ∧ k.lower = false) ∧
      (∀ c, (t.links.get c).isSome → (t.ports.get c).errors = 0 ∧
        (t.ports.get c).lastSent.fwd = .stop ∧ (t.ports.get c).lastSent.rev = .stop) ∧
      (∀ c, (s0.links.get c).isSome →
        let p := s0.ports.get c
        let q := t.ports.get c
        let cleared : CommandRec :=
          { p.lastSent with fwd := .stop, rev := .stop, fwdSpeed := 0, revSpeed := 0, lower := false }
        let stops (r : CommandRec) : Prop :=
          r.fwd = .stop ∧ r.rev = .stop ∧ r.lower = false ∧ r.order = .none ∧ r.task = 0
        (s0.linkActive c = true → p.sending = none →
          ∃ r, stops r ∧ q.sending = some r ∧ q.lastSent = r ∧ q.waiting = p.waiting) ∧
        (∀ x, s0.linkActive c = true → p.sending = some x →
          ∃ r, stops r ∧ q.sending = some x ∧ q.lastSent = cleared ∧ q.waiting = some r) ∧
        (s0.linkActive c = false →
          q.sending = p.sending ∧ q.lastSent = cleared ∧ q.waiting = p.waiting)) ∧
      (∀ c, s0.links.get c = none →
        (t.ports.get c).sending = (s0.ports.get c).sending ∧
        (t.ports.get c).waiting = (s0.ports.get c).waiting ∧
        (t.ports.get c).lastSent = (s0.ports.get c).lastSent) ∧
      t.dio.lines = s0.dio.lines ∧ t.dio.inputs = s0.dio.inputs ∧ t.dio.outputs = s0.dio.outputs ∧
      (∀ c, (t.dio.beacons.get c).mode = (s0.dio.beacons.get c).mode ∧
        (t.dio.beacons.get c).hostLevel = (s0.dio.beacons.get c).hostLevel) ∧
      t.fnu.masks = s0.fnu.masks ∧ t.fnu.isSet .restarted = true ∧
      t.fnu.notices =
        ([Notice.faultRaised .restarted none]
          ++ (allFlags.filter t.conditionLive).map (fun f => Notice.faultRaised f (some true))
          ++ (if s0.lsu.stage = .run then [Notice.stageChanged .inventory .restart] else [])).take 32 ∧
      (∀ f, t.fnu.isSet f = true → f = .restarted ∨ f = .noticeLost ∨ t.conditionLive f = true) ∧
      (∀ f, t.conditionLive f = true → t.fnu.isSet f = true ∧ (t.fnu.flag f).live = true) ∧
      t.hlu.inbound = s0.hlu.inbound ∧ t.hlu.frameErrors = 0 ∧ t.hlu.overruns = 0 ∧
      t.hlu.receiver = s0.hlu.receiver ∧ t.hlu.handling = none ∧
      t.hlu.lastSent = some (.reply ⟨tag, 0x09, .ack .empty⟩) ∧
      t.now = s0.now ∧ t.pending = s0.pending) ∧
  (∀ s : State,
    let onHoist (c : CraneId) (live : FreezeConds → Bool) : Prop :=
      ∃ h, s.hoists.get c = some h ∧ live h.conds = true
    let onLink (c : CraneId) (live : CraneLink → Prop) : Prop := ∃ l, s.links.get c = some l ∧ live l
    ∀ f : FlagId, s.conditionLive f = true ↔
      match f with
      | .crane .linkLost c => onLink c fun l => l.link = .lost
      | .crane .orderConflict c => s.orderConflict c = true
      | .crane .overspeed c => onLink c fun l => l.overspeed = true
      | .crane .driveFault c => onLink c fun l => l.driveFault = true
      | .crane .overload c => onHoist c (·.overload)
      | .crane .underload c => onHoist c (·.underload)
      | .crane .cellSaturated c => onHoist c (·.saturated)
      | .bayIntrusion b => ∃ y, s.bcu.bays.get b = some y ∧ y.intrusion = true
      | .estop r => ∃ v, s.rcu.views.get r = some v ∧ v.estop = true
      | .hostSilent => s.hlu.silent = true
      | _ => False)

/-! ## The store -/

/-- COIL-ADD (R33): a coil that passes Table 2-6 is stored, and nothing else changes; a field outside its range
is refused with BAD_VALUE and the first such field's ordinal (R188), the fields numbered from 1 in the order of
R33, which is the model's inference (log 7); with every field in range, the first failing check from the second
on is the reply, and a refused COIL-ADD changes nothing. -/
def Obligations.CoilAddIsJudged : Prop :=
  (∀ (tag : Byte) (v : CoilAdd) (t : Slot) (s s0 : State),
     s.Admits ⟨tag, .coilAdd (.fields v)⟩ committed s0 →
     1 ≤ v.coil → v.coil ≤ 4294967295 → 600 ≤ v.width → v.width ≤ 2100 → 900 ≤ v.diameter →
     v.diameter ≤ 2400 → 1000 ≤ v.declared → v.declared ≤ 45000 → v.group ≤ 255 → v.slot ≤ 1023 →
     (∀ m, v.measured = some m → -65000 ≤ m ∧ m ≤ 66000) →
     s0.coil? v.coil = none → s0.slot? v.slot = some t → t.state = .free → t.resv = .none →
     s0.smu.failingSupport t.geom = none →
     s0.smu.fits ⟨v.width, v.diameter, v.measured.getD (v.declared : Int), v.group⟩ t.geom = true →
     s0.smu.coils.length < 768 →
     exec (.coilAdd tag (.fields v)) s = .next
       (({ s0 with
           smu :=
             { slots := Table.modify v.slot (fun t => { t with state := .occupied v.coil }) s0.smu.slots
               coils := Table.put v.coil
                 { width := v.width, diameter := v.diameter, declared := v.declared
                   measured := v.measured, group := v.group, location := .slot v.slot
                   task := none, plan := none } s0.smu.coils } } : State).acked
         tag .coilAdd (.coilSlot v.coil v.slot))) ∧
  (∀ (tag : Byte) (v : CoilAdd) (s s0 : State), s.Admits ⟨tag, .coilAdd (.fields v)⟩ committed s0 →
     let refuse (code : RefusalCode) (detail : Nat) : Prop :=
       exec (.coilAdd tag (.fields v)) s = .next (s0.nacked tag ReqKind.coilAdd.code code detail)
     let id := 1 ≤ v.coil ∧ v.coil ≤ 4294967295
     let width := 600 ≤ v.width ∧ v.width ≤ 2100
     let diameter := 900 ≤ v.diameter ∧ v.diameter ≤ 2400
     let declared := 1000 ≤ v.declared ∧ v.declared ≤ 45000
     let group := v.group ≤ 255
     let measured := ∀ m, v.measured = some m → -65000 ≤ m ∧ m ≤ 66000
     let slot := v.slot ≤ 1023
     (¬ id → refuse .badValue 1) ∧ (id → ¬ width → refuse .badValue 2) ∧
     (id → width → ¬ diameter → refuse .badValue 3) ∧
     (id → width → diameter → ¬ declared → refuse .badValue 4) ∧
     (id → width → diameter → declared → ¬ group → refuse .badValue 5) ∧
     (id → width → diameter → declared → group → ¬ measured → refuse .badValue 6) ∧
     (id → width → diameter → declared → group → measured → ¬ slot → refuse .badValue 7)) ∧
  (∀ (tag : Byte) (v : CoilAdd) (s s0 : State), s.Admits ⟨tag, .coilAdd (.fields v)⟩ committed s0 →
     (∀ b ∈ coilAddChecks v, b = true) →
     let refuse (code : RefusalCode) (detail : Nat) : Prop :=
       exec (.coilAdd tag (.fields v)) s = .next (s0.nacked tag ReqKind.coilAdd.code code detail)
     (s0.coil? v.coil ≠ none → refuse .duplicate 0) ∧
     (s0.coil? v.coil = none →
       (s0.slot? v.slot = none → refuse .noSuchItem v.slot) ∧
       ∀ t, s0.slot? v.slot = some t →
         (t.state ≠ .free → refuse .stateConflict v.slot) ∧
         (t.state = .free →
           (t.resv ≠ .none → refuse .reserved v.slot) ∧
           (t.resv = .none →
             (∀ j, s0.smu.failingSupport t.geom = some j → refuse .supportConflict j) ∧
             (s0.smu.failingSupport t.geom = none →
               (s0.smu.fits ⟨v.width, v.diameter, v.measured.getD (v.declared : Int), v.group⟩
                 t.geom = false → refuse .notFit v.slot) ∧
               (s0.smu.fits ⟨v.width, v.diameter, v.measured.getD (v.declared : Int), v.group⟩
                 t.geom = true → 768 ≤ s0.smu.coils.length → refuse .tableFull 0))))))

/-- COIL-REMOVE, SLOT-BLOCK and SLOT-UNBLOCK (R34, R35): a stored coil that no task and no plan names, with
nothing resting on its slot, leaves the register; a slot goes out of service and back. -/
def Obligations.StoreIsKeptInStep : Prop :=
  (∀ (tag : Byte) (id i : Nat) (k : Coil) (s s0 : State),
    s.Admits ⟨tag, .coilRemove (.fields id)⟩ committed s0 → s0.coil? id = some k →
    k.location = .slot i → k.task = none → k.plan = none → s0.smu.blockedAbove i = none →
    exec (.coilRemove tag (.fields id)) s = .next
      (({ s0 with
          smu :=
            { slots := Table.modify i (fun t => { t with state := .free }) s0.smu.slots
              coils := s0.smu.coils.filter fun e => e.1 != id } } : State).acked
        tag .coilRemove (.coilRemoved id k i))) ∧
  (∀ (tag : Byte) (i : Nat) (t : Slot) (s s0 : State),
    s.Admits ⟨tag, .slotBlock (.fields i)⟩ committed s0 → s0.slot? i = some t → t.state = .free →
    t.resv = .none →
    exec (.slotBlock tag (.fields i)) s = .next
      (({ s0 with
          smu :=
            { s0.smu with
              slots := Table.modify i (fun t => { t with state := .blocked }) s0.smu.slots } } : State).acked
        tag .slotBlock (.slotState i .blocked))) ∧
  (∀ (tag : Byte) (i : Nat) (t : Slot) (s s0 : State),
    s.Admits ⟨tag, .slotUnblock (.fields i)⟩ committed s0 → s0.slot? i = some t → t.state = .blocked →
    exec (.slotUnblock tag (.fields i)) s = .next
      (({ s0 with
          smu :=
            { s0.smu with
              slots :=
                Table.modify i (fun t => { t with state := .free, resv := .none }) s0.smu.slots } } :
          State).acked tag .slotUnblock (.slotState i .free)))

/-- The fit test (R25): diameter within d_max; on tier 1 the weight within m_max; on tier 2 neither heavier nor
wider than either support's occupant, each weighed by its measured weight where it has one; an OCCUPIED slot's
occupant is the coil that its state names. -/
def Obligations.FitTest : Prop :=
  (∀ (u : Smu) (d : CoilDesc) (g : SlotGeom),
    u.fits d g = true ↔ d.diameter ≤ g.dMax ∧
      match g.tier with
      | .one mMax => d.weight ≤ (mMax : Int)
      | .two l r =>
        ∃ a b, u.occupant? l = some a ∧ u.occupant? r = some b ∧
          d.weight ≤ a.measured.getD (a.declared : Int) ∧ d.weight ≤ b.measured.getD (b.declared : Int) ∧
          d.width ≤ a.width ∧ d.width ≤ b.width) ∧
  (∀ (u : Smu) (i : Nat) (k : Coil), u.occupant? i = some k ↔
    ∃ t id, u.slot? i = some t ∧ t.state = .occupied id ∧ u.coil? id = some k) ∧
  (∀ k : Coil, k.desc = ⟨k.width, k.diameter, k.measured.getD (k.declared : Int), k.group⟩)

/-- The tests of a SOURCE reservation in their order (R26), with the tier rule of R24: no tier-2 slot that rests
on the slot is OCCUPIED or reserved. The tests of a DEST reservation in their order (R27, R23), with left
support before right, and the candidates of a selection (R42): a slot is a candidate exactly when it would be
granted. The two of a task are judged as one, the destination with the source counted as granted (R28). A grant
and a release write the reservation of one slot, and a release one that the task itself holds (R29). -/
def Obligations.ReservationTests : Prop :=
  (∀ (u : Smu) (i coil : Nat) (t : Slot), u.slot? i = some t →
     (t.state ≠ .occupied coil → u.testSource i coil = some ⟨.locationMismatch, 0⟩) ∧
     (t.state = .occupied coil → t.resv ≠ .none → u.testSource i coil = some ⟨.reserved, 0⟩) ∧
     (t.state = .occupied coil → t.resv = .none →
       (u.testSource i coil = none ↔
         ∀ e ∈ u.slots, ∀ l r, e.2.geom.tier = .two l r → l = i ∨ r = i →
           (∀ id, e.2.state ≠ .occupied id) ∧ e.2.resv = .none) ∧
       (∀ n, u.testSource i coil = some n → n.code = .supportConflict ∧
         ∃ e ∈ u.slots, n.detail = e.1 ∧ ∃ l r, e.2.geom.tier = .two l r ∧ (l = i ∨ r = i)))) ∧
  (∀ (u : Smu) (r : RunwayId) (i : Nat) (d : CoilDesc) (t : Slot), u.slot? i = some t →
     (t.geom.runway ≠ r → u.testDest r i d = some ⟨.badValue, i⟩) ∧
     (t.geom.runway = r → t.state ≠ .free → u.testDest r i d = some ⟨.stateConflict, 0⟩) ∧
     (t.geom.runway = r → t.state = .free → t.resv ≠ .none → u.testDest r i d = some ⟨.reserved, 0⟩) ∧
     (t.geom.runway = r → t.state = .free → t.resv = .none →
       (∀ a b, t.geom.tier = .two a b →
         (u.supportOk a = false → u.testDest r i d = some ⟨.supportConflict, a⟩) ∧
         (u.supportOk a = true → u.supportOk b = false →
           u.testDest r i d = some ⟨.supportConflict, b⟩)) ∧
       (u.failingSupport t.geom = none →
         u.testDest r i d = if u.fits d t.geom then none else some ⟨.notFit, i⟩)) ∧
     (u.isCandidate r d t = true ↔ u.testDest r i d = none)) ∧
  (∀ (u : Smu) (i : Nat) (g : SlotGeom),
     (u.supportOk i = true ↔ ∃ t id, u.slot? i = some t ∧ t.state = .occupied id ∧ ∀ k, t.resv ≠ .source k) ∧
     (∀ m, g.tier = .one m → u.failingSupport g = none) ∧
     (∀ l r, g.tier = .two l r → u.failingSupport g =
       if u.supportOk l = false then some l else if u.supportOk r = false then some r else none)) ∧
  (∀ (u : Smu) (task coil : Nat) (r : RunwayId) (d : CoilDesc) (src : Place) (dst : Dest),
     (∀ i n, src = .slot i → u.testSource i coil = some n → u.testBoth task coil r d src dst = some n) ∧
     (∀ i j, src = .slot i → u.testSource i coil = none → dst = .place (.slot j) →
       u.testBoth task coil r d src dst = (u.reserve i (.source task)).testDest r j d) ∧
     (∀ b k j, src = .cradle b k → dst = .place (.slot j) →
       u.testBoth task coil r d src dst = u.testDest r j d) ∧
     ((∀ i, src = .slot i → u.testSource i coil = none) → (∀ j, dst ≠ .place (.slot j)) →
       u.testBoth task coil r d src dst = none)) ∧
  (∀ (u : Smu) (task i : Nat) (t : Slot), u.slot? i = some t →
     let becomes (v : Smu) (q : Slot) : Prop :=
       v.slot? i = some q ∧ v.coils = u.coils ∧ ∀ j, j ≠ i → v.slot? j = u.slot? j
     let freed (own : Reservation) : Slot := if t.resv = own then { t with resv := .none } else t
     becomes (u.grantSource task (.slot i)) { t with resv := .source task } ∧
     becomes (u.grantDest task (.place (.slot i))) { t with resv := .dest task } ∧
     becomes (u.releaseSource task (.slot i)) (freed (.source task)) ∧
     becomes (u.releaseDest task (.place (.slot i))) (freed (.dest task))) ∧
  (∀ (u : Smu) (task : Nat) (b : BayId) (k : Nat),
     u.grantSource task (.cradle b k) = u ∧ u.releaseSource task (.cradle b k) = u ∧
     u.grantDest task (.place (.cradle b k)) = u ∧ u.releaseDest task (.place (.cradle b k)) = u ∧
     u.grantDest task .auto = u ∧ u.releaseDest task .auto = u)

/-- The cost of a candidate (R43, Table 3-2): the sum of four terms, between 0 and 982; and its burial term
(R44): 100 for each support of a tier-2 slot whose occupant departs earlier, and nothing else. -/
def Obligations.CostTermsOfACandidate : Prop :=
  ∀ (u : Smu) (penalty : Nat) (x : Int) (d : CoilDesc) (g : SlotGeom),
    let c := u.costOf penalty x d g
    c.total = c.distance + c.tier + c.burial + c.affinity ∧
    c.distance = ((g.x : Int) - x).natAbs / 1000 ∧
    (g.group = 0 ∨ g.group = d.group → c.affinity = 0) ∧
    (g.group ≠ 0 → g.group ≠ d.group → c.affinity = 15) ∧
    (∀ m, g.tier = .one m → c.tier = 0 ∧ c.burial = 0) ∧
    (∀ l r a b, g.tier = .two l r → u.occupant? l = some a → u.occupant? r = some b →
      c.tier = penalty ∧
      c.burial =
        (if a.group ≠ 0 ∧ (d.group = 0 ∨ a.group < d.group) then 100 else 0) +
          (if b.group ≠ 0 ∧ (d.group = 0 ∨ b.group < d.group) then 100 else 0)) ∧
    (penalty ≤ 255 → ((g.x : Int) - x).natAbs < 513000 → c.total ≤ 982)

/-- The winner of a selection (R45): the candidate with the lowest cost, of those that share it the one
with the lowest index; with no candidate the outcome is NO_SLOT. The slot table is in its canonical
form, as every step keeps it. -/
def Obligations.CheapestCandidateWins : Prop :=
  ∀ (u : Smu) (penalty : Nat) (r : RunwayId) (x : Int) (d : CoilDesc), Table.wf u.slots →
    (u.select penalty r x d = none ↔ ∀ e ∈ u.slots, u.isCandidate r d e.2 = false) ∧
    (∀ i c, u.select penalty r x d = some (i, c) →
      (∃ t, (i, t) ∈ u.slots ∧ u.isCandidate r d t = true ∧ c = u.costOf penalty x d t.geom) ∧
      ∀ e ∈ u.slots, u.isCandidate r d e.2 = true →
        c.total < (u.costOf penalty x d e.2.geom).total ∨
          c.total = (u.costOf penalty x d e.2.geom).total ∧ i ≤ e.1)

/-- SLOT-SUGGEST (R50 to R52): it answers with the outcome, the winner's index, total cost and terms, or
zeros for NO_SLOT, and the number of candidates, and changes nothing; the tier-1 slot of a stored coil
counts as reserved as a source. -/
def Obligations.SuggestionReservesNothing : Prop :=
  (∀ n : Nat, suggestion none n = ⟨.noSlot, 0, 0, ⟨0, 0, 0, 0⟩, n⟩) ∧
  (∀ (i : Nat) (c : CostTerms) (n : Nat), suggestion (some (i, c)) n =
    ⟨.slot, i, c.distance + c.tier + c.burial + c.affinity, c, n⟩) ∧
  (∀ (tag : Byte) (c : CraneId) (w d m g : Nat) (r : RunwayId) (x : Int) (l : CraneLink) (s s0 : State),
    s.Admits ⟨tag, .slotSuggest (.fields ⟨numVal c, .described w d m g⟩)⟩ committed s0 →
    600 ≤ w → w ≤ 2100 → 900 ≤ d → d ≤ 2400 → 1000 ≤ m → m ≤ 45000 → g ≤ 255 →
    s0.links.get c = some l → l.seenPos = some x → s0.craneRunway c = some r →
    exec (.slotSuggest tag (.fields ⟨numVal c, .described w d m g⟩)) s = .next (s0.acked tag .slotSuggest
      (.suggestion (suggestion (s0.smu.select s0.lsu.settings.tier2Penalty r x ⟨w, d, (m : Int), g⟩)
        (s0.smu.slots.filter fun e => s0.smu.isCandidate r ⟨w, d, (m : Int), g⟩ e.2).length)))) ∧
  (∀ (tag : Byte) (c : CraneId) (id : Nat) (r : RunwayId) (x : Int) (k : Coil) (l : CraneLink)
    (s s0 : State),
    s.Admits ⟨tag, .slotSuggest (.fields ⟨numVal c, .coil id⟩)⟩ committed s0 →
    1 ≤ id → id ≤ 4294967295 → s0.links.get c = some l → l.seenPos = some x →
    s0.craneRunway c = some r → s0.coil? id = some k →
    (∀ i t m, k.location = .slot i → s0.slot? i = some t → t.geom.tier = .one m →
      exec (.slotSuggest tag (.fields ⟨numVal c, .coil id⟩)) s = .next (s0.acked tag .slotSuggest
        (.suggestion (suggestion
          ((s0.smu.reserve i (.source 0)).select s0.lsu.settings.tier2Penalty r x k.desc)
          ((s0.smu.reserve i (.source 0)).slots.filter fun e =>
            (s0.smu.reserve i (.source 0)).isCandidate r k.desc e.2).length)))) ∧
    ((∀ i t m, k.location = .slot i → s0.slot? i = some t → t.geom.tier ≠ .one m) →
      exec (.slotSuggest tag (.fields ⟨numVal c, .coil id⟩)) s = .next (s0.acked tag .slotSuggest
        (.suggestion (suggestion (s0.smu.select s0.lsu.settings.tier2Penalty r x k.desc)
          (s0.smu.slots.filter fun e => s0.smu.isCandidate r k.desc e.2).length)))))

/-! ## The tasks -/

/-- TASK-SUBMIT (R56 to R58): a request that passes Table 4-4 creates a QUEUED task at its place in the queue,
with its reservations, its LOAD entry CLAIMED and its coil's task field set; one TASK-STATE notice is queued,
and nothing else changes. With every field in range, the first failing check of Table 4-4 from the second on
is the reply, and a refused TASK-SUBMIT changes nothing. That checks 8 and 9 name the source where source and
destination both fail, and check 9 the destination's bay where both are cradles, is the model's choice, log
47. -/
def Obligations.TaskIsAccepted : Prop :=
  (∀ (tag : Byte) (task coil : Nat) (c : CraneId) (flags : Byte) (src : Place) (dst : Dest) (k : Coil)
    (l : CraneLink) (p : ParamSet) (s s0 : State),
    s.Admits ⟨tag, .taskSubmit (.fields (submitOf task c coil flags src dst))⟩ inRun s0 →
    1 ≤ task → task ≤ 65535 → 1 ≤ coil → coil ≤ 4294967295 → flags.toNat < 4 → src.fits → dst.fits →
    s0.links.get c = some l → s0.lsu.active.get c = some p → s0.tcu.detached.get c = false →
    (s0.tcu.queues.get c).length < 8 → s0.task? task = none → s0.coil? coil = some k →
    (∀ d, k.location ≠ .hook d) → k.task = none →
    s0.placeDefined src = true → s0.placeRunway src = some p.runway →
    (∀ q, dst = .place q → s0.placeDefined q = true ∧ s0.placeRunway q = some p.runway) →
    (∀ b n, src = .cradle b n → (∀ b' n', dst ≠ .place (.cradle b' n')) ∧
      s0.entryIs b n coil .unload .onTruck = true ∧ k.location = .cradle b n ∧
      ∃ y, s0.bcu.bays.get b = some y ∧
        (y.state = .present ∨ y.state = .secured ∨ y.state = .working)) →
    (∀ b n, dst = .place (.cradle b n) → s0.entryIs b n coil .load .pending = true) →
    s0.smu.testBoth task coil p.runway k.desc src dst = none →
    let t : Task :=
      { id := task, coil := coil, kind := taskKind src dst, source := src, dest := dst
        priority := flags.getLsbD 0, noVerify := flags.getLsbD 1, phase := .queued, hold := none
        deadline := none, offered := none, fresh := false }
    let queue := placeTask t (s0.tcu.queues.get c)
    ∃ u : State, exec (.taskSubmit tag (.fields (submitOf task c coil flags src dst))) s = .next
        (u.acked tag .taskSubmit (.taskQueued task c (taskKind src dst) (placeIn task queue))) ∧
      u.tcu = { s0.tcu with queues := s0.tcu.queues.set c queue } ∧
      u.smu = ((s0.smu.grantSource task src).grantDest task dst).modCoil coil
        (fun k => { k with task := some task }) ∧
      u.bcu = (s0.entryTo dst coil .pending .claimed).bcu ∧
      u.fnu = s0.fnu.offer (.taskState ⟨task, c, coil, taskKind src dst, .queued, dst, none⟩) ∧
      u.lsu = s0.lsu ∧ u.links = s0.links ∧ u.ports = s0.ports ∧ u.hoists = s0.hoists ∧
      u.rcu = s0.rcu ∧ u.dio = s0.dio ∧ u.hlu = s0.hlu ∧ u.now = s0.now ∧ u.pending = s0.pending) ∧
  (∀ (tag : Byte) (task coil : Nat) (c : CraneId) (flags : Byte) (src : Place) (dst : Dest)
    (s s0 : State),
    s.Admits ⟨tag, .taskSubmit (.fields (submitOf task c coil flags src dst))⟩ inRun s0 →
    1 ≤ task → task ≤ 65535 → 1 ≤ coil → coil ≤ 4294967295 → flags.toNat < 4 → src.fits → dst.fits →
    let refuse (code : RefusalCode) (detail : Nat) : Prop :=
      exec (.taskSubmit tag (.fields (submitOf task c coil flags src dst))) s = .next
        (s0.nacked tag ReqKind.taskSubmit.code code detail)
    let number (p : Place) : Nat := match p with | .slot i => i | .cradle b _ => numVal b
    (s0.links.get c = none ∨ s0.tcu.detached.get c = true → refuse .stateConflict (numVal c)) ∧
    (∀ l p, s0.links.get c = some l → s0.lsu.active.get c = some p → s0.tcu.detached.get c = false →
      let room : Prop := (s0.tcu.queues.get c).length < 8
      (¬ room → refuse .queueFull (numVal c)) ∧
      (room → s0.task? task ≠ none → refuse .duplicate task) ∧
      (room → s0.task? task = none → s0.coil? coil = none → refuse .noSuchItem 0) ∧
      (∀ k, room → s0.task? task = none → s0.coil? coil = some k →
        (∀ d, k.location = .hook d → refuse .locationMismatch 0) ∧
        ((∀ d, k.location ≠ .hook d) →
          (∀ other, k.task = some other → refuse .stateConflict other) ∧
          (k.task = none →
            let along (q : Place) : Prop := s0.placeRunway q = some p.runway
            (s0.placeDefined src = false → refuse .noSuchItem (number src)) ∧
            (∀ q, s0.placeDefined src = true → dst = .place q → s0.placeDefined q = false →
              refuse .noSuchItem (number q)) ∧
            (s0.placeDefined src = true → (∀ q, dst = .place q → s0.placeDefined q = true) →
              (¬ along src → refuse .badValue (number src)) ∧
              (∀ q, along src → dst = .place q → ¬ along q → refuse .badValue (number q)) ∧
              (along src → (∀ q, dst = .place q → along q) →
                (∀ b n b' n', src = .cradle b n → dst = .place (.cradle b' n') →
                  refuse .badValue (numVal b')) ∧
                (∀ b n, src = .cradle b n → (∀ b' n', dst ≠ .place (.cradle b' n')) →
                  ¬ (s0.entryIs b n coil .unload .onTruck = true ∧ k.location = .cradle b n ∧
                    ∃ y, s0.bcu.bays.get b = some y ∧
                      (y.state = .present ∨ y.state = .secured ∨ y.state = .working)) →
                  refuse .locationMismatch (numVal b)) ∧
                (∀ i b n, src = .slot i → dst = .place (.cradle b n) →
                  s0.entryIs b n coil .load .pending = false → refuse .locationMismatch (numVal b)) ∧
                (∀ e, (∀ b n, src = .cradle b n → (∀ b' n', dst ≠ .place (.cradle b' n')) ∧
                    s0.entryIs b n coil .unload .onTruck = true ∧ k.location = .cradle b n ∧
                    ∃ y, s0.bcu.bays.get b = some y ∧
                      (y.state = .present ∨ y.state = .secured ∨ y.state = .working)) →
                  (∀ b n, dst = .place (.cradle b n) → s0.entryIs b n coil .load .pending = true) →
                  s0.smu.testBoth task coil p.runway k.desc src dst = some e →
                  refuse e.code e.detail)))))))) ∧
  (∀ (s : State) (i : Nat) (b : BayId) (n coil : Nat) (kind : PlanKind) (status : EntryStatus),
    (s.placeDefined (.slot i) = true ↔ s.slot? i ≠ none) ∧
    (s.placeDefined (.cradle b n) = true ↔ s.bcu.bays.get b ≠ none) ∧
    (s.placeRunway (.slot i) = (s.slot? i).map fun t => t.geom.runway) ∧
    (s.placeRunway (.cradle b n) = (s.lsu.bays.get b).map fun g => g.runway) ∧
    (s.entryIs b n coil kind status = true ↔ ∃ y p, s.bcu.bays.get b = some y ∧ y.plan = some p ∧
      p.head.kind = kind ∧ ⟨n, coil, status⟩ ∈ p.entries)) ∧
  (∀ (i j n m : Nat) (a b : BayId),
    taskKind (.slot i) (.place (.cradle b m)) = .load ∧ taskKind (.slot i) (.place (.slot j)) = .move ∧
    taskKind (.slot i) .auto = .move ∧ ∀ d, taskKind (.cradle a n) d = .unload) ∧
  (∀ (t : Task) (before after : List Task), (∀ u ∈ before, u.id ≠ t.id) →
    placeIn t.id (before ++ t :: after) = before.length + 1) ∧
  (∀ (s : State) (id : Nat),
    (s.task? id = none ↔ ∀ c, ∀ t ∈ s.tcu.queues.get c, t.id ≠ id) ∧
    (∀ c t, s.task? id = some (c, t) → t ∈ s.tcu.queues.get c ∧ t.id = id))

/-- The place of an accepted task (R55, Table 4-3): without PRIORITY at the tail; with it after the
in-flight head and every QUEUED task with PRIORITY, ahead of every QUEUED task without. -/
def Obligations.PriorityPlacement : Prop :=
  ∀ (t : Task) (flight urgent rest : List Task),
    (∀ a ∈ flight, a.phase ≠ .queued) → (∀ a ∈ urgent, a.phase = .queued ∧ a.priority = true) →
    (∀ a ∈ rest, a.phase = .queued ∧ a.priority = false) →
    (t.priority = false → placeTask t (flight ++ urgent ++ rest) = flight ++ urgent ++ rest ++ [t]) ∧
    (t.priority = true → placeTask t (flight ++ urgent ++ rest) = flight ++ urgent ++ t :: rest)

/-- The order of a crane's task (R59, Table 4-5): by its state, HOLD while the crane is halted or the task HELD,
with the task's id and its target. The target of a slot is its x and y, that of a cradle its position along the
trailer from the kingpin and the trailer's y (R54). -/
def Obligations.OrdersFollowTheTask : Prop :=
  ∀ (s : State) (c : CraneId),
    (s.inFlight? c = none → s.tcu.halts.get c = none → s.orderOf c = (.none, 0, (0, 0))) ∧
    (s.inFlight? c = none → s.tcu.halts.get c ≠ none → s.orderOf c = (.hold, 0, (0, 0))) ∧
    (∀ t, s.inFlight? c = some t →
      (s.orderOf c).2.1 = t.id ∧
      (s.tcu.halts.get c ≠ none ∨ t.hold ≠ none → (s.orderOf c).1 = .hold) ∧
      (s.tcu.halts.get c = none → t.hold = none →
        (t.phase = .dispatched ∨ t.phase = .picking → (s.orderOf c).1 = .goPick) ∧
        (t.phase = .weighing → (s.orderOf c).1 = .hold) ∧
        (t.phase = .carrying ∨ t.phase = .placing → (s.orderOf c).1 = .goPlace)) ∧
      (t.phase = .dispatched ∨ t.phase = .picking →
        (s.orderOf c).2.2 = (s.target? t.source).getD (0, 0)) ∧
      (t.phase = .weighing ∨ t.phase = .carrying ∨ t.phase = .placing →
        (t.dest = .auto → (s.orderOf c).2.2 = (0, 0)) ∧
        (∀ p, t.dest = .place p → (s.orderOf c).2.2 = (s.target? p).getD (0, 0)))) ∧
    (∀ t, s.inFlight? c = some t ↔ t.phase ≠ .queued ∧ ∃ rest, s.tcu.queues.get c = t :: rest) ∧
    (∀ (i : Nat) (v : Slot), s.slot? i = some v → s.target? (.slot i) = some ((v.geom.x : Int), v.geom.y)) ∧
    (∀ (b : BayId) (n : Nat) (g : BayGeom) (y : Bay) (p : Plan) (x : Nat),
      s.lsu.bays.get b = some g → s.bcu.bays.get b = some y → y.plan = some p → 1 ≤ n →
      p.head.cradles[n - 1]? = some x →
      s.target? (.cradle b n) = some ((g.kingpinX : Int) + g.direction * (x : Int), g.trailerY))

/-- Dispatch (R60, R61): the QUEUED head is dispatched exactly while every condition of R60 holds; it then is
DISPATCHED, the bays it references are told, one TASK-STATE notice is queued, and nothing is dispatched
otherwise. That the notice comes after those of the bays is the model's choice, log 13. -/
def Obligations.DispatchConditions : Prop :=
  ∀ (s : State) (c : CraneId) (t : Task) (rest : List Task), s.tcu.queues.get c = t :: rest →
    (s.mayDispatch c t = true ↔
      t.phase = .queued ∧ s.lsu.stage = .run ∧
      (∃ l d, s.links.get c = some l ∧ l.link = .active d ∧ l.referenced = true) ∧
      s.tcu.halts.get c = none ∧ s.lsu.shadow.get c = none ∧ s.tcu.detached.get c = false ∧
      s.hlu.silent = false ∧
      (t.noVerify = true ∨
        ∃ h, s.hoists.get c = some h ∧ (h.state = .zeroed ∨ h.state = .due))) ∧
    (s.mayDispatch c t = false → s.dispatch c = s) ∧
    (s.mayDispatch c t = true →
      (let u : Task :=
        { t with phase := .dispatched, hold := none, fresh := false, deadline := none, offered := none }
       let written : State :=
        { s with
          tcu := { s.tcu with
            queues := s.tcu.queues.set c ((t :: rest).map fun q => if q.id = t.id then u else q) } }
       s.dispatch c = (written.workStartAll u).notify
        (.taskState ⟨t.id, c, t.coil, t.kind, .dispatched, t.dest, none⟩)) ∧
      (s.TasksUnique → (s.dispatch c).tcu.queues.get c =
        { t with phase := .dispatched, hold := none, fresh := false, deadline := none, offered := none } ::
          rest) ∧
      (s.dispatch c).smu = s.smu ∧ (s.dispatch c).links = s.links ∧ (s.dispatch c).hoists = s.hoists)

/-- A phase report that is not the one the task's state expects, for the task's own id, is ignored (R62); it
is counted where its task id is neither 0 nor the task's, whatever its phase, NONE included: the model's
inference, log 20. -/
def Obligations.UnexpectedReportIsIgnored : Prop :=
  ∀ (s : State) (c : CraneId) (t : Task) (r : StatusRec) (x : Int) (result : WeighResult),
    s.inFlight? c = some t → t.hold = none → t.phase ≠ .weighing → t.fresh = false →
    ¬ (r.task = t.id ∧
      (t.phase = .dispatched ∧ r.phase = .arrivedPick ∨ t.phase = .picking ∧ r.phase = .lifted ∨
        t.phase = .carrying ∧ r.phase = .arrivedPlace ∨ t.phase = .placing ∧ r.phase = .released)) →
    s.taskActs c r x result =
      { s with
        tcu :=
          { s.tcu with
            mismatches :=
              if r.task ≠ 0 ∧ r.task ≠ t.id then min (s.tcu.mismatches + 1) 65535
              else s.tcu.mismatches } }

/-- What a record does to the task in flight. A fresh-report mark holds the expected report back and goes at
the first other one (R63). ARRIVED_PICK and ARRIVED_PLACE are checked against their targets (R64, R68), at a
LOAD cradle against plan order and axle loads, again at each record while held for order (R69). LIFTED moves
the coil to the hook and starts WEIGHING, or the exit without a weight (R65, R30). In WEIGHING a stable
weight is verified (R66). RELEASED puts the coil down and ends the task (R70, R31); that DONE is told before the
bay's stop is the model's choice, log 13. Reports of foreign ids are counted; that NONE counts too is its
inference, log 20. -/
def Obligations.PhaseReportsAreActedOn : Prop :=
  (∀ (s : State) (c : CraneId) (t : Task) (r : StatusRec) (x : Int) (w : WeighResult),
    s.inFlight? c = some t →
    let s1 : State :=
      { s with
        tcu :=
          { s.tcu with
            mismatches :=
              if r.task ≠ 0 ∧ r.task ≠ t.id then min (s.tcu.mismatches + 1) 65535
              else s.tcu.mismatches } }
    let acts := s.taskActs c r x w
    let works (p : Phase) (deadline : Option Nat) : Task :=
      { t with phase := p, hold := none, fresh := false, deadline := deadline, offered := none }
    let held (why : HoldReason) (p : Phase) (offered : Option Int) : Task :=
      { t with phase := p, hold := some why, fresh := false, deadline := none, offered := offered }
    let reports (p : PhaseReport) : Prop := r.task = t.id ∧ r.phase = p
    let expected : Prop :=
      t.phase = .dispatched ∧ reports .arrivedPick ∨ t.phase = .picking ∧ reports .lifted ∨
        t.phase = .carrying ∧ reports .arrivedPlace ∨ t.phase = .placing ∧ reports .released
    let stands (p : Place) : Prop :=
      ∃ tx ty, s.target? p = some (tx, ty) ∧ (x - tx).natAbs ≤ s.lsu.settings.posTolerance ∧
        ((r.y : Int) - (ty : Int)).natAbs ≤ s.lsu.settings.posTolerance
    (t.hold = none → t.phase ≠ .weighing → t.fresh = true →
      (expected → acts = s) ∧
      (¬ expected → acts = s1.modTask c t.id fun _ => { t with fresh := false })) ∧
    (t.hold = none → t.fresh = false →
      (t.phase = .dispatched → reports .arrivedPick →
        (stands t.source → acts = s.advance c (works .picking none)) ∧
        (¬ stands t.source → acts = s.advance c (held .positionMismatch .dispatched none))) ∧
      (t.phase = .picking → reports .lifted →
        let up : State := ({ s with smu := s.smu.lift t c } : State).entryAt t.source t.coil .onTruck .removed
        let dated : Prop := ∃ h, s.hoists.get c = some h ∧ (h.state = .zeroed ∨ h.state = .due)
        (t.noVerify = true → ¬ dated → acts = up.weighExit c t none) ∧
        (t.noVerify = false ∨ dated →
          acts = up.advance c (works .weighing (some (s.now + s.lsu.settings.settleTime))))) ∧
      (t.phase = .carrying → reports .arrivedPlace → ∀ p, t.dest = .place p →
        (¬ stands p → acts = s.advance c (held .positionMismatch .carrying none)) ∧
        (stands p →
          (s.placeAnswer t = .pass → acts = s.advance c (works .placing none)) ∧
          (s.placeAnswer t = .planOrder → acts = s.advance c (held .planOrder .carrying none)) ∧
          (s.placeAnswer t = .axleLimit → acts = s.advance c (held .axleLimit .carrying none)))) ∧
      (t.phase = .placing → reports .released →
        let down : State :=
          (({ s with smu := s.smu.putDown t } : State).entryTo t.dest t.coil .claimed .placed).entryTo
            t.dest t.coil .removed .onTruck
        acts =
          ({ down with
            hoists := s.hoists.modify c (Option.map Hoist.countDown)
            tcu := { s.tcu with
              queues := s.tcu.queues.set c ((s.tcu.queues.get c).filter fun u => u.id != t.id) }
            fnu := s.fnu.offer
              (.taskState ⟨t.id, c, t.coil, t.kind, .done, t.dest, none⟩) } : State).workStopAll t)) ∧
    (t.hold = none → t.phase = .weighing →
      (w.stable = false → acts = s1) ∧
      (∀ kg k, w.stable = true → w.recorded = some kg → s.coil? t.coil = some k →
        let close : Prop :=
          (kg - (k.declared : Int)).natAbs ≤
            max (k.declared * s.lsu.settings.weightTolerance / 1000) 100
        (close → acts = s1.weighExit c t (some kg)) ∧
        (¬ close → acts = s1.advance c (held .weightMismatch .weighing (some kg))))) ∧
    (t.hold = some .planOrder →
      (s.placeAnswer t = .pass → acts = s1.advance c (works .placing none)) ∧
      (s.placeAnswer t = .planOrder → acts = s1) ∧
      (s.placeAnswer t = .axleLimit → acts = s1.advance c (held .axleLimit .carrying none))) ∧
    (t.hold ≠ none → t.hold ≠ some .planOrder → acts = s1)) ∧
  (∀ (s : State) (t : Task),
    (t.dest = .place t.source → s.placeAnswer t = .pass) ∧
    (∀ i, t.dest = .place (.slot i) → s.placeAnswer t = .pass) ∧
    (∀ b k p, t.dest ≠ .place t.source → t.dest = .place (.cradle b k) → s.plan? b = some p →
      p.head.kind = .load →
      let ahead := p.entries.takeWhile fun e => e.cradle != k
      ((∃ e ∈ ahead, e.status ≠ .placed) → s.placeAnswer t = .planOrder) ∧
      ((∀ e ∈ ahead, e.status = .placed) → ∀ coils,
        List.Forall₂
          (fun (e : Nat × Nat) (x : Int × Nat) => ∃ r, s.coil? e.1 = some r ∧ 1 ≤ e.2 ∧
            p.head.cradles[e.2 - 1]? = some x.2 ∧ x.1 = r.measured.getD (r.declared : Int))
          ((p.entries.filter fun e => e.status == .placed).map (fun e => (e.coil, e.cradle)) ++
            [(t.coil, k)]) coils →
        s.placeAnswer t = if p.head.within coils then .pass else .axleLimit))) ∧
  (∀ (u : Smu) (t : Task) (c : CraneId) (k : Coil), u.coil? t.coil = some k →
    (u.lift t c).coil? t.coil = some { k with location := .hook c } ∧
    (∀ id, id ≠ t.coil → (u.lift t c).coil? id = u.coil? id ∧ (u.putDown t).coil? id = u.coil? id) ∧
    (∀ i v, u.slot? i = some v → (u.lift t c).slot? i =
      some (if t.source = .slot i then { v with state := .free } else v)) ∧
    (∀ i, t.dest = .place (.slot i) →
      (u.putDown t).coil? t.coil = some { k with location := .slot i, task := none }) ∧
    (∀ b n, t.dest = .place (.cradle b n) →
      (u.putDown t).coil? t.coil = some { k with location := .cradle b n, task := none }) ∧
    (∀ i v, u.slot? i = some v → ∃ v', (u.putDown t).slot? i = some v' ∧ v'.geom = v.geom ∧
      v'.state = (if t.dest = .place (.slot i) then .occupied t.coil else v.state) ∧
      v'.resv =
        if t.source = .slot i ∧ v.resv = .source t.id ∨
          t.dest = .place (.slot i) ∧ v.resv = .dest t.id then .none else v.resv))

/-- The weighing exit (R67): the measured weight is written or removed; an AUTO destination is chosen and
granted, or the task is HELD with NO_SLOT; a failed axle prediction holds it with AXLE_LIMIT; else it is
CARRYING. The task as it then stands is written, and told by one TASK-STATE notice (R83). The choice is the
selection on the crane's runway, from its position, for the coil's current weight (R40, R41, R46). The
prediction (R159) takes the entries ahead of the task's own, whatever their status, and the task's coil, each at
its current weight, against the plan's limits; a destination that is no cradle of a LOAD plan, or the task's own
source, passes. SETTLE_DEADLINE_EXPIRY (R66): a task is held with WEIGH_TIMEOUT, or with NO_VERIFY runs the exit
that records no weight. What the expiry does to the clock, and that one without a deadline changes nothing (log
2), and the notice of an exit that ends in the hold reason the task had (log 21), are the model's choices. -/
def Obligations.WeighingExit : Prop :=
  (∀ (s : State) (c : CraneId) (t : Task) (w : Option Int),
     let s1 : State := { s with smu := s.smu.modCoil t.coil fun k => { k with measured := w } }
     let carrying (t : Task) : Task :=
       { t with phase := .carrying, hold := none, fresh := false, deadline := none, offered := none }
     let held (t : Task) (why : HoldReason) : Task :=
       { t with
         phase := .weighing, hold := some why, fresh := false, deadline := none, offered := none }
     (t.dest = .auto → s1.selectFor c t.coil = none → s.weighExit c t w = s1.advance c (held t .noSlot)) ∧
     (∀ i cost, t.dest = .auto → s1.selectFor c t.coil = some (i, cost) →
       s.weighExit c t w =
         ({ s1 with smu := s1.smu.reserve i (.dest t.id) } : State).advance c
           (carrying { t with dest := .place (.slot i) })) ∧
     (t.dest ≠ .auto → s1.predicts t = false →
       s.weighExit c t w = s1.advance c (held t .axleLimit)) ∧
     (t.dest ≠ .auto → s1.predicts t = true → s.weighExit c t w = s1.advance c (carrying t))) ∧
  (∀ (s : State) (c : CraneId) (t : Task), s.advance c t =
    { s with
      tcu := { s.tcu with
        queues := s.tcu.queues.set c ((s.tcu.queues.get c).map fun u => if u.id = t.id then t else u) }
      fnu := s.fnu.offer (.taskState
        ⟨t.id, c, t.coil, t.kind, t.state, t.dest, t.hold.map fun why => (why, t.phase)⟩) }) ∧
  (∀ (s : State) (c : CraneId) (coil : Nat) (k : Coil) (p : ParamSet) (l : CraneLink) (x : Int),
    s.coil? coil = some k → s.lsu.active.get c = some p → s.links.get c = some l → l.seenPos = some x →
    s.selectFor c coil = s.smu.select s.lsu.settings.tier2Penalty p.runway x
      ⟨k.width, k.diameter, k.measured.getD (k.declared : Int), k.group⟩) ∧
  (∀ (s : State) (t : Task),
    (t.dest = .place t.source ∨ t.dest = .auto ∨ (∃ i, t.dest = .place (.slot i)) →
      s.predicts t = true) ∧
    (∀ b k, t.dest = .place (.cradle b k) → (∀ p, s.plan? b = some p → p.head.kind ≠ .load) →
      s.predicts t = true) ∧
    (∀ b k p coils, t.dest ≠ .place t.source → t.dest = .place (.cradle b k) → s.plan? b = some p →
      p.head.kind = .load →
      let ahead := p.entries.takeWhile fun e => e.cradle != k
      List.Forall₂
        (fun (e : Nat × Nat) (x : Int × Nat) => ∃ r, s.coil? e.1 = some r ∧ 1 ≤ e.2 ∧
          p.head.cradles[e.2 - 1]? = some x.2 ∧ x.1 = r.measured.getD (r.declared : Int))
        (ahead.map (fun e => (e.coil, e.cradle)) ++ [(t.coil, k)]) coils →
      s.predicts t = p.head.within coils)) ∧
  (∀ (s : State) (c : CraneId),
    (s.settleDeadline? c = none → exec (.settleDeadlineExpiry c) s = .next s) ∧
    (∀ t d, s.settleDeadline? c = some (t, d) ↔ s.inFlight? c = some t ∧ t.deadline = some d)) ∧
  (∀ (s : State) (c : CraneId) (t : Task) (d : Nat), s.settleDeadline? c = some (t, d) →
    exec (.settleDeadlineExpiry c) s = .next
      (if t.noVerify then ({ s with now := max s.now d } : State).weighExit c t none
       else ({ s with now := max s.now d } : State).advance c
        { t with
          hold := some .weighTimeout, phase := .weighing, deadline := none, fresh := false
          offered := none }))

/-- TASK-CANCEL (R79, R137), REDIRECT (R76, R77) and RETURN (R78). A cancelled task leaves its queue, with its
reservations, its claim and its coil's task field; CANCELLED is told, its work at bays ends, and from PICKING
the crane is evaluated, so that lowering is withdrawn. A new destination that passes the checks replaces the
old one with reservations, LOAD entries, kind and work at bays; on the hook of a HELD task the weighing exit
then runs, else nothing is resolved. A returned task is CARRYING to its source, its kind unchanged, and told
by one notice; a task that is not held, or held without its coil on the hook, does not return. Each refusal by
state changes nothing. That CANCELLED is told before the bay's stop (log 13), the state and destination in
the ACK of TASK-CANCEL (log 50), the detail 0 of COIL_ON_HOOK for a HELD task (log 57), and the notice of an exit
that ends in the hold reason the task had (log 21), are the model's choices; that a REDIRECT from a cradle to a
cradle is judged by R76 alone is its inference (log 45). -/
def Obligations.TasksAreCancelledOrRedirected : Prop :=
  (∀ (tag : Byte) (id : Nat) (c : CraneId) (t : Task) (s s0 : State),
    s.Admits ⟨tag, .taskCancel (.fields id)⟩ inRun s0 → s0.task? id = some (c, t) →
    let gone : State :=
      { s0 with
        smu := ((s0.smu.releaseSource t.id t.source).releaseDest t.id t.dest).modCoil t.coil
          (fun k => { k with task := none })
        bcu := (s0.entryTo t.dest t.coil .claimed .pending).bcu
        tcu := { s0.tcu with
          queues := s0.tcu.queues.set c ((s0.tcu.queues.get c).filter fun x => x.id != t.id) }
        fnu := s0.fnu.offer (.taskState ⟨t.id, c, t.coil, t.kind, .cancelled, t.dest, none⟩) }
    let cancelled (u : State) : Prop :=
      exec (.taskCancel tag (.fields id)) s = .next (u.acked tag .taskCancel (u.resolutionAck id t)) ∧
      (s0.TasksUnique → u.resolutionAck id t = .resolution ⟨id, .cancelled, t.dest, none⟩)
    (t.phase = .queued → cancelled gone) ∧
    (t.phase = .dispatched → cancelled (gone.workStopAll t)) ∧
    (t.phase = .picking → cancelled ((gone.workStopAll t).evaluate c) ∧
      ((∀ x ∈ s0.tcu.queues.get c, x.id ≠ t.id → x.phase = .queued) →
        ∀ k, ((gone.workStopAll t).evaluate c).rcu.cranes.get c = some k → k.lower = false)) ∧
    (t.phase = .weighing ∨ t.phase = .carrying ∨ t.phase = .placing →
      exec (.taskCancel tag (.fields id)) s = .next
        (s0.nacked tag ReqKind.taskCancel.code .coilOnHook 0))) ∧
  (∀ (tag : Byte) (id : Nat) (d : Dest) (c : CraneId) (t : Task) (s s0 : State),
    s.Admits ⟨tag, .redirect (.fields (redirectOf id d))⟩ inRun s0 → s0.task? id = some (c, t) → d.fits →
    (∀ p, d = .place p → d ≠ t.dest ∧ s0.placeDefined p = true ∧ s0.placeRunway p = s0.craneRunway c) →
    (∀ i, d = .place (.slot i) → ∃ k r, s0.coil? t.coil = some k ∧ s0.craneRunway c = some r ∧
      s0.smu.testDest r i k.desc = none) →
    (∀ b n, d = .place (.cradle b n) → s0.entryIs b n t.coil .load .pending = true) →
    let t' : Task := { t with dest := d, kind := taskKind t.source d }
    let moved : State :=
      { s0 with
        smu := (s0.smu.releaseDest t.id t.dest).grantDest t.id d
        bcu := ((s0.entryTo t.dest t.coil .claimed .pending).entryTo d t.coil .pending .claimed).bcu
        tcu := { s0.tcu with
          queues := s0.tcu.queues.set c
            ((s0.tcu.queues.get c).map fun x => if x.id = t.id then t' else x) } }
    let redirected (u : State) : Prop :=
      exec (.redirect tag (.fields (redirectOf id d))) s = .next
        (u.acked tag .redirect (u.resolutionAck id t))
    (t.phase = .queued → redirected moved) ∧
    (t.phase = .dispatched ∨ t.phase = .picking → redirected (moved.moveWork t t')) ∧
    (t.phase = .weighing ∨ t.phase = .carrying ∨ t.phase = .placing →
      (t.hold ≠ none → redirected ((moved.moveWork t t').exitSelect c t')) ∧
      (t.hold = none → exec (.redirect tag (.fields (redirectOf id d))) s = .next
        (s0.nacked tag ReqKind.redirect.code .stateConflict 0)))) ∧
  (∀ (tag : Byte) (id : Nat) (c : CraneId) (t : Task) (s s0 : State),
    s.Admits ⟨tag, .taskReturn (.fields id)⟩ inRun s0 → s0.task? id = some (c, t) →
    let back : State :=
      ({ s0 with
        smu := s0.smu.releaseDest t.id t.dest
        bcu := (s0.entryTo t.dest t.coil .claimed .pending).bcu } : State).moveWork t
          { t with dest := .place t.source }
    let t' : Task :=
      { t with
        dest := .place t.source, phase := .carrying, hold := none, fresh := false, deadline := none
        offered := none }
    (t.hold ≠ none → t.phase = .weighing ∨ t.phase = .carrying ∨ t.phase = .placing →
      exec (.taskReturn tag (.fields id)) s = .next
        (({ back with
            tcu := { back.tcu with
              queues := back.tcu.queues.set c
                ((back.tcu.queues.get c).map fun x => if x.id = t.id then t' else x) }
            fnu := back.fnu.offer
              (.taskState ⟨t.id, c, t.coil, t.kind, .carrying, .place t.source, none⟩) } : State).acked
          tag .taskReturn (.resolution ⟨id, .carrying, .place t.source, none⟩))) ∧
    (t.hold = none → exec (.taskReturn tag (.fields id)) s = .next
      (s0.nacked tag ReqKind.taskReturn.code .stateConflict 0)) ∧
    (∀ why, t.hold = some why → t.phase = .queued ∨ t.phase = .dispatched ∨ t.phase = .picking →
      exec (.taskReturn tag (.fields id)) s = .next
        (s0.nacked tag ReqKind.taskReturn.code .stateConflict (holdCode why))))

/-- RETRY (R74), by the hold reason. ACCEPT-WEIGHT (R75): after WEIGHT_MISMATCH the exit records the offered
weight, after WEIGH_TIMEOUT it records none; a task not held is refused. The final check (R160) takes every
PLACED entry and the task's coil, each at its current weight, against the plan's limits. The ACK of a resolution
carries the state, destination and hold reason of the task as it stands after the request (R73). -/
def Obligations.HoldsAreResolved : Prop :=
  (∀ (tag : Byte) (id : Nat) (c : CraneId) (t : Task) (s s0 : State),
     s.Admits ⟨tag, .retry (.fields id)⟩ inRun s0 → s0.task? id = some (c, t) →
     let goes (u : State) : Prop :=
       exec (.retry tag (.fields id)) s = .next (u.acked tag .retry (u.resolutionAck id t))
     let stays : Prop :=
       exec (.retry tag (.fields id)) s = .next (s0.nacked tag ReqKind.retry.code .conditionActive 0)
     let works (p : Phase) (fresh : Bool) (deadline : Option Nat) : Task :=
       { t with phase := p, hold := none, fresh := fresh, deadline := deadline, offered := none }
     let settle : Option Nat := some (s0.now + s0.lsu.settings.settleTime)
     (t.hold = some .positionMismatch → goes (s0.advance c (works t.phase true none))) ∧
     (t.hold = some .weighTimeout → goes (s0.advance c (works .weighing false settle))) ∧
     (t.hold = some .noSlot →
       (s0.selectFor c t.coil = none → stays) ∧
       (∀ i cost, s0.selectFor c t.coil = some (i, cost) →
         goes (({ s0 with smu := s0.smu.reserve i (.dest t.id) } : State).advance c
           { works .carrying false none with dest := .place (.slot i) }))) ∧
     (t.hold = some .axleLimit → t.phase = .weighing →
       (s0.predicts t = false → stays) ∧
       (s0.predicts t = true → goes (s0.advance c (works .carrying false none)))) ∧
     (t.hold = some .axleLimit → t.phase = .carrying →
       (s0.finalPasses t = false → stays) ∧
       (s0.finalPasses t = true → goes (s0.advance c (works .placing false none)))) ∧
     (t.hold = some .linkLost ∨ t.hold = some .referenceLost →
       (¬ (s0.linkActive c = true ∧ s0.referenced c = true) → stays) ∧
       (s0.linkActive c = true → s0.referenced c = true →
         goes (s0.advance c
           (works t.phase false (if t.phase = .weighing then settle else none)))))) ∧
  (∀ (tag : Byte) (id : Nat) (c : CraneId) (t : Task) (s s0 : State),
     s.Admits ⟨tag, .acceptWeight (.fields id)⟩ inRun s0 → s0.task? id = some (c, t) →
     (t.hold = some .weightMismatch → exec (.acceptWeight tag (.fields id)) s = .next
       ((s0.weighExit c t t.offered).acked tag .acceptWeight
         ((s0.weighExit c t t.offered).resolutionAck id t))) ∧
     (t.hold = some .weighTimeout → exec (.acceptWeight tag (.fields id)) s = .next
       ((s0.weighExit c t none).acked tag .acceptWeight ((s0.weighExit c t none).resolutionAck id t))) ∧
     (t.hold = none → exec (.acceptWeight tag (.fields id)) s = .next
       (s0.nacked tag ReqKind.acceptWeight.code .stateConflict 0))) ∧
  (∀ (s : State) (t : Task),
    (t.dest = .auto ∨ (∃ i, t.dest = .place (.slot i)) → s.finalPasses t = true) ∧
    (∀ b k p coils, t.dest = .place (.cradle b k) → s.plan? b = some p →
      List.Forall₂
        (fun (e : Nat × Nat) (x : Int × Nat) => ∃ r, s.coil? e.1 = some r ∧ 1 ≤ e.2 ∧
          p.head.cradles[e.2 - 1]? = some x.2 ∧ x.1 = r.measured.getD (r.declared : Int))
        ((p.entries.filter fun e => e.status == .placed).map (fun e => (e.coil, e.cradle)) ++
          [(t.coil, k)]) coils →
      s.finalPasses t = p.head.within coils)) ∧
  (∀ (s : State) (id : Nat) (c : CraneId) (t gone : Task), s.task? id = some (c, t) →
    s.resolutionAck id gone = .resolution ⟨id, t.state, t.dest, t.hold⟩)

/-- HALT and RESUME (R80, R81, R136) for each target: the halts of the cranes named are written, the runways on
which a crane is named are evaluated with them, and nothing else changes. A halted crane is at STOP both
ways and, with HARD, its RUN_ENABLE is 0. DETACH and ATTACH (R82): the crane's mark is written and nothing
else changes; a crane with a task is not detached. That the ACKs of HALT and RESUME list the cranes by ascending
number is the model's choice, log 54. -/
def Obligations.CranesAreHaltedAndDetached : Prop :=
  (∀ (tag : Byte) (target : HaltTarget) (cs : List CraneId) (s s0 : State),
     ((∃ c l, target = .crane (numVal c) ∧ s0.links.get c = some l ∧ cs = [c]) ∨
       (∃ r v, target = .runway (.known r) ∧ s0.rcu.views.get r = some v ∧
         cs = allNum4.filter fun c => (s0.links.get c).isSome && s0.craneRunway c == some r) ∨
       (target = .all ∧ cs = allNum4.filter fun c => (s0.links.get c).isSome)) →
     let written (m : Option HaltMode) : State :=
       { s0 with
         tcu := { s0.tcu with halts := s0.tcu.halts.map fun c h => if c ∈ cs then m else h } }
     let evaluated (m : Option HaltMode) : State :=
       (allRunways.filter fun r => cs.any fun c => s0.craneRunway c == some r).foldl
         State.evaluateRunway (written m)
     let same (m : Option HaltMode) (u : State) : Prop :=
       u.rcu = (evaluated m).rcu ∧ u.ports = (evaluated m).ports ∧
       u.lsu = s0.lsu ∧ u.smu = s0.smu ∧ u.links = s0.links ∧ u.hoists = s0.hoists ∧ u.bcu = s0.bcu ∧
       u.dio = s0.dio ∧ u.fnu = s0.fnu ∧ u.hlu = s0.hlu ∧ u.now = s0.now ∧ u.pending = s0.pending ∧
       u.tcu.queues = s0.tcu.queues ∧ u.tcu.detached = s0.tcu.detached ∧
       u.tcu.mismatches = s0.tcu.mismatches
     (∀ m, s.Admits ⟨tag, .halt (.fields ⟨target, .known m⟩)⟩ committed s0 →
       ∃ u : State, exec (.halt tag (.fields ⟨target, .known m⟩)) s = .next
           (u.acked tag .halt (.halted cs m)) ∧
         (∀ c, u.tcu.halts.get c = if c ∈ cs then some m else s0.tcu.halts.get c) ∧ same (some m) u ∧
         ∀ c r k, c ∈ cs → s0.craneRunway c = some r → c ∈ s0.cranesOn r →
           u.rcu.cranes.get c = some k →
           k.finalF = .stop ∧ k.finalR = .stop ∧ k.lower = false ∧ (m = .hard → k.runEnable = false)) ∧
     (s.Admits ⟨tag, .resume (.fields target)⟩ committed s0 →
       ∃ u : State, exec (.resume tag (.fields target)) s = .next
           (u.acked tag .resume (.resumed (cs.filter fun c => (s0.tcu.halts.get c).isSome))) ∧
         (∀ c, u.tcu.halts.get c = if c ∈ cs then none else s0.tcu.halts.get c) ∧ same none u)) ∧
  (∀ (tag : Byte) (c : CraneId) (l : CraneLink) (s s0 : State), s0.links.get c = some l →
     (s.Admits ⟨tag, .detach (.fields (numVal c))⟩ committed s0 →
       (s0.tcu.queues.get c = [] → exec (.detach tag (.fields (numVal c))) s = .next
         (({ s0 with tcu := { s0.tcu with detached := s0.tcu.detached.set c true } } : State).acked tag
           .detach (.detachMark c true))) ∧
       (s0.tcu.queues.get c ≠ [] → exec (.detach tag (.fields (numVal c))) s = .next
         (s0.nacked tag ReqKind.detach.code .stateConflict 0))) ∧
     (s.Admits ⟨tag, .attach (.fields (numVal c))⟩ committed s0 →
       exec (.attach tag (.fields (numVal c))) s = .next
         (({ s0 with tcu := { s0.tcu with detached := s0.tcu.detached.set c false } } : State).acked tag
           .attach (.detachMark c false))))

/-! ## The queries -/

/-- The queries (R36, R37, R84, R102, R120, R141, R165, R173, R180): each answers from the state and changes
nothing. A listing is the first eight records whose keys are not below the key carried. A task's record has its
hold reason and held-from state only when HELD, its settle deadline only in WEIGHING, its offered weight only
when HELD with WEIGHT_MISMATCH, and its fresh-report mark only in DISPATCHED and CARRYING. RUNWAY-QUERY,
BAY-QUERY, IO-QUERY and STATUS give each of their fields. That the settle deadline is a time of the model's
clock (log 1), that some replies also name the item asked about (log 49), that WEIGH-QUERY gives steady and
valid as false where the window is not full (log 51), and the order of the lists that no rule orders (log 54),
are the model's choices. -/
def Obligations.QueriesOnlyRead : Prop :=
  (∀ (tag : Byte) (id : Nat) (k : Coil) (s s0 : State),
    s.Admits ⟨tag, .coilQueryOne (.fields id)⟩ inAny s0 → s0.coil? id = some k →
    exec (.coilQueryOne tag (.fields id)) s = .next (s0.acked tag .coilQuery (.coilRecord id k))) ∧
  (∀ (tag : Byte) (id : Nat) (s s0 : State),
    s.Admits ⟨tag, .coilQueryList (.fields id)⟩ inAny s0 →
    exec (.coilQueryList tag (.fields id)) s = .next (s0.acked tag .coilQuery
      (.coilList ((s0.smu.coils.filter fun e => decide (id ≤ e.1)).take 8)
        (decide (8 < (s0.smu.coils.filter fun e => decide (id ≤ e.1)).length))))) ∧
  (∀ (tag : Byte) (i : Nat) (t : Slot) (s s0 : State), i ≤ 1023 →
    s.Admits ⟨tag, .slotQueryOne (.fields i)⟩ inAny s0 → s0.slot? i = some t →
    exec (.slotQueryOne tag (.fields i)) s = .next (s0.acked tag .slotQuery (.slotRecord i t))) ∧
  (∀ (tag : Byte) (i : Nat) (s s0 : State), i ≤ 1023 →
    s.Admits ⟨tag, .slotQueryList (.fields i)⟩ inAny s0 →
    exec (.slotQueryList tag (.fields i)) s = .next (s0.acked tag .slotQuery
      (.slotList ((s0.smu.slots.filter fun e => decide (i ≤ e.1)).take 8)
        (decide (8 < (s0.smu.slots.filter fun e => decide (i ≤ e.1)).length))))) ∧
  (∀ (tag : Byte) (id : Nat) (c : CraneId) (t : Task) (s s0 : State),
    s.Admits ⟨tag, .taskQueryOne (.fields id)⟩ inAny s0 → s0.task? id = some (c, t) →
    exec (.taskQueryOne tag (.fields id)) s = .next (s0.acked tag .taskQuery (.taskRecord
      { id := t.id
        crane := c
        coil := t.coil
        kind := t.kind
        source := t.source
        dest := t.dest
        priority := t.priority
        noVerify := t.noVerify
        state := t.state
        hold := t.hold
        heldFrom := t.hold.map fun _ => t.phase
        deadline := if t.state = .weighing then t.deadline else none
        offered := if t.hold = some .weightMismatch then t.offered else none
        fresh := if t.state = .dispatched ∨ t.state = .carrying then some t.fresh else none }))) ∧
  (∀ (tag : Byte) (c : CraneId) (l : CraneLink) (s s0 : State),
    s.Admits ⟨tag, .taskQueryCrane (.fields (numVal c))⟩ inAny s0 → s0.links.get c = some l →
    exec (.taskQueryCrane tag (.fields (numVal c))) s = .next
      (s0.acked tag .taskQuery (.taskQueue c ((s0.tcu.queues.get c).map fun t =>
        { id := t.id, coil := t.coil, kind := t.kind, state := t.state, hold := t.hold })))) ∧
  (∀ (tag : Byte) (c : CraneId) (l : CraneLink) (s s0 : State),
    s.Admits ⟨tag, .craneQuery (.fields (numVal c))⟩ inAny s0 → s0.links.get c = some l →
    exec (.craneQuery tag (.fields (numVal c))) s = .next (s0.acked tag .craneQuery (.crane c
      { link := match l.link with | .silent => .silent | .active _ => .active | .lost => .lost
        referenced := l.referenced
        correction := l.correction
        hasPosition := l.last.isSome
        last := l.last.map fun r => (r.record, r.corrected, s0.now - r.time)
        overCount := l.overCount
        overspeed := l.overspeed
        orderConflict := s0.orderConflict c
        driveFault := l.driveFault
        sent :=
          let r := (s0.ports.get c).lastSent
          { fwd := r.fwd, rev := r.rev, lower := r.lower, raise := r.raise, order := r.order
            task := r.task } }))) ∧
  (∀ (tag : Byte) (c : CraneId) (h : Hoist) (p : ParamSet) (s s0 : State),
    s.Admits ⟨tag, .weighQuery (.fields (numVal c))⟩ inAny s0 → s0.hoists.get c = some h →
    s0.lsu.active.get c = some p →
    exec (.weighQuery tag (.fields (numVal c))) s = .next (s0.acked tag .weighQuery (.weigh c
      { state := h.state
        z := h.z
        counter := h.counter
        count := h.window.length
        samples := h.window.map fun r => (r, weightOf h.z p.gain r)
        filtered := h.result.filtered
        recorded := h.result.recorded
        steady := h.result.steady
        valid := h.result.valid
        conds := h.conds
        raiseInhibit := h.conds.overload
        loadClass := h.loadClass
        frozen := h.frozen }))) ∧
  (∀ (tag : Byte) (r : RunwayId) (v : RunwayView) (s s0 : State),
    s.Admits ⟨tag, .runwayQuery (.fields (.known r))⟩ inAny s0 → s0.rcu.views.get r = some v →
    exec (.runwayQuery tag (.fields (.known r))) s = .next (s0.acked tag .runwayQuery
      (.runway r v.length v.estop
        ((s0.zonesOn r).map fun (b, g, z) => ⟨b, g.xLo, g.xHi, z.closed, z.manned⟩)
        ((s0.cranesOn r).filterMap s0.runwayCrane)))) ∧
  (∀ (s : State) (c : CraneId) (l : CraneLink) (k : RcuCrane), s.links.get c = some l →
    s.rcu.cranes.get c = some k → s.runwayCrane c = some
      { crane := c
        link := match l.link with | .silent => .silent | .active _ => .active | .lost => .lost
        awaiting := k.awaiting
        motion := k.motion
        load := k.load
        swing := k.load.map fun | .empty => 0 | .light => 300 | .medium => 550 | .heavy => 800
        claim := k.claim
        availF := k.availF
        availR := k.availR
        compF := k.compF
        compR := k.compR
        caps := k.caps
        finalF := k.finalF
        finalR := k.finalR
        sentF := (s.ports.get c).lastSent.fwd
        sentR := (s.ports.get c).lastSent.rev
        lower := k.lower
        sentLower := (s.ports.get c).lastSent.lower
        runEnable := k.runEnable }) ∧
  (∀ (s : State) (b : BayId) (g : BayGeom) (y : Bay) (p : Plan) (e : Entry) (x : Nat),
    s.lsu.bays.get b = some g → s.bcu.bays.get b = some y → y.plan = some p → 1 ≤ e.cradle →
    p.head.cradles[e.cradle - 1]? = some x → s.entryReport b p.head e =
      { entry := e, position := x, x := (g.kingpinX : Int) + g.direction * (x : Int) }) ∧
  (∀ (tag : Byte) (b : BayId) (y : Bay) (s s0 : State),
    s.Admits ⟨tag, .bayQuery (.fields (numVal b))⟩ inAny s0 → s0.bcu.bays.get b = some y →
    exec (.bayQuery tag (.fields (numVal b))) s = .next (s0.acked tag .bayQuery (.bay b
      { geom := s0.lsu.bays.get b
        state := y.state
        live := y.live
        mode := y.mode
        latch := y.latch
        secure := y.secure
        closed := y.closed
        manned := y.manned
        snapshot := y.snapshot
        frozen := y.frozen
        work := y.work
        trailLeft := y.trail.map (· - s0.now)
        intrusion := y.intrusion
        plan := y.plan.map fun p =>
          (p.head, p.closed, p.entries.map (s0.entryReport b p.head),
            p.head.totals (s0.smu.placed p)) }))) ∧
  (∀ (tag : Byte) (s s0 : State), s.Admits ⟨tag, .ioQuery (.fields ())⟩ inAny s0 →
    exec (.ioQuery tag (.fields ())) s = .next (s0.acked tag .ioQuery (.io
      { lines := s0.dio.lines.toList.map fun l => (l.level, l.settling.isSome)
        functions :=
          [.ref .n1, .ref .n2, .ref .n3, .ref .n4, .estop .a, .estop .b, .curtain .n1, .curtain .n2,
            .curtain .n3, .curtain .n4, .driver .n1, .driver .n2, .driver .n3, .driver .n4, .chocks .n1,
            .chocks .n2, .chocks .n3, .chocks .n4].map fun f => (f, s0.dio.inputs.get f, s0.dio.fnLevel f)
        outputs := s0.dio.outputs.toList.map fun a => (a, s0.drive a)
        signals := allSignals.map s0.signal
        beacons := [.n1, .n2, .n3, .n4].map fun c =>
          let b := s0.dio.beacons.get c
          { mode := b.mode, hostLevel := b.hostLevel, on := b.on, stretching := b.stretch.isSome } }))) ∧
  (∀ (tag : Byte) (s s0 : State), s.Admits ⟨tag, .status (.fields ())⟩ inAny s0 →
    ∃ r : StatusReport, exec (.status tag (.fields ())) s = .next (s0.acked tag .status (.status r)) ∧
      r.stage = s0.lsu.stage ∧ r.flagsSet = (allFlags.filter s0.fnu.isSet).length ∧
      r.flagsUnmasked =
        (allFlags.filter fun f => s0.fnu.isSet f && !s0.fnu.masks.contains f.kind).length ∧
      r.fault = s0.fnu.faultSignal ∧ r.masks = s0.fnu.masks ∧ r.hostSilent = s0.hlu.silent ∧
      r.noticeDepth = s0.fnu.notices.length ∧ r.noticesLost = s0.fnu.lost ∧
      r.frameErrors = s0.hlu.frameErrors ∧ r.overruns = s0.hlu.overruns ∧
      r.recordErrors = [Num4.n1, .n2, .n3, .n4].map (fun c => (s0.ports.get c).errors) ∧
      r.mismatches = s0.tcu.mismatches ∧ r.cranes.length = 4 ∧ r.bays.length = 4 ∧
      (∀ c l h k, s0.links.get c = some l → s0.hoists.get c = some h → s0.rcu.cranes.get c = some k →
        r.cranes[numVal c - 1]? = some (some
          { link := match l.link with | .silent => .silent | .active _ => .active | .lost => .lost
            referenced := l.referenced
            weigh := h.state
            queueLength := (s0.tcu.queues.get c).length
            sentF := (s0.ports.get c).lastSent.fwd
            sentR := (s0.ports.get c).lastSent.rev
            runEnable := k.runEnable
            halt := s0.tcu.halts.get c
            detached := s0.tcu.detached.get c
            swapPending := (s0.lsu.shadow.get c).isSome })) ∧
      (∀ c, s0.links.get c = none → r.cranes[numVal c - 1]? = some none) ∧
      (∀ b, r.bays[numVal b - 1]? = some ((s0.bcu.bays.get b).map fun y =>
        { state := y.state, secure := y.secure, manned := y.manned })))

/-! ## The crane links -/

/-- STATUS_RECORD (R86, R88, R89, R91, R11): over the bytes on the port since its last event, 0x5A and twenty more
make a record; one that is not valid is discarded and counted; in CONFIG, or for a crane not defined, the
answer is a STOP record; else the link is ACTIVE with its watchdog started,
the link, hoist and collision records take the record's values, and a record with the final classes is
sent on the port. That the command carries the bytes on the port since its last event, and that bytes which
complete no record leave only the receiver and the counter as they make them, is the model's form, logs 32 and
37. -/
def Obligations.StatusRecordReception : Prop :=
  (∀ (c : CraneId) (record : List Byte), record.length = 20 →
    Receiver.hunting.feedCrane c (0x5A :: record) =
      match decodeStatus c record with
      | some r => ⟨.hunting, 0, some r⟩
      | none => ⟨.hunting, 1, none⟩) ∧
  ∀ (c : CraneId) (bytes : List Byte) (s : State),
    let heard := (s.ports.get c).receiver.feedCrane c bytes
    let port : Port :=
      { s.ports.get c with
        errors := min ((s.ports.get c).errors + heard.bad) 65535, receiver := heard.receiver }
    (heard.good = none →
      exec (.statusRecord c bytes) s = .next { s with ports := s.ports.set c port }) ∧
    (∀ r, heard.good = some r → s.lsu.stage = .config ∨ s.links.get c = none →
      exec (.statusRecord c bytes) s = .next
        { s with ports := s.ports.set c (port.send s.now .stopRecord) }) ∧
    (∀ r l p, heard.good = some r → s.lsu.stage ≠ .config → s.links.get c = some l →
      s.lsu.active.get c = some p →
      ∃ t : State, exec (.statusRecord c bytes) s = .next t ∧
        (∃ m, t.links.get c = some m ∧ m.link = .active (s.now + s.lsu.settings.linkTimeout) ∧
          m.last = some ⟨r, (r.raw : Int) + l.correction, s.now⟩ ∧
          m.seenPos = some ((r.raw : Int) + l.correction) ∧ m.period = true ∧
          m.correction = l.correction ∧ m.driveFault = r.driveFault) ∧
        (∀ h, s.hoists.get c = some h → ∃ h', t.hoists.get c = some h' ∧
          h'.window = (h.window ++ [r.count]).drop (h.window.length + 1 - 8)) ∧
        (∀ k, s.rcu.cranes.get c = some k → ∃ k', t.rcu.cranes.get c = some k' ∧
          k'.motion = some ⟨(r.raw : Int) + l.correction, r.v, r.h, !r.grab.isOpen⟩ ∧
          k'.awaiting = false ∧
          ((t.ports.get c).sending = some (t.record c k'.finalF k'.finalR k'.lower) ∨
            (t.ports.get c).waiting = some (t.record c k'.finalF k'.finalR k'.lower))) ∧
        (∀ q, s.lsu.shadow.get c = some q → r.v = 0 → s.inFlight? c = none →
          t.lsu = { s.lsu with
            active := s.lsu.active.set c (some q), shadow := s.lsu.shadow.set c none }) ∧
        (s.lsu.shadow.get c = none ∨ r.v ≠ 0 ∨ s.inFlight? c ≠ none → t.lsu = s.lsu) ∧
        (∀ d, d ≠ c → t.hoists.get d = s.hoists.get d ∧ t.tcu.queues.get d = s.tcu.queues.get d ∧
          (t.links.get d).map (·.last) = (s.links.get d).map (·.last)) ∧
        t.tcu.halts = s.tcu.halts ∧ t.tcu.detached = s.tcu.detached ∧ t.dio.lines = s.dio.lines ∧
        t.dio.inputs = s.dio.inputs ∧ t.dio.outputs = s.dio.outputs ∧ t.fnu.masks = s.fnu.masks ∧
        t.hlu = s.hlu ∧ t.now = s.now ∧ t.pending = s.pending)

/-- The judging of a record (R88): its steps in their order. The link becomes ACTIVE, with a CRANE-LINK notice
where it was not (R91, R93); a waiting set is taken from a standing crane without a task in flight (R4); a
position jump (R96) costs a referenced crane its reference and holds its task; the pair conflict of neighbours
(R97); the counting toward overspeed against every class sent within the reaction time (R98, R99); the drive
fault (R100); the freeze conditions of the hoist, and the freezing of its result at an onset (R113, R114). The
task unit acts on the record and then considers dispatch (R60, R62). The collision unit takes the record's
values, the load class and the reference mark, sets the LIVE claim, evaluates the crane, then its neighbours, or
after a change of its link every other crane of its runway, and the answer carries what the crane's own
evaluation gave (R124, R135, R136, R138). That the time of a sending is the start of the record on the line is
the model's inference (log 34), and a repeated REFERENCE_LOST hold is told again by its choice (log 21). The
bytes that the command carries (logs 32 and 37), and the order of the condition reports and the WEIGH-FROZEN
notice after them (log 31), are its choices too. -/
def Obligations.RecordsAreJudged : Prop :=
  (∀ (s : State) (c : CraneId) (bytes : List Byte) (r : StatusRec) (l : CraneLink),
    (s.feedPort c bytes).good = some r → s.lsu.stage ≠ .config → s.links.get c = some l →
    let s1 := s.modPort c fun p => p.hear (s.feedPort c bytes)
    let x := (r.raw : Int) + l.correction
    let s2 := ((s1.linkArrive c l).swapArrive c r.v).jumpCheck c l x
    let s3 := s2.judgeOverspeed c l r.v (if l.period then l.last.map (·.record.v) else none)
    let s4 := s3.modLink c fun m =>
      { m with last := some ⟨r, x, s.now⟩, seenPos := some x, period := true }
    let s5 := ((s4.testPairs c).judgeDrive c l.driveFault r.driveFault).weighArrive c r
    exec (.statusRecord c bytes) s = .next
      ((s5.taskArrive c r x (s5.weighResult c)).collisionArrive c r x (!l.link.isActive))) ∧
  (∀ (s : State) (c : CraneId) (l : CraneLink), s.links.get c = some l →
    let up : State :=
      { s with
        links := s.links.set c
          (some { l with link := .active (s.now + s.lsu.settings.linkTimeout) }) }
    (∀ d, l.link = .active d → l.link.isActive = true ∧ s.linkArrive c l = up) ∧
    (l.link = .silent → l.link.isActive = false ∧
      s.linkArrive c l = { up with fnu := s.fnu.offer (.craneLink c true) }) ∧
    (l.link = .lost → l.link.isActive = false ∧
      s.linkArrive c l = (up.endCond (.crane .linkLost c)).notify (.craneLink c true))) ∧
  (∀ (s : State) (c : CraneId) (v : Int),
    (∀ q, s.lsu.shadow.get c = some q → v = 0 → s.inFlight? c = none → s.swapArrive c v =
      { s with
        lsu := { s.lsu with
          active := s.lsu.active.set c (some q), shadow := s.lsu.shadow.set c none }
        fnu := s.fnu.offer (.craneParamsApplied c) }) ∧
    (s.lsu.shadow.get c = none ∨ v ≠ 0 ∨ s.inFlight? c ≠ none → s.swapArrive c v = s)) ∧
  (∀ (s : State) (c : CraneId) (l : CraneLink) (is : Bool), s.links.get c = some l →
    s.judgeDrive c l.driveFault is =
      ({ s with links := s.links.set c (some { l with driveFault := is }) } : State).report
        (.crane .driveFault c) l.driveFault is) ∧
  (∀ (s : State) (c : CraneId) (r : StatusRec) (x : Int) (w : WeighResult),
    s.taskArrive c r x w = (s.taskActs c r x w).dispatch c) ∧
  (∀ (s : State) (c : CraneId) (h : Hoist), s.hoists.get c = some h → s.weighResult c = h.result) ∧
  (∀ (s : State) (c : CraneId) (r : StatusRec) (x : Int) (changed : Bool) (p : ParamSet) (k : RcuCrane)
    (l : CraneLink) (h : Hoist) (load : LoadClass),
    s.lsu.active.get c = some p → s.rcu.cranes.get c = some k → s.links.get c = some l →
    s.hoists.get c = some h → h.loadClass = some load →
    let swing : Nat := match load with | .empty => 0 | .light => 300 | .medium => 550 | .heavy => 800
    let m : Motion := ⟨x, r.v, r.h, !r.grab.isOpen⟩
    let k' : RcuCrane :=
      { k with
        motion := some m, load := some load, seenRef := l.referenced, awaiting := false
        claim := liveClaim p m swing }
    let holding (q : RcuCrane) : State :=
      { s with rcu := { s.rcu with cranes := s.rcu.cranes.set c (some q) } }
    let e := (holding k').evaluated c k'
    let others : List CraneId :=
      if changed then (s.cranesOn p.runway).filter fun d => d != c
      else (s.below c).toList ++ (s.above c).toList
    let told := others.foldl State.evaluate (holding e)
    (1 ≤ p.order → c ∉ others) ∧
    (c ∉ others → s.collisionArrive c r x changed =
      told.sendRecord c (told.record c e.finalF e.finalR e.lower))) ∧
  (∀ (s : State) (c : CraneId) (l : CraneLink) (x : Int),
    (l.period = false ∨ l.last = none → s.jumpCheck c l x = s) ∧
    (∀ q, l.period = true → l.last = some q →
      ((x - q.corrected).natAbs ≤ s.lsu.settings.jumpLimit → s.jumpCheck c l x = s) ∧
      (s.lsu.settings.jumpLimit < (x - q.corrected).natAbs →
        let raised := s.raise (.crane .positionJump c)
        let lost := raised.modLink c fun m => { m with referenced := false }
        (l.referenced = false → s.jumpCheck c l x = raised) ∧
        (l.referenced = true → s.inFlight? c = none → s.jumpCheck c l x = lost.testPairs c) ∧
        (∀ t, l.referenced = true → s.inFlight? c = some t →
          (t.hold = some .linkLost → s.jumpCheck c l x = lost.testPairs c) ∧
          (t.hold ≠ some .linkLost → s.jumpCheck c l x =
            (lost.advance c
              { t with
                hold := some .referenceLost, deadline := none, fresh := false
                offered := none }).testPairs c))))) ∧
  (∀ (s : State) (i j : CraneId) (a b : CraneLink) (p q : ParamSet), s.links.get i = some a →
    s.links.get j = some b → s.lsu.active.get i = some p → s.lsu.active.get j = some q →
    (s.pairConflict i j = true ↔ a.referenced = true ∧ b.referenced = true ∧
      ∃ y z, a.last = some y ∧ b.last = some z ∧
        z.corrected - (q.rear : Int) ≤ y.corrected + (p.front : Int))) ∧
  (∀ (s : State) (c : CraneId),
    let t := s.testPairs c
    (∀ l, s.links.get c = some l → ∃ m, t.links.get c = some m ∧
      m.pairAbove = (match s.above c with | some j => s.pairConflict c j | none => false)) ∧
    (∀ b l, s.below c = some b → s.links.get b = some l → ∃ m, t.links.get b = some m ∧
      m.pairAbove = (match s.above b with | some j => s.pairConflict b j | none => false)) ∧
    (∀ k, s.orderConflict k = false → t.orderConflict k = true →
      t.fnu.isSet (.crane .orderConflict k) = true)) ∧
  (∀ (s : State) (c : CraneId) (p : ParamSet) (forward : Bool),
    let class_ (f r : Machine.Class) : Nat := p.speed (if forward then f else r)
    let bound : Nat := s.compareSpeed c p forward
    let port := s.ports.get c
    class_ port.lastSent.fwd port.lastSent.rev ≤ bound ∧
    (∀ e ∈ port.sentLog, s.now ≤ e.time + p.react → class_ e.fwd e.rev ≤ bound) ∧
    (bound = class_ port.lastSent.fwd port.lastSent.rev ∨
      ∃ e ∈ port.sentLog, s.now ≤ e.time + p.react ∧ bound = class_ e.fwd e.rev)) ∧
  (∀ (s : State) (c : CraneId) (l : CraneLink) (p : ParamSet) (v : Int) (before : Option Int),
    s.lsu.active.get c = some p →
    let counts : Prop := v ≠ 0 ∧ ∃ u, before = some u ∧ u.natAbs ≤ v.natAbs ∧
      11 * s.compareSpeed c p (decide (0 < v)) < 10 * v.natAbs
    let becomes (count : Nat) (live : Bool) : Prop :=
      s.judgeOverspeed c l v before =
        (s.modLink c fun m => { m with overCount := count, overspeed := live }).report
          (.crane .overspeed c) l.overspeed live
    (v = 0 → becomes 0 false) ∧ (v ≠ 0 → ¬ counts → becomes 0 l.overspeed) ∧
    (counts →
      becomes (min 10 (l.overCount + 1))
        (l.overspeed || decide (s.lsu.settings.overspeedRecords ≤ min 10 (l.overCount + 1))))) ∧
  (∀ (h : Hoist) (gain capacity : Nat) (grabOpen : Bool),
    let now := h.judge gain capacity grabOpen
    let kg := filteredOf (h.window.map (weightOf h.z gain))
    let judged : Prop := h.window.length = 8 ∧ h.state ≠ .unzeroed ∧ grabOpen = false
    (now.saturated = true ↔ ∃ n ∈ h.window, n = 8388607 ∨ n = -8388608) ∧
    (now.overload = true ↔ judged ∧ (capacity : Int) * 110 < kg * 100) ∧
    (now.underload = true ↔ judged ∧ kg < -250)) ∧
  (∀ (s : State) (c : CraneId) (p : ParamSet) (grabOpen : Bool) (h : Hoist), s.hoists.get c = some h →
    let now := h.judge p.gain p.capacity grabOpen
    let begins : FreezeConds :=
      ⟨now.saturated && !h.conds.saturated, now.overload && !h.conds.overload,
        now.underload && !h.conds.underload⟩
    let w := h.form p.gain s.lsu.settings.stabilityBand grabOpen
    let cold : Frozen := ⟨begins, w.filtered, w.recorded, w.steady, w.count, h.state⟩
    let told (f : Option Frozen) : State :=
      ({ s with
        hoists := s.hoists.set c (some { h with conds := now, frozen := f }) } : State).reportConds
          c h.conds now
    (begins ≠ ⟨false, false, false⟩ → h.frozen = none →
      s.weighFreeze c p grabOpen = (told (some cold)).notify (.weighFrozen c cold)) ∧
    (begins = ⟨false, false, false⟩ ∨ h.frozen ≠ none →
      s.weighFreeze c p grabOpen = told h.frozen)) ∧
  (∀ (s : State) (c : CraneId) (was now : FreezeConds), s.reportConds c was now =
    ((s.report (.crane .cellSaturated c) was.saturated now.saturated).report
      (.crane .overload c) was.overload now.overload).report
        (.crane .underload c) was.underload now.underload)

/-- LINK_WATCHDOG_EXPIRY (R92, R125, R104, R72): the link is LOST, the mark and the window go, LINK_LOST is
raised, the task in flight is HELD, the claim is frozen at the last position, and a CRANE-LINK notice comes
last. A watchdog that does not run does not expire. What an expiry does to the clock, and that one without
its watchdog changes nothing, are the model's choices, log 2. -/
def Obligations.LinkIsLost : Prop :=
  (∀ (s : State) (c : CraneId), (∀ l d, s.links.get c = some l → l.link ≠ .active d) →
    exec (.linkWatchdogExpiry c) s = .next s) ∧
  (∀ (s : State) (c : CraneId) (l : CraneLink) (d : Nat) (p : ParamSet), s.links.get c = some l →
    l.link = .active d → s.lsu.active.get c = some p →
    ∃ t : State, exec (.linkWatchdogExpiry c) s = .next t ∧ t.now = max s.now d ∧
      (∃ m, t.links.get c = some m ∧ m.link = .lost ∧ m.period = false ∧ m.referenced = false ∧
        m.overCount = 0 ∧ m.overspeed = l.overspeed ∧ m.last = l.last ∧
        m.correction = l.correction ∧ m.driveFault = l.driveFault) ∧
      (t.fnu.isSet (.crane .linkLost c) = true ∧ (t.fnu.flag (.crane .linkLost c)).live = true) ∧
      (∀ h, s.hoists.get c = some h → ∃ h', t.hoists.get c = some h' ∧ h'.window = [] ∧
        h'.conds = ⟨false, false, false⟩ ∧ h'.z = h.z ∧ h'.state = h.state ∧ h'.counter = h.counter ∧
        h'.frozen = h.frozen) ∧
      (∀ x, s.inFlight? c = some x → t.inFlight? c = some
        { x with hold := some .linkLost, deadline := none, fresh := false, offered := none }) ∧
      (∀ k m, s.rcu.cranes.get c = some k → k.motion = some m → ∃ k', t.rcu.cranes.get c = some k' ∧
        k'.claim = .frozen (m.p + (p.front : Int) + 800 + (p.dFull : Int))
          (m.p - (p.rear : Int) - 800 - (p.dFull : Int)) ∧
        (c ∈ s.cranesOn p.runway → k'.finalF = .stop ∧ k'.finalR = .stop ∧ k'.runEnable = false)) ∧
      (∃ u, t.fnu = Fnu.offer u (.craneLink c false)) ∧
      (∀ e, e ≠ c → t.hoists.get e = s.hoists.get e ∧ t.tcu.queues.get e = s.tcu.queues.get e) ∧
      t.lsu = s.lsu ∧ t.smu = s.smu ∧ t.bcu = s.bcu ∧ t.hlu = s.hlu ∧ t.dio.lines = s.dio.lines ∧
      t.dio.inputs = s.dio.inputs ∧ t.dio.outputs = s.dio.outputs ∧ t.pending = s.pending)

/-- The content of a command record (R89, R116), its start on an idle line or its wait in place of any that
waits, and COMMAND_RECORD_SENT (R187, R90): the record on the line ends and the one waiting starts. A record
that starts joins the log of classes sent, which looks back 2,000 ms (R98). That a waiting record becomes the
last sent one when it starts (log 26), and that its classes count as sent from then (log 34), are the model's
inferences; that a COMMAND_RECORD_SENT on a port that sends nothing changes nothing is its choice (log 53). -/
def Obligations.CommandRecordsOnAPort : Prop :=
  (∀ (s : State) (c : CraneId) (fwd rev : Machine.Class) (lower : Bool) (p : ParamSet) (h : Hoist),
    s.lsu.active.get c = some p → s.hoists.get c = some h →
    let speed (k : Machine.Class) : Nat :=
      match k with | .stop => 0 | .creep => p.vCreep | .slow => p.vSlow | .full => p.vFull
    s.record c fwd rev lower =
      { fwd := fwd, rev := rev, fwdSpeed := speed fwd, revSpeed := speed rev, lower := lower
        raise := !h.conds.overload, order := (s.orderOf c).1, task := (s.orderOf c).2.1
        x := (s.orderOf c).2.2.1.toNat, y := (s.orderOf c).2.2.2 }) ∧
  (∀ (s : State) (c : CraneId) (r : CommandRec),
    ((s.ports.get c).sending = none → s.sendRecord c r =
      { s with
        ports := s.ports.set c
          { s.ports.get c with
            sending := some r, lastSent := r
            sentLog := logSent s.now r (s.ports.get c).sentLog } }) ∧
    (∀ q, (s.ports.get c).sending = some q → s.sendRecord c r =
      { s with ports := s.ports.set c { s.ports.get c with waiting := some r } })) ∧
  (∀ (s : State) (c : CraneId),
    ((s.ports.get c).sending = none → exec (.commandRecordSent c) s = .next s) ∧
    (∀ q, (s.ports.get c).sending = some q → (s.ports.get c).waiting = none →
      exec (.commandRecordSent c) s = .next
        { s with ports := s.ports.set c { s.ports.get c with sending := none } }) ∧
    (∀ q r, (s.ports.get c).sending = some q → (s.ports.get c).waiting = some r →
      exec (.commandRecordSent c) s = .next
        { s with
          ports := s.ports.set c
            { s.ports.get c with
              sending := some r, lastSent := r, waiting := none
              sentLog := logSent s.now r (s.ports.get c).sentLog } })) ∧
  (∀ (now : Nat) (r : CommandRec) (log : List SentClass),
    logSent now r log = ⟨now, r.fwd, r.rev⟩ :: log.filter fun e => decide (now ≤ e.time + 2000))

/-! ## Weighing -/

/-- Weights and results (R104 to R107, R117, R118): the rounding of a weight, the window of the last eight
samples, the filtered and recorded weight of a full window, steady, valid and stable, the load class, and
verification against a declared weight. -/
def Obligations.WeighingArithmetic : Prop :=
  (∀ (n : Int) (d : Nat), 0 < d →
    2 * (n - roundHalfAway n d * (d : Int)).natAbs ≤ d ∧
    (2 * (n - roundHalfAway n d * (d : Int)).natAbs = d →
      n.natAbs < (roundHalfAway n d).natAbs * d)) ∧
  (∀ (z : Int) (gain : Nat) (r : Int), weightOf z gain r = roundHalfAway ((r - z) * (gain : Int)) 1000000) ∧
  (∀ (w : List Int) (r : Int), (w.length < 8 → joinWindow w r = w ++ [r]) ∧
    (w.length = 8 → joinWindow w r = w.tail ++ [r])) ∧
  (∀ (h : Hoist) (gain band : Nat) (grabOpen : Bool),
    let w := h.form gain band grabOpen
    let ws := h.window.map (weightOf h.z gain)
    w.count = h.window.length ∧
    (h.window.length ≠ 8 →
      w.filtered = none ∧ w.recorded = none ∧ w.steady = false ∧ w.valid = false ∧ w.stable = false) ∧
    (h.window.length = 8 →
      w.filtered = some (roundHalfAway ws.sum 8) ∧
      w.recorded = some (10 * roundHalfAway (roundHalfAway ws.sum 8) 10) ∧
      (w.steady = true ↔ ∀ a ∈ ws, ∀ b ∈ ws, a - b ≤ (band : Int)) ∧
      (w.valid = true ↔ (h.state = .zeroed ∨ h.state = .due) ∧ h.frozen = none) ∧
      (w.stable = true ↔ w.valid = true ∧ w.steady = true ∧ grabOpen = false))) ∧
  (∀ (grabOpen : Bool) (w : WeighResult) (kg : Int),
    (grabOpen = true → loadClassOf grabOpen w = .empty) ∧
    (grabOpen = false → w.valid = false → loadClassOf grabOpen w = .heavy) ∧
    (grabOpen = false → w.valid = true → w.filtered = some kg →
      (kg < 10000 → loadClassOf grabOpen w = .light) ∧
      (10000 ≤ kg → kg < 25000 → loadClassOf grabOpen w = .medium) ∧
      (25000 ≤ kg → loadClassOf grabOpen w = .heavy))) ∧
  (∀ (tolerance declared : Nat) (w : Int),
    (verifies tolerance w declared = true ↔
      (w - (declared : Int)).natAbs ≤ max (declared * tolerance / 1000) 100))

/-- ZERO (R109, R110) and WEIGH-RESET (R115): an accepted zero takes the mean of the raw counts, is ZEROED
with its counter loaded, and is told by a ZERO-TAKEN notice; the refusals in their order. WEIGH-RESET
empties the window and drops the frozen result, unless a freeze condition is live. Nothing else changes.
The result that WEIGH-QUERY then gives is the model's inference, log 30. The re-zero counter (R111) goes down by
1 in ZEROED at each completed task, to DUE at 0, and stays in every other state. The automatic zero (R112), step
3 of an arrival (R107): in DUE, with the grab OPEN, a full and steady window and nothing frozen, a filtered
weight within the band takes the zero with cause AUTO, one outside it makes the hoist STALE and raises
ZERO_DRIFT; else nothing happens. -/
def Obligations.ZeroAndWeighReset : Prop :=
  (∀ (tag : Byte) (c : CraneId) (force : Bool) (h : Hoist) (p : ParamSet) (s s0 : State),
    s.Admits ⟨tag, .zero (.fields ⟨numVal c, .known force⟩)⟩ committed s0 →
    s0.hoists.get c = some h → s0.lsu.active.get c = some p →
    let w := h.form p.gain s0.lsu.settings.stabilityBand true
    let kg := w.filtered.getD 0
    let refuse (code : RefusalCode) (detail : Nat) : Prop :=
      exec (.zero tag (.fields ⟨numVal c, .known force⟩)) s = .next
        (s0.nacked tag ReqKind.zero.code code detail)
    let z : ZeroTaken :=
      { crane := c, z := roundHalfAway h.window.sum 8, cause := if force then .forced else .manual
        before := h.state
        loaded := if s0.lsu.settings.rezeroCount = 0 then 256 else s0.lsu.settings.rezeroCount }
    let zeroed : Hoist := { h with z := z.z, state := .zeroed, counter := z.loaded }
    (s0.grabOpen c = false → refuse .stateConflict (numVal c)) ∧
    (s0.grabOpen c = true →
      (∀ f, h.frozen = some f → refuse .conditionActive f.cause.bits) ∧
      (h.frozen = none →
        (w.steady = false → refuse .notSteady h.window.length) ∧
        (w.steady = true →
          (force = false → h.state ≠ .unzeroed → p.capacity * 2 / 100 < kg.natAbs →
            refuse .zeroOutOfRange (min kg.natAbs 65535)) ∧
          (force = true ∨ h.state = .unzeroed ∨ kg.natAbs ≤ p.capacity * 2 / 100 →
            exec (.zero tag (.fields ⟨numVal c, .known force⟩)) s = .next
              (({ s0 with
                  hoists := s0.hoists.set c (some
                    { zeroed with result := zeroed.form p.gain s0.lsu.settings.stabilityBand true })
                  fnu := s0.fnu.offer (.zeroTaken z) } : State).acked tag .zero (.zeroTaken z))))))) ∧
  (∀ (tag : Byte) (c : CraneId) (h : Hoist) (s s0 : State),
    s.Admits ⟨tag, .weighReset (.fields (numVal c))⟩ committed s0 → s0.hoists.get c = some h →
    (h.conds ≠ ⟨false, false, false⟩ → exec (.weighReset tag (.fields (numVal c))) s = .next
      (s0.nacked tag ReqKind.weighReset.code .conditionActive h.conds.bits)) ∧
    (h.conds = ⟨false, false, false⟩ → exec (.weighReset tag (.fields (numVal c))) s = .next
      (({ s0 with
          hoists := s0.hoists.set c (some
            { h with window := [], result := .absent, frozen := none }) } : State).acked tag
        .weighReset (.weighReset c h.frozen.isSome)))) ∧
  (∀ (s : State) (c : CraneId), s.grabOpen c = true ↔
    ∃ l q, s.links.get c = some l ∧ l.last = some q ∧ q.record.grab = .opened) ∧
  (∀ h : Hoist,
    (h.state = .zeroed → h.countDown =
      { h with counter := h.counter - 1, state := if h.counter ≤ 1 then .due else .zeroed }) ∧
    (h.state ≠ .zeroed → h.countDown = h)) ∧
  (∀ (s : State) (c : CraneId) (p : ParamSet) (grabOpen : Bool) (h : Hoist), s.hoists.get c = some h →
    let ws := h.window.map (weightOf h.z p.gain)
    let attempts : Prop :=
      h.state = .due ∧ grabOpen = true ∧ h.window.length = 8 ∧
        (∀ a ∈ ws, ∀ b ∈ ws, a - b ≤ (s.lsu.settings.stabilityBand : Int)) ∧ h.frozen = none
    let near : Prop := (roundHalfAway ws.sum 8).natAbs ≤ p.capacity * 2 / 100
    let z : ZeroTaken :=
      { crane := c, z := roundHalfAway h.window.sum 8, cause := .auto, before := .due
        loaded := if s.lsu.settings.rezeroCount = 0 then 256 else s.lsu.settings.rezeroCount }
    (¬ attempts → s.autoZero c p grabOpen = s) ∧
    (attempts → near → s.autoZero c p grabOpen =
      { s with
        hoists := s.hoists.set c (some { h with z := z.z, state := .zeroed, counter := z.loaded })
        fnu := s.fnu.offer (.zeroTaken z) }) ∧
    (attempts → ¬ near → s.autoZero c p grabOpen =
      ({ s with hoists := s.hoists.set c (some { h with state := .stale }) } : State).raise
        (.crane .zeroDrift c))) ∧
  (∀ (s : State) (c : CraneId) (p : ParamSet) (r : StatusRec), s.lsu.active.get c = some p →
    let joined := s.modHoist c fun h =>
      { h with window := (h.window ++ [r.count]).drop (h.window.length + 1 - 8) }
    let zeroed := (joined.weighFreeze c p r.grab.isOpen).autoZero c p r.grab.isOpen
    s.weighArrive c r = zeroed.modHoist c fun h =>
      let w := h.form p.gain s.lsu.settings.stabilityBand r.grab.isOpen
      { h with result := w, loadClass := some (loadClassOf r.grab.isOpen w) })

/-! ## Collision -/

/-- The stopping distance (R123), with its rounding; the thresholds it gives to the three classes rise with
them; and the LIVE claim (R124), the test of a zone (R126) and the computed class (R129). -/
def Obligations.StoppingDistanceAndClaims : Prop :=
  (∀ (p : ParamSet) (v : Nat), 1 ≤ p.decel → ∃ q,
    p.stopDist v = v * p.react / 1000 + q ∧ v * v ≤ 2 * p.decel * q ∧
      (0 < v → 2 * p.decel * (q - 1) < v * v) ∧ (v = 0 → q = 0)) ∧
  (∀ p : ParamSet, p.ordered → p.dCreep ≤ p.dSlow ∧ p.dSlow ≤ p.dFull) ∧
  (∀ (p : ParamSet) (m : Motion) (swing : Nat), liveClaim p m swing =
    .live
      (m.p + (p.front : Int) + (swing : Int) + (if 0 < m.v then (p.stopDist m.v.natAbs : Int) else 0))
      (m.p - (p.rear : Int) - (swing : Int) - (if m.v < 0 then (p.stopDist m.v.natAbs : Int) else 0))) ∧
  (∀ (passHeight : Nat) (m : Motion) (z : Zone) (g : BayGeom),
    (obstructs passHeight m z = true ↔
      m.h < passHeight ∧ z.closed = true ∨ m.closed = true ∧ z.manned = true) ∧
    (insideZone m g = true ↔ (g.xLo : Int) ≤ m.p ∧ m.p ≤ (g.xHi : Int))) ∧
  (∀ (p : ParamSet) (a : Nat), p.ordered →
    (p.classOf a = .full ↔ p.dFull ≤ a) ∧ (p.classOf a = .slow ↔ p.dSlow ≤ a ∧ a < p.dFull) ∧
    (p.classOf a = .creep ↔ p.dCreep ≤ a ∧ a < p.dSlow) ∧ (p.classOf a = .stop ↔ a < p.dCreep))

/-- What an evaluation gives a crane (R127 to R133): available distances and computed classes from its own
position, swing and runway (Table 6-6), or for a crane whose link is not ACTIVE those it had, which is the
model's choice (log 22), with STOP both ways; each cap of Table 7-5 is in force exactly under its condition, and
caps at STOP or CREEP as the table has it; the final class is the lowest of the computed class and the caps in
force; lower allowed and RUN_ENABLE by their conditions; and no class whose stopping distance passes the
available distance. Claim, position and marks stay. The evaluation of a runway is that of each of its cranes
(R136), and of the yard that of both runways (R139). That the list of caps has the order of Table 7-5 is the
model's choice, log 54. -/
def Obligations.EvaluationOfACrane : Prop :=
  (∀ (s : State) (c : CraneId) (k : RcuCrane),
    let e := s.evaluated c k
    (Cap.stageConfig ∈ e.caps ↔ s.lsu.stage = .config) ∧
    (Cap.linkNotActive ∈ e.caps ↔ ∀ l d, s.links.get c = some l → l.link ≠ .active d) ∧
    (Cap.awaiting ∈ e.caps ↔ k.awaiting = true) ∧
    (Cap.estop ∈ e.caps ↔ ∃ p v, s.lsu.active.get c = some p ∧ s.rcu.views.get p.runway = some v ∧
      v.estop = true) ∧
    (Cap.halt ∈ e.caps ↔ s.tcu.halts.get c ≠ none) ∧
    (Cap.orderConflict ∈ e.caps ↔ (∃ l, s.links.get c = some l ∧ l.pairAbove = true) ∨
      ∃ b l, s.below c = some b ∧ s.links.get b = some l ∧ l.pairAbove = true) ∧
    (Cap.overspeed ∈ e.caps ↔ (s.fnu.flag (.crane .overspeed c)).count ≠ none) ∧
    (Cap.driveFault ∈ e.caps ↔ ∃ l, s.links.get c = some l ∧ l.driveFault = true) ∧
    (Cap.stageInventory ∈ e.caps ↔ s.lsu.stage = .inventory) ∧
    (Cap.unreferenced ∈ e.caps ↔ k.seenRef = false) ∧
    (Cap.insideZone ∈ e.caps ↔ ∃ m, k.motion = some m ∧ ∃ z ∈ s.craneZones c,
      insideZone m z.2.1 = true ∧ obstructs s.lsu.settings.passHeight m z.2.2 = true) ∧
    e.caps.Sublist [.stageConfig, .linkNotActive, .awaiting, .estop, .halt, .orderConflict, .overspeed,
      .driveFault, .stageInventory, .unreferenced, .insideZone] ∧
    (∀ x : Cap, x.class =
      if x = .stageInventory ∨ x = .unreferenced ∨ x = .insideZone then .creep else .stop) ∧
    (e.finalF.rank ≤ e.compF.rank ∧ e.finalR.rank ≤ e.compR.rank) ∧
    (∀ x ∈ e.caps, e.finalF.rank ≤ x.class.rank ∧ e.finalR.rank ≤ x.class.rank) ∧
    (e.finalF = e.compF ∨ ∃ x ∈ e.caps, e.finalF = x.class) ∧
    (e.finalR = e.compR ∨ ∃ x ∈ e.caps, e.finalR = x.class) ∧
    (e.lower = true ↔
      s.linkActive c = true ∧ s.tcu.halts.get c = none ∧
      (∃ t, s.inFlight? c = some t ∧ t.hold = none ∧ (t.phase = .picking ∨ t.phase = .placing)) ∧
      ∃ m, k.motion = some m ∧
        ∀ z ∈ s.craneZones c, ¬ (insideZone m z.2.1 = true ∧ z.2.2.closed = true)) ∧
    (e.runEnable = true ↔
      s.lsu.stage ≠ .config ∧ s.linkActive c = true ∧ k.awaiting = false ∧ s.estopOf c = false ∧
      s.tcu.halts.get c ≠ some .hard ∧ s.fnu.isSet (.crane .overspeed c) = false ∧
      s.orderConflict c = false) ∧
    (∀ p m, s.lsu.active.get c = some p → k.motion = some m → s.linkActive c = true → p.ordered →
      p.stopDist (p.speed e.finalF) ≤ e.availF ∧ p.stopDist (p.speed e.finalR) ≤ e.availR) ∧
    (e.motion = k.motion ∧ e.load = k.load ∧ e.seenRef = k.seenRef ∧ e.claim = k.claim ∧
      e.awaiting = k.awaiting)) ∧
  (∀ (s : State) (c : CraneId) (k : RcuCrane) (l : CraneLink) (d : Nat) (p : ParamSet) (m : Motion)
    (load : LoadClass) (v : RunwayView), s.links.get c = some l → l.link = .active d →
    s.lsu.active.get c = some p → k.motion = some m → k.load = some load →
    s.rcu.views.get p.runway = some v →
    let e := s.evaluated c k
    let swing : Nat := match load with | .empty => 0 | .light => 300 | .medium => 550 | .heavy => 800
    e.availF = s.availForward c p m swing v.length ∧ e.availR = s.availReverse c p m swing ∧
    e.compF = p.classOf e.availF ∧ e.compR = p.classOf e.availR) ∧
  (∀ (s : State) (c : CraneId) (k : RcuCrane), (∀ l d, s.links.get c = some l → l.link ≠ .active d) →
    let e := s.evaluated c k
    (e.availF = k.availF ∧ e.availR = k.availR ∧ e.compF = k.compF ∧ e.compR = k.compR) ∧
    e.finalF = .stop ∧ e.finalR = .stop ∧ e.lower = false ∧ e.runEnable = false) ∧
  (∀ (s : State) (c : CraneId),
    (s.linkActive c = true ↔ ∃ l d, s.links.get c = some l ∧ l.link = .active d) ∧
    (s.estopOf c = true ↔ ∃ p v, s.lsu.active.get c = some p ∧ s.rcu.views.get p.runway = some v ∧
      v.estop = true) ∧
    (s.orderConflict c = true ↔ (∃ l, s.links.get c = some l ∧ l.pairAbove = true) ∨
      ∃ b l, s.below c = some b ∧ s.links.get b = some l ∧ l.pairAbove = true)) ∧
  (∀ (s : State) (r : RunwayId),
    s.evaluateRunway r = (s.cranesOn r).foldl State.evaluate s ∧
    s.evaluateYard = (s.evaluateRunway .a).evaluateRunway .b) ∧
  (∀ (s : State) (r : RunwayId) (c : CraneId),
    (c ∈ s.cranesOn r → ∃ l p, s.links.get c = some l ∧ s.lsu.active.get c = some p ∧ p.runway = r) ∧
    (∀ l p, s.links.get c = some l → s.lsu.active.get c = some p → p.runway = r → 1 ≤ p.order →
      p.order ≤ 3 →
      (∀ d q, s.lsu.active.get d = some q → q.runway = r → q.order = p.order → d = c) →
      c ∈ s.cranesOn r))

/-- The available distances of a crane whose link is ACTIVE (R127, R128, Table 7-4): the least, floored at 0, of
the terms of the runway end, of the neighbour's claim, and of the obstructing zones ahead; 0 toward a neighbour
whose claim is NONE. The neighbours are the cranes of the same runway with the next higher and the next lower
order index, and the zones those of the defined bays on the runway (R122). -/
def Obligations.AvailableDistances : Prop :=
  (∀ (s : State) (c : CraneId) (p : ParamSet) (m : Motion) (swing length : Nat),
    let lead := m.p + (p.front : Int) + (swing : Int)
    let tail := m.p - (p.rear : Int) - (swing : Int)
    let gap := (s.lsu.settings.gap : Int)
    let endF := (length : Int) - lead - gap
    let endR := tail - gap
    let ahead (z : BayId × BayGeom × Zone) (x : Int) : Prop :=
      z ∈ s.zonesOn p.runway ∧ obstructs s.lsu.settings.passHeight m z.2.2 = true ∧
        m.p < (z.2.1.xLo : Int) ∧ x = (z.2.1.xLo : Int) - m.p - (swing : Int) - gap
    let behind (z : BayId × BayGeom × Zone) (x : Int) : Prop :=
      z ∈ s.zonesOn p.runway ∧ obstructs s.lsu.settings.passHeight m z.2.2 = true ∧
        (z.2.1.xHi : Int) < m.p ∧ x = m.p - (z.2.1.xHi : Int) - (swing : Int) - gap
    let least (d : Nat) (term : Int → Prop) : Prop :=
      (∃ x, term x ∧ (d : Int) = max 0 x) ∧ ∀ x, term x → (d : Int) ≤ max 0 x
    let f := s.availForward c p m swing length
    let r := s.availReverse c p m swing
    (s.above c = none → least f fun x => x = endF ∨ ∃ z, ahead z x) ∧
    (∀ j, s.above c = some j →
      (s.claim j = .none → f = 0) ∧
      (∀ a b, s.claim j = .live a b ∨ s.claim j = .frozen a b →
        least f fun x => x = endF ∨ x = b - lead - gap ∨ ∃ z, ahead z x)) ∧
    (s.below c = none → least r fun x => x = endR ∨ ∃ z, behind z x) ∧
    (∀ j, s.below c = some j →
      (s.claim j = .none → r = 0) ∧
      (∀ a b, s.claim j = .live a b ∨ s.claim j = .frozen a b →
        least r fun x => x = endR ∨ x = tail - a - gap ∨ ∃ z, behind z x))) ∧
  (∀ (s : State) (c : CraneId) (p : ParamSet), s.lsu.active.get c = some p →
    let stands (d : CraneId) (order : Nat) : Prop :=
      ∃ l q, s.links.get d = some l ∧ s.lsu.active.get d = some q ∧ q.runway = p.runway ∧ q.order = order
    (∀ d, s.above c = some d → stands d (p.order + 1)) ∧
    (s.above c = none → ∀ d, ¬ stands d (p.order + 1)) ∧
    (∀ n, p.order = n + 1 →
      (∀ d, s.below c = some d → stands d n) ∧ (s.below c = none → ∀ d, ¬ stands d n)) ∧
    s.craneZones c = s.zonesOn p.runway) ∧
  (∀ (s : State) (r : RunwayId) (b : BayId) (g : BayGeom) (z : Zone), (b, g, z) ∈ s.zonesOn r ↔
    s.lsu.bays.get b = some g ∧ s.rcu.zones.get b = some z ∧ g.runway = r) ∧
  (∀ (s : State) (c : CraneId) (k : RcuCrane), s.rcu.cranes.get c = some k → s.claim c = k.claim)

/-- The immediate record (R90, R138): where an evaluation withdraws a class or lower allowed from what was
last sent, or from the record that waits on the port and would go out next (log 26, an inference), and the
link is ACTIVE or LOST, a record is sent at once that carries no more than was last sent; else none is. -/
def Obligations.DowngradesAreSentAtOnce : Prop :=
  ∀ (s : State) (c : CraneId) (k : RcuCrane) (l : CraneLink), s.rcu.cranes.get c = some k →
    s.links.get c = some l →
    let e := s.evaluated c k
    let u : State := { s with rcu := { s.rcu with cranes := s.rcu.cranes.set c (some e) } }
    let last := (s.ports.get c).lastSent
    let from_ (q : CommandRec) : Prop :=
      e.finalF.rank < q.fwd.rank ∨ e.finalR.rank < q.rev.rank ∨ e.lower = false ∧ q.lower = true
    let withdraws : Prop := from_ last ∨ ∃ q, (s.ports.get c).waiting = some q ∧ from_ q
    (withdraws → l.link ≠ .silent → ∃ f r, f.rank = min e.finalF.rank last.fwd.rank ∧
      r.rank = min e.finalR.rank last.rev.rank ∧
      s.evaluate c = u.sendRecord c (u.record c f r (e.lower && last.lower))) ∧
    (¬ withdraws ∨ l.link = .silent → s.evaluate c = u)

/-! ## Bays and load plans -/

/-- TRUCK-ARRIVE, TRUCK-DEPART and TRAIL_EXPIRY (R148, R164, R150): an EMPTY bay takes a trailer and is SECURED
or PRESENT; a bay whose work is done loses its trailer, its plan and the coils on it, and is EMPTY; a bay in
another state refuses. At the end of the trail time a WORKING bay is COMPLETE with a complete plan, else SECURED
or PRESENT, and its intrusion ends, both told. Secure and manned are those of R143, an intrusion that of R151, a
complete plan that of R150. What an expiry does to the clock, and that one without its timer changes nothing
(log 2), and that the ACK of TRUCK-DEPART names the bay beside the count (log 49), are the model's choices. -/
def Obligations.TrailersComeAndGo : Prop :=
  (∀ y : Bay,
     y.secure = (y.live.chocks && !y.live.driver && !y.live.curtain && !y.latch) ∧ y.closed = !y.secure ∧
     y.manned = (y.live.driver || y.live.curtain || y.latch) ∧
     (y.intruded = true ↔ y.state = .working ∧ y.secure = false)) ∧
  (∀ p : Plan,
     (p.head.kind = .load → (p.complete = true ↔ p.closed = true ∨ ∀ e ∈ p.entries, e.status = .placed)) ∧
     (p.head.kind = .unload → (p.complete = true ↔ ∀ e ∈ p.entries, e.status = .removed))) ∧
  (∀ (u : Smu) (b : BayId), (u.deleteBay b).slots = u.slots ∧
     ∀ e, e ∈ (u.deleteBay b).coils ↔ e ∈ u.coils ∧ ∀ n, e.2.location ≠ .cradle b n) ∧
  (∀ (tag : Byte) (b : BayId) (y : Bay) (s s0 : State), s0.bcu.bays.get b = some y →
     y.intrusion = y.intruded →
     let becomes (v : BayState) (smu : Smu) (plan : Option Plan) : State :=
       { s0 with
         smu := smu
         bcu := { s0.bcu with
           bays := s0.bcu.bays.set b (some { y with state := v, plan := plan, intrusion := false }) }
         fnu := s0.fnu.offer (.bayState b y.state v y.secure y.manned) }
     (s.Admits ⟨tag, .truckArrive (.fields (numVal b))⟩ inRun s0 →
       (y.state = .empty → exec (.truckArrive tag (.fields (numVal b))) s = .next
         ((becomes (if y.secure then .secured else .present) s0.smu y.plan).acked tag .truckArrive
           (.bayState b (if y.secure then .secured else .present)))) ∧
       (y.state ≠ .empty → exec (.truckArrive tag (.fields (numVal b))) s = .next
         (s0.nacked tag ReqKind.truckArrive.code .stateConflict 0))) ∧
     (s.Admits ⟨tag, .truckDepart (.fields (numVal b))⟩ inRun s0 →
       (y.state = .complete ∨ (y.state = .present ∨ y.state = .secured) ∧ y.plan = none →
         exec (.truckDepart tag (.fields (numVal b))) s = .next
           ((becomes .empty (s0.smu.deleteBay b) none).acked tag .truckDepart
             (.departed b (s0.smu.coils.length - (s0.smu.deleteBay b).coils.length)))) ∧
       (y.state = .working → exec (.truckDepart tag (.fields (numVal b))) s = .next
         (s0.nacked tag ReqKind.truckDepart.code .conditionActive 0)) ∧
       (y.state = .empty ∨ (y.state = .present ∨ y.state = .secured) ∧ y.plan ≠ none →
         exec (.truckDepart tag (.fields (numVal b))) s = .next
           (s0.nacked tag ReqKind.truckDepart.code .stateConflict 0)))) ∧
  (∀ (s : State) (b : BayId),
     ((∀ y, s.bcu.bays.get b = some y → y.trail = none) → exec (.trailExpiry b) s = .next s) ∧
     (∀ y d, s.bcu.bays.get b = some y → y.trail = some d →
       (y.state ≠ .working → exec (.trailExpiry b) s = .next
         { s with
           now := max s.now d
           bcu := { s.bcu with bays := s.bcu.bays.set b (some { y with trail := none }) } }) ∧
       (y.state = .working → ∃ t : State, exec (.trailExpiry b) s = .next t ∧
         (∃ v, t.bcu.bays.get b = some { y with trail := none, state := v, intrusion := false } ∧
           ((∃ p, y.plan = some p ∧ p.complete = true) → v = .complete) ∧
           ((∀ p, y.plan = some p → p.complete = false) →
             v = if y.secure then .secured else .present) ∧
           t.fnu =
            (let told := s.fnu.offer (.bayState b .working v y.secure y.manned)
             if y.intrusion then told.endCond s.lsu.settings.faultLatch (.bayIntrusion b) else told)) ∧
         (∀ e, e ≠ b → t.bcu.bays.get e = s.bcu.bays.get e) ∧ t.bcu.build = s.bcu.build ∧
         t.now = max s.now d ∧ t.lsu = s.lsu ∧ t.smu = s.smu ∧ t.tcu = s.tcu ∧ t.links = s.links ∧
         t.ports = s.ports ∧ t.hoists = s.hoists ∧ t.rcu = s.rcu ∧ t.dio = s.dio ∧ t.hlu = s.hlu ∧
         t.pending = s.pending)))

/-- BAY-MODE, BAY-CLEAR and BAY-ACK (R144, R145, R147): the curtain mode is set, its latch set or cleared, the
snapshot acknowledged; the conditions are derived again: a change of closed or manned goes to the zone, whose
runway is evaluated, PRESENT and SECURED follow secure, and BAY_INTRUSION follows in WORKING (R143, R148, R151).
The start and end of a task's work at a bay (R149): the bay becomes WORKING; the end of the last one starts the
trail timer. A task works at the bays it references (R54), and an entry changes status where its cradle, coil
and status are those named (Table 8-7). The latch under LATCHED kept LATCHED is left open, log 46. That
BAY-STATE is told before BAY_INTRUSION is raised or ended (log 13), that the work set keeps the order of joining
(log 19), and that the ACK of BAY-ACK names the bay (log 49) are the model's choices. -/
def Obligations.BayRequestsAct : Prop :=
  (∀ (tag : Byte) (b : BayId) (y : Bay) (s s0 : State), s0.bcu.bays.get b = some y →
    let becomes (y' : Bay) : State :=
      { s0 with bcu := { s0.bcu with bays := s0.bcu.bays.set b (some y') } }
    (∀ m, s.Admits ⟨tag, .bayMode (.fields ⟨numVal b, .known m⟩)⟩ inRun s0 →
      ∃ latch : Bool, exec (.bayMode tag (.fields ⟨numVal b, .known m⟩)) s = .next
          (((becomes { y with mode := m, latch := latch }).bayDerived b).acked tag .bayMode
            (.bayMode b m latch)) ∧
        (y.latch = true → latch = true) ∧ (m = .level → latch = y.latch) ∧
        (y.live.curtain = false → latch = y.latch) ∧
        (y.mode = .level → m = .latched → y.live.curtain = true → latch = true)) ∧
    (s.Admits ⟨tag, .bayClear (.fields (numVal b))⟩ inRun s0 →
      (y.live.curtain = true → exec (.bayClear tag (.fields (numVal b))) s = .next
        (s0.nacked tag ReqKind.bayClear.code .conditionActive 0)) ∧
      (y.live.curtain = false → exec (.bayClear tag (.fields (numVal b))) s = .next
        (((becomes { y with latch := false }).bayDerived b).acked tag .bayClear
          (.bayCleared b false (y.live.chocks && !y.live.driver) y.live.driver)))) ∧
    (s.Admits ⟨tag, .bayAck (.fields (numVal b))⟩ inRun s0 →
      (y.live = y.snapshot → exec (.bayAck tag (.fields (numVal b))) s = .next
        ((becomes { y with frozen := false }).acked tag .bayAck (.bayAcked b y.snapshot false))) ∧
      (y.live ≠ y.snapshot → exec (.bayAck tag (.fields (numVal b))) s = .next
        (({ becomes { y with snapshot := y.live, frozen := true } with
            fnu := s0.fnu.offer (.bayInputs b y.live y.latch y.secure y.manned) } : State).acked tag
          .bayAck (.bayAcked b y.live true))))) ∧
  (∀ (s : State) (b : BayId) (y : Bay), s.bcu.bays.get b = some y →
    let t := s.bayDerived b
    let secure := y.live.chocks && !y.live.driver && !y.live.curtain && !y.latch
    let manned := y.live.driver || y.live.curtain || y.latch
    let keeps (v : BayState) (intrusion : Bool) : Prop :=
      t.bcu = { s.bcu with
        bays := s.bcu.bays.set b (some { y with state := v, intrusion := intrusion }) } ∧
      t.dio = s.dio
    (∀ z g, s.rcu.zones.get b = some z → s.lsu.bays.get b = some g →
      (z = ⟨!secure, manned⟩ → t.rcu = s.rcu ∧ t.ports = s.ports) ∧
      (z ≠ ⟨!secure, manned⟩ →
        let e := ({ s with
          rcu := { s.rcu with zones := s.rcu.zones.set b (some ⟨!secure, manned⟩) } } :
            State).evaluateRunway g.runway
        t.rcu = e.rcu ∧ t.ports = e.ports)) ∧
    (y.state = .present → y.intrusion = false →
      (secure = true → keeps .secured false ∧
        t.fnu = s.fnu.offer (.bayState b .present .secured true manned)) ∧
      (secure = false → keeps .present false ∧ t.fnu = s.fnu)) ∧
    (y.state = .secured → y.intrusion = false →
      (secure = true → keeps .secured false ∧ t.fnu = s.fnu) ∧
      (secure = false → keeps .present false ∧
        t.fnu = s.fnu.offer (.bayState b .secured .present false manned))) ∧
    (y.state = .working → keeps .working (!secure) ∧
      t.fnu =
        (if !secure && !y.intrusion then s.fnu.raise (.bayIntrusion b)
        else if secure && y.intrusion then
          s.fnu.endCond s.lsu.settings.faultLatch (.bayIntrusion b)
        else s.fnu)) ∧
    (y.state = .empty ∨ y.state = .complete → keeps y.state y.intrusion ∧ t.fnu = s.fnu) ∧
    t.lsu = s.lsu ∧ t.smu = s.smu ∧ t.tcu = s.tcu ∧ t.links = s.links ∧ t.hoists = s.hoists ∧
    t.hlu = s.hlu ∧ t.now = s.now ∧ t.pending = s.pending) ∧
  (∀ (s : State) (b : BayId) (y : Bay) (id : Nat), s.bcu.bays.get b = some y →
    let becomes (y' : Bay) : State :=
      { s with bcu := { s.bcu with bays := s.bcu.bays.set b (some y') } }
    let joined : Bay := { y with work := y.work ++ [id], trail := none }
    let rest := y.work.filter fun k => k != id
    (id ∈ y.work → s.workStart b id = s) ∧
    (id ∉ y.work →
      (y.state = .present ∨ y.state = .secured → y.intrusion = false →
        s.workStart b id =
          { becomes { joined with state := .working, intrusion := !y.secure } with
            fnu :=
              let told := s.fnu.offer (.bayState b y.state .working y.secure y.manned)
              if y.secure then told else told.raise (.bayIntrusion b) }) ∧
      (y.state ≠ .present → y.state ≠ .secured → s.workStart b id = becomes joined)) ∧
    (id ∉ y.work → s.workStop b id = s) ∧
    (id ∈ y.work →
      (rest ≠ [] → s.workStop b id = becomes { y with work := rest }) ∧
      (rest = [] → s.lsu.settings.trailTime ≠ 0 → s.workStop b id =
        becomes { y with work := [], trail := some (s.now + 1000 * s.lsu.settings.trailTime) }) ∧
      (rest = [] → s.lsu.settings.trailTime = 0 →
        s.workStop b id = (becomes { y with work := [] }).trailExpire b) ∧
      (∀ d, y.trail = some d → exec (.trailExpiry b) s = .next
        (({ s with now := max s.now d } : State).trailExpire b)))) ∧
  (∀ (t : Task) (b : BayId),
    t.references b = true ↔ (∃ n, t.source = .cradle b n) ∨ ∃ n, t.dest = .place (.cradle b n)) ∧
  (∀ (s : State) (t u : Task),
    let bays : List BayId := [.n1, .n2, .n3, .n4]
    s.workStartAll t = (bays.filter t.references).foldl (fun v b => v.workStart b t.id) s ∧
    s.workStopAll t = (bays.filter t.references).foldl (fun v b => v.workStop b t.id) s ∧
    s.moveWork t u =
      (bays.filter fun b => u.references b && !t.references b).foldl (fun v b => v.workStart b u.id)
        ((bays.filter fun b => t.references b && !u.references b).foldl
          (fun v b => v.workStop b t.id) s)) ∧
  (∀ (s : State) (coil : Nat) (before after : EntryStatus),
    (∀ p, s.entryTo (.place p) coil before after = s.entryAt p coil before after) ∧
    s.entryTo .auto coil before after = s ∧ (∀ i, s.entryAt (.slot i) coil before after = s) ∧
    (∀ b n y p, s.bcu.bays.get b = some y → y.plan = some p →
      s.entryAt (.cradle b n) coil before after =
        { s with
          bcu := { s.bcu with
            bays := s.bcu.bays.set b (some { y with
              plan := some { p with
                entries := p.entries.map fun e =>
                  if e.cradle = n ∧ e.coil = coil ∧ e.status = before then { e with status := after }
                  else e } }) } }))

/-- PLAN-OPEN and PLAN-ENTRY (R152 to R157): a plan is opened at a bay with a trailer and no plan; each entry
that passes its checks joins it, an UNLOAD entry with its coil's record; the last one installs the plan, unless
a LOAD plan passes a limit, which discards it. The limits are tested over the declared weights of the entries in
loading order, and the first prefix that passes one is named with the first limit it passes. With no plan open
an entry is refused. -/
def Obligations.PlanIsBuilt : Prop :=
  (∀ (tag : Byte) (b : BayId) (k : PlanKind) (v : PlanOpen) (y : Bay) (g : BayGeom) (s s0 : State),
    s.Admits ⟨tag, .planOpen (.fields v)⟩ inRun s0 → v.bay = numVal b → v.kind = .known k →
    4000 ≤ v.length → v.length ≤ 14000 → v.eK ≤ 20000 → v.eA ≤ 20000 → 1000 ≤ v.kLim →
    v.kLim ≤ 30000 → 1000 ≤ v.aLim → v.aLim ≤ 40000 → 1000 ≤ v.gLim → v.gLim ≤ 80000 →
    1 ≤ v.cradles.length → v.cradles.length ≤ 6 →
    (∀ x ∈ v.cradles, 500 ≤ x ∧ x ≤ v.length ∧
      (g.xLo : Int) ≤ (g.kingpinX : Int) + g.direction * (x : Int) ∧
      (g.kingpinX : Int) + g.direction * (x : Int) ≤ (g.xHi : Int)) →
    s0.bcu.bays.get b = some y → s0.lsu.bays.get b = some g → y.plan = none →
    y.state = .present ∨ y.state = .secured →
    exec (.planOpen tag (.fields v)) s = .next
      (({ s0 with
          bcu := { s0.bcu with
            build := some
              { bay := b, entries := []
                head :=
                  { kind := k, length := v.length, eK := v.eK, eA := v.eA, kLim := v.kLim
                    aLim := v.aLim, gLim := v.gLim, cradles := v.cradles } } } } : State).acked tag
        .planOpen (.planOpened b v.cradles.length))) ∧
  (∀ (tag : Byte) (v : PlanEntry) (u : Build) (s s0 : State),
    s.takeFrame ⟨tag, .planEntry (.fields v)⟩ = some s0 → s0.lsu.stage = .run →
    s0.bcu.build = some u → v.kind = .known u.head.kind → 1 ≤ v.cradle →
    v.cradle ≤ u.head.cradles.length → 1 ≤ v.coil → v.coil ≤ 4294967295 →
    (∀ e ∈ u.entries, e.1 ≠ v.cradle) →
    (u.head.kind = .load → ∃ k i t g, s0.coil? v.coil = some k ∧ k.location = .slot i ∧ k.plan = none ∧
      (∀ e ∈ u.entries, e.2 ≠ v.coil) ∧ s0.slot? i = some t ∧ s0.lsu.bays.get u.bay = some g ∧
      t.geom.runway = g.runway) →
    (u.head.kind = .unload → 600 ≤ v.width ∧ v.width ≤ 2100 ∧ 900 ≤ v.diameter ∧ v.diameter ≤ 2400 ∧
      1000 ≤ v.declared ∧ v.declared ≤ 45000 ∧ s0.coil? v.coil = none ∧ s0.smu.coils.length < 768) →
    let u' : Build := { u with entries := u.entries ++ [(v.cradle, v.coil)] }
    let smu' : Smu :=
      match u.head.kind with
      | .load => s0.smu
      | .unload =>
        { s0.smu with
          coils := Table.put v.coil
            { width := v.width, diameter := v.diameter, declared := v.declared, measured := none
              group := 0, location := .cradle u.bay v.cradle, task := none, plan := none } s0.smu.coils }
    (u'.entries.length < u.head.cradles.length → exec (.planEntry tag (.fields v)) s = .next
      (({ s0 with smu := smu', bcu := { s0.bcu with build := some u' } } : State).acked tag .planEntry
        (.planEntry u'.entries.length (u.head.cradles.length - u'.entries.length)))) ∧
    (u.head.cradles.length ≤ u'.entries.length →
      (∀ k l, u.head.kind = .load → u.head.failingPrefix (smu'.declared u') = some (k, l) →
        exec (.planEntry tag (.fields v)) s = .next
          (({ s0 with bcu := { s0.bcu with build := none } } : State).nacked tag
            ReqKind.planEntry.code .limitExceeded (256 * k + l))) ∧
      (u.head.kind = .load → u.head.failingPrefix (smu'.declared u') = none →
        exec (.planEntry tag (.fields v)) s = .next
          (({ s0 with
              smu := smu'.setPlan (u'.entries.map (·.2)) (some u.bay)
              bcu :=
                { build := none
                  bays := s0.bcu.bays.modify u.bay (Option.map fun y =>
                    { y with
                      plan := some ⟨u.head, u'.entries.map fun e => ⟨e.1, e.2, .pending⟩, false⟩ }) } } :
              State).acked tag .planEntry (.planInstalled (u.head.totals (smu'.declared u'))))) ∧
      (u.head.kind = .unload →
        exec (.planEntry tag (.fields v)) s = .next
          (({ s0 with
              smu := smu'
              bcu :=
                { build := none
                  bays := s0.bcu.bays.modify u.bay (Option.map fun y =>
                    { y with
                      plan := some ⟨u.head, u'.entries.map fun e => ⟨e.1, e.2, .onTruck⟩, false⟩ }) } } :
              State).acked tag .planEntry (.planInstalled (u.head.totals (smu'.declared u'))))))) ∧
  (∀ (tag : Byte) (v : PlanEntry) (s s0 : State),
    s.Admits ⟨tag, .planEntry (.fields v)⟩ inRun s0 →
    exec (.planEntry tag (.fields v)) s = .next (s0.nacked tag ReqKind.planEntry.code .noPlanOpen 0)) ∧
  (∀ (h : PlanHead) (coils : List (Int × Nat)),
    let passes (k : Nat) : Option Nat := h.limitPassed (h.totals (coils.take k))
    (h.failingPrefix coils = none ↔ ∀ k, 1 ≤ k → k ≤ coils.length → passes k = none) ∧
    (∀ k l, h.failingPrefix coils = some (k, l) ↔ 1 ≤ k ∧ k ≤ coils.length ∧ passes k = some l ∧
      ∀ j, 1 ≤ j → j < k → passes j = none)) ∧
  (∀ (m : Smu) (u : Build) (coils : List (Int × Nat)),
    List.Forall₂
      (fun (e : Nat × Nat) (x : Int × Nat) => ∃ r, m.coil? e.2 = some r ∧ 1 ≤ e.1 ∧
        u.head.cradles[e.1 - 1]? = some x.2 ∧ x.1 = (r.declared : Int)) u.entries coils →
    m.declared u = coils)

/-- PLAN-CANCEL and LOAD-CLOSE (R163, R162): a plan that no task references, none of a LOAD plan's entries
PLACED, is removed with the plan field of its coils, or the coils still on the trailer; a LOAD plan is closed
with the entries it has PLACED. A bay without such a plan refuses. A change of the bay's state is told. -/
def Obligations.PlanIsEnded : Prop :=
  (∀ (tag : Byte) (b : BayId) (y : Bay) (s s0 : State), s0.bcu.bays.get b = some y →
    (s.Admits ⟨tag, .planCancel (.fields (numVal b))⟩ inRun s0 →
      (y.plan = none → exec (.planCancel tag (.fields (numVal b))) s = .next
        (s0.nacked tag ReqKind.planCancel.code .stateConflict 0)) ∧
      (∀ p, y.plan = some p → (∀ c, ∀ t ∈ s0.tcu.queues.get c, t.references b = false) →
        (p.head.kind = .load → ∀ e ∈ p.entries, e.status ≠ .placed) →
        ∃ t : State, exec (.planCancel tag (.fields (numVal b))) s = .next
            (t.acked tag .planCancel
              (.planCancelled (s0.smu.coils.length - t.smu.coils.length))) ∧
          t.smu = (match p.head.kind with
            | .load => s0.smu.setPlan (p.entries.map (·.coil)) none
            | .unload => s0.smu.deleteOnTruck b (p.entries.map (·.coil))) ∧
          (∃ y', t.bcu.bays.get b = some y' ∧ y'.plan = none ∧ y'.live = y.live ∧
            y'.latch = y.latch ∧ y'.work = y.work ∧
            y'.state =
              if y.state = .complete then (if y.secure then .secured else .present) else y.state) ∧
          (y.intrusion = false → t.fnu =
            if y.state = .complete then
              s0.fnu.offer (.bayState b .complete (if y.secure then .secured else .present) y.secure y.manned)
            else s0.fnu) ∧
          (∀ d, d ≠ b → t.bcu.bays.get d = s0.bcu.bays.get d) ∧
          t.lsu = s0.lsu ∧ t.tcu = s0.tcu ∧ t.links = s0.links ∧ t.hoists = s0.hoists ∧
          t.ports = s0.ports ∧ t.rcu = s0.rcu ∧ t.dio = s0.dio ∧ t.hlu = s0.hlu)) ∧
    (s.Admits ⟨tag, .loadClose (.fields (numVal b))⟩ inRun s0 →
      ((∀ p, y.plan = some p → p.head.kind = .unload) →
        exec (.loadClose tag (.fields (numVal b))) s = .next
          (s0.nacked tag ReqKind.loadClose.code .stateConflict 0)) ∧
      (∀ p, y.plan = some p → p.head.kind = .load →
        (∀ c, ∀ t ∈ s0.tcu.queues.get c, t.references b = false) →
        let placed := p.entries.filter fun e => e.status == .placed
        let removed := (p.entries.filter fun e => e.status != .placed).map (·.coil)
        ∃ t : State, exec (.loadClose tag (.fields (numVal b))) s = .next
            (t.acked tag .loadClose (.loadClosed removed.length placed.length)) ∧
          t.smu = s0.smu.setPlan removed none ∧
          (∃ y', t.bcu.bays.get b = some y' ∧
            y'.plan = some { p with entries := placed, closed := true } ∧ y'.live = y.live ∧
            y'.latch = y.latch ∧ y'.work = y.work ∧
            y'.state =
              if y.state = .present ∨ y.state = .secured then .complete else y.state) ∧
          (y.intrusion = false → t.fnu =
            if y.state = .present ∨ y.state = .secured then
              s0.fnu.offer (.bayState b y.state .complete y.secure y.manned)
            else s0.fnu) ∧
          (∀ d, d ≠ b → t.bcu.bays.get d = s0.bcu.bays.get d) ∧
          t.lsu = s0.lsu ∧ t.tcu = s0.tcu ∧ t.links = s0.links ∧ t.hoists = s0.hoists ∧
          t.ports = s0.ports ∧ t.rcu = s0.rcu ∧ t.dio = s0.dio ∧ t.hlu = s0.hlu))) ∧
  (∀ (u : Smu) (b : BayId) (ids : List Nat) (plan : Option BayId),
    (u.setPlan ids plan).slots = u.slots ∧
    (u.setPlan ids plan).coils =
      u.coils.map (fun e => if e.1 ∈ ids then (e.1, { e.2 with plan := plan }) else e) ∧
    (u.deleteOnTruck b ids).slots = u.slots ∧
    ∀ e, e ∈ (u.deleteOnTruck b ids).coils ↔
      e ∈ u.coils ∧ ¬ (e.1 ∈ ids ∧ ∃ n, e.2.location = .cradle b n))

/-- Axle shares (R158): the rear share of a coil is m × c / L to the nearest kg, a half going up; the front
share is the rest; the totals add them to the empty trailer's. The limits are tested in the order K, A,
Gross (R157). -/
def Obligations.AxleShares : Prop :=
  (∀ (m : Int) (c length : Nat), 0 < length →
    2 * m * (c : Int) - (length : Int) < 2 * (length : Int) * rearShare m c length ∧
    2 * (length : Int) * rearShare m c length ≤ 2 * m * (c : Int) + (length : Int) ∧
    (0 ≤ m → c ≤ length → 0 ≤ rearShare m c length ∧ rearShare m c length ≤ m)) ∧
  (∀ (h : PlanHead) (coils : List (Int × Nat)),
    h.totals coils =
      { k := (h.eK : Int) + (coils.map fun e => e.1 - rearShare e.1 e.2 h.length).sum
        a := (h.eA : Int) + (coils.map fun e => rearShare e.1 e.2 h.length).sum
        gross := (h.eK : Int) + (h.eA : Int) + (coils.map (·.1)).sum } ∧
    (h.totals coils).gross = (h.totals coils).k + (h.totals coils).a) ∧
  (∀ (h : PlanHead) (coils : List (Int × Nat)),
    (h.within coils = true ↔
      (h.totals coils).k ≤ (h.kLim : Int) ∧ (h.totals coils).a ≤ (h.aLim : Int) ∧
        (h.totals coils).gross ≤ (h.gLim : Int))) ∧
  (∀ (h : PlanHead) (t : Totals),
    (h.limitPassed t = none ↔
      t.k ≤ (h.kLim : Int) ∧ t.a ≤ (h.aLim : Int) ∧ t.gross ≤ (h.gLim : Int)) ∧
    ((h.kLim : Int) < t.k → h.limitPassed t = some 1) ∧
    (t.k ≤ (h.kLim : Int) → (h.aLim : Int) < t.a → h.limitPassed t = some 2) ∧
    (t.k ≤ (h.kLim : Int) → t.a ≤ (h.aLim : Int) → (h.gLim : Int) < t.gross → h.limitPassed t = some 3))

/-! ## Lines, beacons, flags, notices -/

/-- RAW_LINE_CHANGE and SETTLING_END (R166, R167): a raw level that differs from the debounced one starts a
settling period, or with debounce 0 is taken at once; one that returns stops the period; its end takes the
level. The level of a function is 0, 1, or its line's, inverted or not, and an event function fires at the edges
of its mode (R167). In CONFIG no unit hears of it; else a bay whose functions changed takes them, a runway its
ESTOP condition, and a firing reference input references a crane whose link is ACTIVE (R95, R134, R143). An
onset of CURTAIN in LATCHED sets the bay's latch (R144); an unfrozen snapshot takes the new values, is told by a
BAY-INPUTS notice and freezes, a frozen one stays (R146); that this notice comes before the conditions are
derived again is the model's choice, log 13. What the end of a period does to the clock, and that one without a
period changes nothing (log 2), are the model's choices; that a raw change to the level the line has changes
nothing is its inference (log 36). -/
def Obligations.InputLinesSettle : Prop :=
  (∀ (d : Dio) (f : InputFn) (b : BayId),
    d.fnLevel f = (d.inputs.get f).level d.lines ∧
    d.bayInputs b =
      { curtain := d.fnLevel (.curtain b), driver := d.fnLevel (.driver b)
        chocks := d.fnLevel (.chocks b) }) ∧
  (∀ (a : InAssign) (lines : Vector Line 32),
    (a.selection = 0 → a.level lines = false) ∧ (a.selection = 1 → a.level lines = true) ∧
    (∀ k : Fin 32, a.selection = k.val + 2 → a.level lines = (lines[k.val].level != a.invert))) ∧
  (∀ before after : Bool,
    (fires .rising before after = true ↔ before = false ∧ after = true) ∧
    (fires .falling before after = true ↔ before = true ∧ after = false) ∧
    (fires .any before after = true ↔ before ≠ after) ∧ fires .level before after = false) ∧
  ∀ (s : State) (k : Fin 32) (high : Bool),
    let old := s.dio.lines[k.val]
    let lines (l : Line) : State := { s with dio := s.dio.setLine k l }
    (old.raw = high → exec (.rawLineChange k high) s = .next s) ∧
    (old.raw ≠ high → old.level = high →
      exec (.rawLineChange k high) s = .next (lines { old with raw := high, settling := none })) ∧
    (old.raw ≠ high → old.level ≠ high → s.lsu.settings.debounce ≠ 0 →
      exec (.rawLineChange k high) s = .next
        (lines { old with raw := high, settling := some (s.now + s.lsu.settings.debounce) })) ∧
    (old.raw ≠ high → old.level ≠ high → s.lsu.settings.debounce = 0 →
      exec (.rawLineChange k high) s = .next (s.lineTakes k ⟨high, high, none⟩)) ∧
    (old.settling = none → exec (.settlingEnd k) s = .next s) ∧
    (∀ d, old.settling = some d → exec (.settlingEnd k) s = .next
      (({ s with now := max s.now d } : State).lineTakes k ⟨old.raw, old.raw, none⟩)) ∧
    (∀ l, s.lsu.stage = .config → s.lineTakes k l = lines l) ∧
    (∀ l, s.lsu.stage ≠ .config →
      let t := s.lineTakes k l
      let new := s.dio.setLine k l
      t.dio.lines = new.lines ∧ t.dio.inputs = s.dio.inputs ∧ t.dio.outputs = s.dio.outputs ∧
      (∀ b, s.dio.bayInputs b = new.bayInputs b → t.bcu.bays.get b = s.bcu.bays.get b) ∧
      (∀ b y, s.bcu.bays.get b = some y → s.dio.bayInputs b ≠ new.bayInputs b →
        ∃ z, t.bcu.bays.get b = some z ∧ z.live = new.bayInputs b ∧ z.mode = y.mode ∧
          z.latch = (y.latch ||
            (y.mode == .latched && !y.live.curtain && (new.bayInputs b).curtain)) ∧
          (y.frozen = true → z.snapshot = y.snapshot ∧ z.frozen = true) ∧
          (y.frozen = false → y.live ≠ new.bayInputs b →
            z.snapshot = new.bayInputs b ∧ z.frozen = true ∧
            (t.fnu.notices.length < 32 →
              ∃ secure manned, .bayInputs b z.snapshot z.latch secure manned ∈ t.fnu.notices))) ∧
      (∀ r v, t.rcu.views.get r = some v → s.dio.fnLevel (.estop r) ≠ new.fnLevel (.estop r) →
        v.estop = new.fnLevel (.estop r)) ∧
      (∀ c m d x p, s.links.get c = some m → m.link = .active d → m.last = some x →
        s.lsu.active.get c = some p →
        fires (s.dio.inputs.ref.get c).mode (s.dio.fnLevel (.ref c)) (new.fnLevel (.ref c)) = true →
        ∃ m', t.links.get c = some m' ∧ m'.referenced = true ∧
          m'.correction = (p.xRef : Int) - (x.record.raw : Int)) ∧
      t.lsu = s.lsu ∧ t.smu = s.smu ∧ t.tcu = s.tcu ∧ t.hoists = s.hoists ∧ t.hlu = s.hlu ∧
      t.now = s.now ∧ t.pending = s.pending) ∧
    (∀ (b : BayId) (y : Bay) (i : BayInputs), s.bcu.bays.get b = some y →
      let latch := y.latch || (y.mode == .latched && !y.live.curtain && i.curtain)
      let manned := i.driver || i.curtain || latch
      let secure := i.chocks && !manned
      let becomes (z : Bay) : State :=
        { s with bcu := { s.bcu with bays := s.bcu.bays.set b (some z) } }
      (y.frozen = true ∨ y.live = i →
        s.bayEvent b i = (becomes { y with live := i, latch := latch }).bayDerived b) ∧
      (y.frozen = false → y.live ≠ i →
        s.bayEvent b i =
          ((becomes { y with live := i, latch := latch, snapshot := i, frozen := true }).notify
            (.bayInputs b i latch secure manned)).bayDerived b))

/-- INPUT-ASSIGN and OUTPUT-ASSIGN (R168, R170): an assignment is replaced as a whole and nothing else
changes; an output that would energise a RUN_ENABLE signal is refused with UNSAFE_OUTPUT. What an output line
carries is its signal by its mode (R169, Table 9-2). BEACON-SET and STRETCH_EXPIRY (R171, R172): the host
takes a beacon and gives its level, or gives it back to the flags of its crane; a stretch that ends turns off
the beacon of a crane with no flag set. What that does to the clock, and that an expiry without a stretch
changes nothing (log 2), and that a BEACON-SET to AUTO is accepted whatever its level field holds (log 55),
are the model's choices. -/
def Obligations.LinesAndBeacons : Prop :=
  (∀ (tag : Byte) (f : InputFn) (n : Nat) (invert : Bool) (m : InputMode) (s s0 : State), n ≤ 33 →
    modeFits f m = true →
    s.Admits ⟨tag, .inputAssign (.fields ⟨.known f, n, .known invert, .known m⟩)⟩ inConfig s0 →
    exec (.inputAssign tag (.fields ⟨.known f, n, .known invert, .known m⟩)) s = .next
      (({ s0 with
          dio := { s0.dio with inputs := s0.dio.inputs.set f ⟨n, invert, m⟩ } } : State).acked tag
        .inputAssign (.inputAssigned f ⟨n, invert, m⟩
          ((⟨n, invert, m⟩ : InAssign).level s0.dio.lines)))) ∧
  (∀ (tag : Byte) (line : Nat) (g : Fin 14) (m : OutputMode) (s s0 : State), line ≤ 15 →
    s.Admits ⟨tag, .outputAssign (.fields ⟨line, g.val, .known m⟩)⟩ inConfig s0 →
    ((∃ c, allSignals[g.val] = .runEnable c) → m = .on ∨ m = .inverted →
      exec (.outputAssign tag (.fields ⟨line, g.val, .known m⟩)) s = .next
        (s0.nacked tag ReqKind.outputAssign.code .unsafeOutput line)) ∧
    ((∀ c, allSignals[g.val] ≠ .runEnable c) ∨ m ≠ .on ∧ m ≠ .inverted →
      exec (.outputAssign tag (.fields ⟨line, g.val, .known m⟩)) s = .next
        (({ s0 with
            dio := { s0.dio with
              outputs := s0.dio.outputs.setIfInBounds line ⟨allSignals[g.val], m⟩ } } : State).acked
          tag .outputAssign (.outputAssigned line ⟨allSignals[g.val], m⟩
            (s0.drive ⟨allSignals[g.val], m⟩))))) ∧
  (∀ (tag : Byte) (c : CraneId) (level : Bool) (s s0 : State),
    s.Admits ⟨tag, .beaconSet (.fields ⟨numVal c, .known .host, .known level⟩)⟩ inAny s0 →
    exec (.beaconSet tag (.fields ⟨numVal c, .known .host, .known level⟩)) s = .next
      (({ s0 with
          dio := { s0.dio with
            beacons := s0.dio.beacons.set c ⟨.host, level, level, none⟩ } } : State).acked tag
        .beaconSet (.beacon c .host level level))) ∧
  (∀ (tag : Byte) (c : CraneId) (level : Coded Bool) (s s0 : State),
    s.Admits ⟨tag, .beaconSet (.fields ⟨numVal c, .known .auto, level⟩)⟩ inAny s0 →
    ∃ b : Beacon, exec (.beaconSet tag (.fields ⟨numVal c, .known .auto, level⟩)) s = .next
        (({ s0 with dio := { s0.dio with beacons := s0.dio.beacons.set c b } } : State).acked tag
          .beaconSet (.beacon c .auto b.hostLevel b.on)) ∧
      b.mode = .auto ∧ b.hostLevel = (s0.dio.beacons.get c).hostLevel ∧
      ((s0.dio.beacons.get c).mode = .auto → b = s0.dio.beacons.get c) ∧
      ((s0.dio.beacons.get c).mode = .host →
        (b.on = true ↔ ∃ k, s0.fnu.isSet (.crane k c) = true))) ∧
  (∀ (s : State) (c : CraneId), (s.dio.beacons.get c).stretch = none →
    exec (.stretchExpiry c) s = .next s) ∧
  (∀ (s : State) (c : CraneId) (d : Nat), (s.dio.beacons.get c).stretch = some d →
    exec (.stretchExpiry c) s = .next
      { s with
        now := max s.now d
        dio := { s.dio with
          beacons := s.dio.beacons.set c
            { s.dio.beacons.get c with
              stretch := none
              on :=
                if (s.dio.beacons.get c).mode = .auto ∧ s.fnu.craneSet c = false then false
                else (s.dio.beacons.get c).on } } }) ∧
  (allSignals =
    [.runEnable .n1, .runEnable .n2, .runEnable .n3, .runEnable .n4, .beacon .n1, .beacon .n2, .beacon .n3,
      .beacon .n4, .gateLock .n1, .gateLock .n2, .gateLock .n3, .gateLock .n4, .fault, .yardRun]) ∧
  (∀ (s : State) (c : CraneId) (b : BayId),
    (s.signal (.runEnable c) = true ↔ ∃ k, s.rcu.cranes.get c = some k ∧ k.runEnable = true) ∧
    s.signal (.beacon c) = (s.dio.beacons.get c).on ∧
    (s.signal (.gateLock b) = true ↔ ∃ y, s.bcu.bays.get b = some y ∧ y.state = .working) ∧
    s.signal .fault = s.fnu.faultSignal ∧ (s.signal .yardRun = true ↔ s.lsu.stage = .run) ∧
    (s.fnu.craneSet c = true ↔ ∃ k, s.fnu.isSet (.crane k c) = true)) ∧
  (∀ (s : State) (g : Signal),
    s.drive ⟨g, .off⟩ = .inactive ∧ s.drive ⟨g, .on⟩ = .active ∧ s.drive ⟨g, .released⟩ = .released ∧
    s.drive ⟨g, .signal⟩ = (if s.signal g then .active else .inactive) ∧
    s.drive ⟨g, .inverted⟩ = (if s.signal g then .inactive else .active)) ∧
  (∀ (f : InputFn) (m : InputMode),
    (isEventFn f = true ↔ ∃ c, f = .ref c) ∧ (modeFits f m = true ↔ (m = .level ↔ isEventFn f = false)))

/-- Raising a flag (R175) and queueing a notice (R179): a clear flag is set with count 1 and told by a
FAULT-RAISED notice, but for NOTICE_LOST; a set one counts up to 65,535. A full queue drops the notice, counts
it and raises NOTICE_LOST, which queues none. A crane's flag that sets turns on its beacon in AUTO with its
stretch, one that a condition's end clears lets it go off (R171). FAULT is 1 while an unmasked flag is set
(R178). -/
def Obligations.FlagsAndNotices : Prop :=
  (∀ (u : Fnu) (f : FlagId), (u.flag f).count = none → f ≠ .noticeLost →
    u.raise f = (u.setFlag f ⟨some 1, f.isCondition⟩).offer
      (.faultRaised f (if f.isCondition then some true else none))) ∧
  (∀ (u : Fnu) (f : FlagId) (n : Nat), (u.flag f).count = some n →
    u.raise f = u.setFlag f ⟨some (min (n + 1) 65535), f.isCondition⟩) ∧
  (∀ (u : Fnu) (n : Notice), u.notices.length < 32 →
    u.offer n = { u with notices := u.notices ++ [n] }) ∧
  (∀ (u : Fnu) (n : Notice), 32 ≤ u.notices.length →
    u.offer n = ({ u with lost := min (u.lost + 1) 65535 } : Fnu).setFlag .noticeLost
      ⟨some (match (u.flag .noticeLost).count with | none => 1 | some k => min (k + 1) 65535), false⟩) ∧
  (∀ (u : Fnu) (f : FlagId),
    (u.endCond .realTime f = u.setFlag f ⟨none, false⟩) ∧
    (u.endCond .latched f = u.setFlag f ⟨(u.flag f).count, false⟩)) ∧
  (∀ u : Fnu, u.faultSignal = true ↔ ∃ f, u.isSet f = true ∧ f.kind ∉ u.masks) ∧
  (∀ (s : State) (n : Notice), s.notify n = { s with fnu := s.fnu.offer n }) ∧
  (∀ (s : State) (f : FlagId) (was is : Bool),
    s.report f was is =
      if was = false ∧ is = true then s.raise f else if was = true ∧ is = false then s.endCond f else s) ∧
  (∀ (s : State) (f : FlagId),
    let beacon (d : Dio) (c : CraneId) (b : Beacon) : Dio := { d with beacons := d.beacons.set c b }
    let stretch : Option Nat :=
      if s.lsu.settings.beaconStretch = 0 then none
      else some (s.now + 1000 * s.lsu.settings.beaconStretch)
    (∃ d, s.raise f = { s with fnu := s.fnu.raise f, dio := d } ∧
      (s.fnu.isSet f = true ∨ (∀ k c, f ≠ .crane k c) → d = s.dio) ∧
      (∀ k c, f = .crane k c → s.fnu.isSet f = false →
        let b := s.dio.beacons.get c
        d = if b.mode = .auto ∧ b.on = false then beacon s.dio c { b with on := true, stretch := stretch }
          else s.dio)) ∧
    (let u := s.fnu.endCond s.lsu.settings.faultLatch f
      ∃ d, s.endCond f = { s with fnu := u, dio := d } ∧
        (s.fnu.isSet f = false ∨ u.isSet f = true ∨ (∀ k c, f ≠ .crane k c) → d = s.dio) ∧
        (∀ k c, f = .crane k c → s.fnu.isSet f = true → u.isSet f = false →
          let b := s.dio.beacons.get c
          d = if b.mode = .auto ∧ u.craneSet c = false ∧ b.stretch = none then
              beacon s.dio c { b with on := false }
            else s.dio)))

/-- FAULT-REPORT and FAULT-MASK (R177, R178): the set flags are listed in the order of Table 10-1, and those
are cleared that are no live condition; the mask set is replaced as a whole. -/
def Obligations.FaultsAreReportedAndMasked : Prop :=
  (∀ (tag : Byte) (s s0 : State), s.Admits ⟨tag, .faultReport (.fields ())⟩ inAny s0 →
    ∃ t : State, exec (.faultReport tag (.fields ())) s = .next
        (t.acked tag .faultReport (.faults ((allFlags.filter s0.fnu.isSet).map fun f =>
          (f, ((s0.fnu.flag f).count.getD 0),
            if f.isCondition then some (s0.fnu.flag f).live else none)))) ∧
      (∀ f, t.fnu.flag f =
        if f.isCondition = true ∧ (s0.fnu.flag f).live = true then s0.fnu.flag f
        else ⟨none, (s0.fnu.flag f).live⟩) ∧
      t.fnu.notices = s0.fnu.notices ∧ t.fnu.masks = s0.fnu.masks ∧ t.fnu.lost = s0.fnu.lost ∧
      t.lsu = s0.lsu ∧ t.smu = s0.smu ∧ t.tcu = s0.tcu ∧ t.links = s0.links ∧ t.hoists = s0.hoists ∧
      t.bcu = s0.bcu ∧ t.hlu = s0.hlu ∧ t.dio.lines = s0.dio.lines ∧ t.dio.inputs = s0.dio.inputs ∧
      t.dio.outputs = s0.dio.outputs ∧ t.now = s0.now ∧ t.pending = s0.pending) ∧
  (∀ (tag : Byte) (ks : List FaultKind) (s s0 : State), ks.Nodup → ks.length ≤ 16 →
    s.Admits ⟨tag, .faultMask (.fields (ks.map .known))⟩ inAny s0 →
    ∃ masks : List FaultKind, (∀ k, k ∈ masks ↔ k ∈ ks) ∧
      exec (.faultMask tag (.fields (ks.map .known))) s = .next
        (({ s0 with fnu := { s0.fnu with masks := masks } } : State).acked tag .faultMask
          (.masked masks ({ s0.fnu with masks := masks } : Fnu).faultSignal)))

/-! ## Records and invariants -/

/-- The byte layouts of Tables 11-13, 11-7 and 11-10: a status record in range comes back from its bytes, and
bytes that are taken are those of the record they give, so every bit of them is read; the same for the fields of
a TASK-SUBMIT, and for a host frame at a receiver. A NAK is sent in ten bytes, a TASK-STATE notice in
twenty-one, a command record in nineteen, its fields in the order of Table 11-14. The codes of the refusals, the
hold reasons and the request kinds are those of Tables 11-3, 11-4 and 11-12. -/
def Obligations.RecordsSurviveTheirBytes : Prop :=
  (∀ (c : CraneId) (r : StatusRec), r.inRange = true → -8388608 ≤ r.count → r.count ≤ 8388607 →
    r.task ≤ 65535 → decodeStatus c (encodeStatus c r) = some r) ∧
  (∀ (c : CraneId) (bytes : List Byte) (r : StatusRec), decodeStatus c bytes = some r →
    bytes = encodeStatus c r) ∧
  (∀ t : TaskSubmit, t.task ≤ 65535 → t.crane ≤ 255 → t.coil ≤ 4294967295 → t.srcKind ≤ 255 →
    t.srcNum ≤ 65535 → t.srcCradle ≤ 255 → t.dstKind ≤ 255 → t.dstNum ≤ 65535 → t.dstCradle ≤ 255 →
    decodeSubmit (encodeSubmit t) = some t) ∧
  (∀ (bytes : List Byte) (t : TaskSubmit), decodeSubmit bytes = some t → bytes = encodeSubmit t) ∧
  (∀ (kind tag : Byte) (body : List Byte), body.length ≤ 240 →
    Receiver.hunting.feedHost (hostFrame kind tag body) = ⟨.hunting, 0, some ⟨kind, tag, body⟩⟩) ∧
  (∀ (got body : List Byte) (kind tag : Byte), judgeFrame got = .good ⟨kind, tag, body⟩ →
    0xA5 :: got = hostFrame kind tag body) ∧
  (∀ (tag kind : Byte) (n : Nak),
    let payload := [0xFF, tag, 4, n.code.code, kind, byteOf (min n.detail 65535 / 256),
      byteOf (min n.detail 65535)]
    (TxFrame.reply ⟨tag, kind, .nak n⟩).bytes? =
      some (0xA5 :: payload ++ bytes2 (crc16 payload).toNat)) ∧
  (∀ (n : TaskNotice), ∃ body : List Byte, body.length = 15 ∧
    (TxFrame.notice (.taskState n)).bytes? = some (hostFrame 0x42 0 body)) ∧
  (∀ (c : CraneId) (r : CommandRec),
    let body : List Byte :=
      [byteOf (numVal c), byteOf r.fwd.rank, byteOf r.rev.rank] ++ bytes2 r.fwdSpeed ++ bytes2 r.revSpeed ++
        [byteOf (r.lower.toNat + 2 * r.raise.toNat),
          byteOf (match r.order with | .none => 0 | .goPick => 1 | .goPlace => 2 | .hold => 3)] ++
        bytes2 r.task ++ [byteOf (r.x / 65536), byteOf (r.x / 256), byteOf r.x] ++ bytes2 r.y
    encodeCommand c r = 0x5A :: body ++ bytes2 (crc16 body).toNat ∧ (encodeCommand c r).length = 19) ∧
  ([.unknownKind, .badLength, .badValue, .wrongStage, .noSuchItem, .duplicate, .queueFull, .tableFull,
      .reserved, .supportConflict, .notFit, .locationMismatch, .stateConflict, .coilOnHook, .planInProgress,
      .noPlanOpen, .limitExceeded, .layoutInvalid, .unsafeOutput, .conditionActive, .zeroOutOfRange,
      .notSteady].map RefusalCode.code = (List.range' 1 22).map byteOf) ∧
  ([.positionMismatch, .weightMismatch, .weighTimeout, .noSlot, .axleLimit, .planOrder, .linkLost,
      .referenceLost].map holdCode = List.range' 1 8) ∧
  ([ReqKind.runwayDefine, .craneDefine, .slotDefine, .bayDefine, .configSet, .commitLayout, .openYard,
      .closeYard, .restart].map ReqKind.code = (List.range' 0x01 9).map byteOf ∧
    [ReqKind.coilAdd, .coilRemove, .coilQuery, .slotQuery, .slotBlock, .slotUnblock, .slotSuggest].map
      ReqKind.code = (List.range' 0x10 7).map byteOf ∧
    [ReqKind.taskSubmit, .taskCancel, .retry, .acceptWeight, .redirect, .taskReturn, .taskQuery, .halt,
      .resume, .detach, .attach].map ReqKind.code = (List.range' 0x18 11).map byteOf ∧
    [ReqKind.craneQuery, .zero, .weighReset, .weighQuery, .runwayQuery].map ReqKind.code =
      (List.range' 0x24 5).map byteOf ∧
    [ReqKind.truckArrive, .truckDepart, .bayMode, .bayClear, .bayAck, .planOpen, .planEntry, .planCancel,
      .loadClose, .bayQuery].map ReqKind.code = (List.range' 0x2C 10).map byteOf ∧
    [ReqKind.inputAssign, .outputAssign, .beaconSet, .ioQuery, .status, .faultReport, .faultMask].map
      ReqKind.code = (List.range' 0x38 7).map byteOf)

/-- Every step keeps the tables in their canonical form, slot indices in range and task ids unique. -/
def Obligations.StepKeepsKeyed : Prop := ∀ s t : State, s.Keyed → step s = .next t → t.Keyed

/-- Every step keeps the capacities of Table 0-6 that a queue or table can reach (coil records, tasks per
queue, load plan entries per bay installed or being built, notices, inbound frames, weighing samples) and
the limits of the counters. The 1,024 slots stand with the tables' form. -/
def Obligations.StepKeepsBounded : Prop := ∀ s t : State, s.Bounded → step s = .next t → t.Bounded

/-- Every step keeps the stage's promises: nothing is recorded before COMMIT-LAYOUT, no task and no plan
being built outside RUN. -/
def Obligations.StepKeepsStaged : Prop := ∀ s t : State, s.Staged → step s = .next t → t.Staged

/-- After reset the three invariants hold. -/
def Obligations.ResetIsWellKept : Prop := State.reset.Keyed ∧ State.reset.Bounded ∧ State.reset.Staged


end Statements
end

