-- ==== Sys2Proof/Laws/Collision.lean ====
section
/-! SUPPORT. The collision unit: what an evaluation withdraws, and the least of the terms of a distance. -/

namespace Sys2Proof.Machine

/-! ## Downgrades (R90) -/

/-- What an evaluation withdraws, from the last record sent or from the one that waits. -/
theorem Port.withdrawn_iff (p : Port) (r : RcuCrane) :
    p.withdrawn r = true ↔ r.downgrades p.lastSent = true ∨ ∃ q, p.waiting = some q ∧ r.downgrades q = true := by
  unfold Port.withdrawn
  cases p.waiting <;> simp

/-- The least of some terms, floored at 0, is one of them and below all of them (R128). -/
theorem leastTerm_spec (first : Int) (rest : List Int) :
    (∃ x ∈ first :: rest, (leastTerm first rest : Int) = max 0 x) ∧
      ∀ x ∈ first :: rest, (leastTerm first rest : Int) ≤ max 0 x := by
  have key : ∀ (l : List Int) (e : Int), (l.foldl min e = e ∨ l.foldl min e ∈ l) ∧ l.foldl min e ≤ e ∧
      ∀ x ∈ l, l.foldl min e ≤ x := by
    intro l
    induction l with
    | nil => simp
    | cons b t ih =>
      intro e
      obtain ⟨h1, h2, h3⟩ := ih (min e b)
      simp only [List.foldl_cons, List.mem_cons]
      refine ⟨?_, by omega, ?_⟩
      · rcases h1 with h1 | h1
        · rcases Int.le_total e b with h | h
          · exact .inl (by omega)
          · exact .inr (.inl (by omega))
        · exact .inr (.inr h1)
      · rintro x (rfl | hx)
        · omega
        · exact h3 x hx
  obtain ⟨h1, h2, h3⟩ := key rest first
  refine ⟨⟨rest.foldl min first, ?_, by simp only [leastTerm]; omega⟩, ?_⟩
  · rcases h1 with h1 | h1
    · rw [h1]; exact List.mem_cons_self
    · exact List.mem_cons_of_mem _ h1
  · intro x hx
    simp only [leastTerm]
    rcases List.mem_cons.1 hx with rfl | hx
    · omega
    · have := h3 x hx; omega

end Sys2Proof.Machine
end

