-- ==== Sys2Proof/Laws/Pieces.lean ====
section
/-! SUPPORT. What reading a four-fold or two-fold thing, a table or a flag gives after a write. -/

namespace Sys2Proof.Machine

/-! ## Four-fold and two-fold things -/

@[simp] theorem Quad.get_set_same {α : Type} (q : Quad α) (i : Num4) (v : α) : (q.set i v).get i = v := by
  cases i <;> rfl

theorem Quad.get_set_ne {α : Type} (q : Quad α) {i j : Num4} (v : α) (h : j ≠ i) :
    (q.set i v).get j = q.get j := by
  cases i <;> cases j <;> first | rfl | exact absurd rfl h

theorem Quad.get_set {α : Type} (q : Quad α) (i j : Num4) (v : α) :
    (q.set i v).get j = if j = i then v else q.get j := by
  cases i <;> cases j <;> rfl

@[simp] theorem Quad.set_set {α : Type} (q : Quad α) (i : Num4) (v w : α) : (q.set i v).set i w = q.set i w := by
  cases i <;> rfl

@[simp] theorem Quad.set_get {α : Type} (q : Quad α) (i : Num4) : q.set i (q.get i) = q := by
  cases i <;> rfl

@[simp] theorem Quad.get_modify_same {α : Type} (q : Quad α) (i : Num4) (f : α → α) :
    (q.modify i f).get i = f (q.get i) := by
  cases i <;> rfl

theorem Quad.get_modify_ne {α : Type} (q : Quad α) {i j : Num4} (f : α → α) (h : j ≠ i) :
    (q.modify i f).get j = q.get j := Quad.get_set_ne q _ h

@[simp] theorem Quad.get_map {α β : Type} (q : Quad α) (f : Num4 → α → β) (i : Num4) :
    (q.map f).get i = f i (q.get i) := by
  cases i <;> rfl

@[simp] theorem Quad.get_all {α : Type} (v : α) (i : Num4) : (Quad.all v).get i = v := by
  cases i <;> rfl

/-- Four-fold things that read alike at every number are equal. -/
theorem Quad.eq_of_get {α : Type} {q r : Quad α} (h : ∀ i, q.get i = r.get i) : q = r := by
  have h1 := h .n1
  have h2 := h .n2
  have h3 := h .n3
  have h4 := h .n4
  cases q; cases r
  simp_all [Quad.get]

@[simp] theorem Duo.get_set_same {α : Type} (q : Duo α) (i : RunwayId) (v : α) : (q.set i v).get i = v := by
  cases i <;> rfl

theorem Duo.get_set_ne {α : Type} (q : Duo α) {i j : RunwayId} (v : α) (h : j ≠ i) :
    (q.set i v).get j = q.get j := by
  cases i <;> cases j <;> first | rfl | exact absurd rfl h

@[simp] theorem Duo.get_map {α β : Type} (q : Duo α) (f : RunwayId → α → β) (i : RunwayId) :
    (q.map f).get i = f i (q.get i) := by
  cases i <;> rfl

@[simp] theorem Duo.get_both {α : Type} (v : α) (i : RunwayId) : (Duo.both v).get i = v := by
  cases i <;> rfl

/-! ## Tables -/

theorem Table.find_put {α : Type} (k j : Nat) (v : α) (t : List (Nat × α)) :
    Table.find j (Table.put k v t) = if j = k then some v else Table.find j t := by
  induction t with
  | nil =>
    by_cases h : j = k
    · simp [Table.put, Table.find, h]
    · simp [Table.put, Table.find, h, Ne.symm h]
  | cons a t ih =>
    obtain ⟨i, w⟩ := a
    unfold Table.put
    split
    · by_cases h : j = k
      · simp [Table.find, h]
      · simp [Table.find, h, Ne.symm h]
    · split
      · rename_i h1 h2
        subst h2
        by_cases h : j = k
        · simp [Table.find, h]
        · simp [Table.find, h, Ne.symm h]
      · rename_i h1 h2
        unfold Table.find
        by_cases h : i = j
        · have : j ≠ k := fun e => h2 (e ▸ h).symm
          simp [h, this]
        · simp [h, ih]

theorem Table.find_modify {α : Type} (k j : Nat) (f : α → α) (t : List (Nat × α)) :
    Table.find j (Table.modify k f t) = if j = k then (Table.find j t).map f else Table.find j t := by
  unfold Table.modify
  induction t with
  | nil => simp [Table.find]
  | cons a t ih =>
    obtain ⟨i, w⟩ := a
    by_cases hi : i = k <;> by_cases hj : i = j
    · subst hi; subst hj; simp [Table.find]
    · subst hi; simp [Table.find, hj, Ne.symm hj, ih]
    · subst hj; simp [Table.find, hi]
    · simp [Table.find, hi, hj, ih]

theorem Table.find_drop {α : Type} (k j : Nat) (t : List (Nat × α)) :
    Table.find j (Table.drop k t) = if j = k then none else Table.find j t := by
  unfold Table.drop
  induction t with
  | nil => simp [Table.find]
  | cons a t ih =>
    obtain ⟨i, w⟩ := a
    by_cases hi : i = k
    · subst hi
      by_cases hj : i = j
      · subst hj; simpa using ih
      · simp [Table.find, hj, Ne.symm hj] at ih ⊢; exact ih
    · by_cases hj : i = j
      · subst hj; simp [Table.find, hi]
      · simp [Table.find, hi, hj] at ih ⊢; exact ih

/-- A record that is found stands in the table under its key. -/
theorem Table.mem_of_find {α : Type} {k : Nat} {v : α} {t : List (Nat × α)} (h : Table.find k t = some v) :
    (k, v) ∈ t := by
  induction t with
  | nil => simp [Table.find] at h
  | cons a t ih =>
    obtain ⟨i, w⟩ := a
    unfold Table.find at h
    split at h
    · rename_i hk; simp at h; simp [hk, h]
    · exact List.mem_cons_of_mem _ (ih h)

/-! ## Flags -/

/-- Two flags never share a place in the table (R174). -/
theorem FlagId.index_inj {f g : FlagId} (h : f.index = g.index) : f = g := by
  have hv : f.index.val = g.index.val := by rw [h]
  clear h
  cases f with
  | crane k c =>
    cases g with
    | crane k' c' =>
      revert hv
      cases k <;> cases c <;> cases k' <;> cases c' <;>
        first | (intro _; rfl) | (intro hv; exact absurd hv (by decide))
    | bayIntrusion b => revert hv; cases k <;> cases c <;> cases b <;> (intro hv; exact absurd hv (by decide))
    | estop r => revert hv; cases k <;> cases c <;> cases r <;> (intro hv; exact absurd hv (by decide))
    | _ => revert hv; cases k <;> cases c <;> (intro hv; exact absurd hv (by decide))
  | bayIntrusion b =>
    cases g with
    | crane k c => revert hv; cases k <;> cases c <;> cases b <;> (intro hv; exact absurd hv (by decide))
    | bayIntrusion b' =>
      revert hv
      cases b <;> cases b' <;> first | (intro _; rfl) | (intro hv; exact absurd hv (by decide))
    | estop r => revert hv; cases b <;> cases r <;> (intro hv; exact absurd hv (by decide))
    | _ => revert hv; cases b <;> (intro hv; exact absurd hv (by decide))
  | estop r =>
    cases g with
    | crane k c => revert hv; cases k <;> cases c <;> cases r <;> (intro hv; exact absurd hv (by decide))
    | bayIntrusion b => revert hv; cases b <;> cases r <;> (intro hv; exact absurd hv (by decide))
    | estop r' =>
      revert hv
      cases r <;> cases r' <;> first | (intro _; rfl) | (intro hv; exact absurd hv (by decide))
    | _ => revert hv; cases r <;> (intro hv; exact absurd hv (by decide))
  | _ =>
    cases g with
    | crane k c => revert hv; cases k <;> cases c <;> (intro hv; exact absurd hv (by decide))
    | bayIntrusion b => revert hv; cases b <;> (intro hv; exact absurd hv (by decide))
    | estop r => revert hv; cases r <;> (intro hv; exact absurd hv (by decide))
    | _ => first | rfl | exact absurd hv (by decide)

/-- Every flag stands in the listing of R177. -/
theorem mem_allFlags (f : FlagId) : f ∈ allFlags := by
  cases f with
  | crane k c => cases k <;> cases c <;> decide
  | bayIntrusion b => cases b <;> decide
  | estop r => cases r <;> decide
  | _ => decide

@[simp] theorem Fnu.flag_setFlag_same (u : Fnu) (f : FlagId) (v : Flag) : (u.setFlag f v).flag f = v := by
  simp [Fnu.flag, Fnu.setFlag]

theorem Fnu.flag_setFlag_ne (u : Fnu) {f g : FlagId} (v : Flag) (h : g ≠ f) :
    (u.setFlag f v).flag g = u.flag g := by
  have hi : f.index.val ≠ g.index.val := fun e => h (FlagId.index_inj (Fin.ext e)).symm
  simp [Fnu.flag, Fnu.setFlag, hi]

/-- Queueing a notice, and raising a flag, only add at the queue's end (R179). -/
theorem Fnu.offer_prefix (u : Fnu) (n : Notice) : u.notices <+: (u.offer n).notices := by
  unfold Fnu.offer
  split <;> simp

theorem Fnu.raise_prefix (u : Fnu) (f : FlagId) : u.notices <+: (u.raise f).notices := by
  unfold Fnu.raise
  split
  · exact List.prefix_refl _
  · exact Fnu.offer_prefix (u.setFlag f _) _

end Sys2Proof.Machine
end

