-- ==== Sys2Proof/Laws/State.lean ====
section
/-! SUPPORT. Each field of the state after each update of a part of it: true by `rfl`. -/

namespace Sys2Proof.Machine

@[simp] theorem State.now_setNow (s : State) (v : Nat) : (s.setNow v).now = v := rfl
@[simp] theorem State.lsu_setNow (s : State) (v : Nat) : (s.setNow v).lsu = s.lsu := rfl
@[simp] theorem State.smu_setNow (s : State) (v : Nat) : (s.setNow v).smu = s.smu := rfl
@[simp] theorem State.tcu_setNow (s : State) (v : Nat) : (s.setNow v).tcu = s.tcu := rfl
@[simp] theorem State.links_setNow (s : State) (v : Nat) : (s.setNow v).links = s.links := rfl
@[simp] theorem State.ports_setNow (s : State) (v : Nat) : (s.setNow v).ports = s.ports := rfl
@[simp] theorem State.hoists_setNow (s : State) (v : Nat) : (s.setNow v).hoists = s.hoists := rfl
@[simp] theorem State.rcu_setNow (s : State) (v : Nat) : (s.setNow v).rcu = s.rcu := rfl
@[simp] theorem State.bcu_setNow (s : State) (v : Nat) : (s.setNow v).bcu = s.bcu := rfl
@[simp] theorem State.dio_setNow (s : State) (v : Nat) : (s.setNow v).dio = s.dio := rfl
@[simp] theorem State.fnu_setNow (s : State) (v : Nat) : (s.setNow v).fnu = s.fnu := rfl
@[simp] theorem State.hlu_setNow (s : State) (v : Nat) : (s.setNow v).hlu = s.hlu := rfl
@[simp] theorem State.pending_setNow (s : State) (v : Nat) : (s.setNow v).pending = s.pending := rfl

@[simp] theorem State.now_setLsu (s : State) (v : Lsu) : (s.setLsu v).now = s.now := rfl
@[simp] theorem State.lsu_setLsu (s : State) (v : Lsu) : (s.setLsu v).lsu = v := rfl
@[simp] theorem State.smu_setLsu (s : State) (v : Lsu) : (s.setLsu v).smu = s.smu := rfl
@[simp] theorem State.tcu_setLsu (s : State) (v : Lsu) : (s.setLsu v).tcu = s.tcu := rfl
@[simp] theorem State.links_setLsu (s : State) (v : Lsu) : (s.setLsu v).links = s.links := rfl
@[simp] theorem State.ports_setLsu (s : State) (v : Lsu) : (s.setLsu v).ports = s.ports := rfl
@[simp] theorem State.hoists_setLsu (s : State) (v : Lsu) : (s.setLsu v).hoists = s.hoists := rfl
@[simp] theorem State.rcu_setLsu (s : State) (v : Lsu) : (s.setLsu v).rcu = s.rcu := rfl
@[simp] theorem State.bcu_setLsu (s : State) (v : Lsu) : (s.setLsu v).bcu = s.bcu := rfl
@[simp] theorem State.dio_setLsu (s : State) (v : Lsu) : (s.setLsu v).dio = s.dio := rfl
@[simp] theorem State.fnu_setLsu (s : State) (v : Lsu) : (s.setLsu v).fnu = s.fnu := rfl
@[simp] theorem State.hlu_setLsu (s : State) (v : Lsu) : (s.setLsu v).hlu = s.hlu := rfl
@[simp] theorem State.pending_setLsu (s : State) (v : Lsu) : (s.setLsu v).pending = s.pending := rfl

@[simp] theorem State.now_setSmu (s : State) (v : Smu) : (s.setSmu v).now = s.now := rfl
@[simp] theorem State.lsu_setSmu (s : State) (v : Smu) : (s.setSmu v).lsu = s.lsu := rfl
@[simp] theorem State.smu_setSmu (s : State) (v : Smu) : (s.setSmu v).smu = v := rfl
@[simp] theorem State.tcu_setSmu (s : State) (v : Smu) : (s.setSmu v).tcu = s.tcu := rfl
@[simp] theorem State.links_setSmu (s : State) (v : Smu) : (s.setSmu v).links = s.links := rfl
@[simp] theorem State.ports_setSmu (s : State) (v : Smu) : (s.setSmu v).ports = s.ports := rfl
@[simp] theorem State.hoists_setSmu (s : State) (v : Smu) : (s.setSmu v).hoists = s.hoists := rfl
@[simp] theorem State.rcu_setSmu (s : State) (v : Smu) : (s.setSmu v).rcu = s.rcu := rfl
@[simp] theorem State.bcu_setSmu (s : State) (v : Smu) : (s.setSmu v).bcu = s.bcu := rfl
@[simp] theorem State.dio_setSmu (s : State) (v : Smu) : (s.setSmu v).dio = s.dio := rfl
@[simp] theorem State.fnu_setSmu (s : State) (v : Smu) : (s.setSmu v).fnu = s.fnu := rfl
@[simp] theorem State.hlu_setSmu (s : State) (v : Smu) : (s.setSmu v).hlu = s.hlu := rfl
@[simp] theorem State.pending_setSmu (s : State) (v : Smu) : (s.setSmu v).pending = s.pending := rfl

@[simp] theorem State.now_setTcu (s : State) (v : Tcu) : (s.setTcu v).now = s.now := rfl
@[simp] theorem State.lsu_setTcu (s : State) (v : Tcu) : (s.setTcu v).lsu = s.lsu := rfl
@[simp] theorem State.smu_setTcu (s : State) (v : Tcu) : (s.setTcu v).smu = s.smu := rfl
@[simp] theorem State.tcu_setTcu (s : State) (v : Tcu) : (s.setTcu v).tcu = v := rfl
@[simp] theorem State.links_setTcu (s : State) (v : Tcu) : (s.setTcu v).links = s.links := rfl
@[simp] theorem State.ports_setTcu (s : State) (v : Tcu) : (s.setTcu v).ports = s.ports := rfl
@[simp] theorem State.hoists_setTcu (s : State) (v : Tcu) : (s.setTcu v).hoists = s.hoists := rfl
@[simp] theorem State.rcu_setTcu (s : State) (v : Tcu) : (s.setTcu v).rcu = s.rcu := rfl
@[simp] theorem State.bcu_setTcu (s : State) (v : Tcu) : (s.setTcu v).bcu = s.bcu := rfl
@[simp] theorem State.dio_setTcu (s : State) (v : Tcu) : (s.setTcu v).dio = s.dio := rfl
@[simp] theorem State.fnu_setTcu (s : State) (v : Tcu) : (s.setTcu v).fnu = s.fnu := rfl
@[simp] theorem State.hlu_setTcu (s : State) (v : Tcu) : (s.setTcu v).hlu = s.hlu := rfl
@[simp] theorem State.pending_setTcu (s : State) (v : Tcu) : (s.setTcu v).pending = s.pending := rfl

@[simp] theorem State.now_setLinks (s : State) (v : Quad (Option CraneLink)) : (s.setLinks v).now = s.now := rfl
@[simp] theorem State.lsu_setLinks (s : State) (v : Quad (Option CraneLink)) : (s.setLinks v).lsu = s.lsu := rfl
@[simp] theorem State.smu_setLinks (s : State) (v : Quad (Option CraneLink)) : (s.setLinks v).smu = s.smu := rfl
@[simp] theorem State.tcu_setLinks (s : State) (v : Quad (Option CraneLink)) : (s.setLinks v).tcu = s.tcu := rfl
@[simp] theorem State.links_setLinks (s : State) (v : Quad (Option CraneLink)) : (s.setLinks v).links = v := rfl
@[simp] theorem State.ports_setLinks (s : State) (v : Quad (Option CraneLink)) : (s.setLinks v).ports = s.ports := rfl
@[simp] theorem State.hoists_setLinks (s : State) (v : Quad (Option CraneLink)) : (s.setLinks v).hoists = s.hoists := rfl
@[simp] theorem State.rcu_setLinks (s : State) (v : Quad (Option CraneLink)) : (s.setLinks v).rcu = s.rcu := rfl
@[simp] theorem State.bcu_setLinks (s : State) (v : Quad (Option CraneLink)) : (s.setLinks v).bcu = s.bcu := rfl
@[simp] theorem State.dio_setLinks (s : State) (v : Quad (Option CraneLink)) : (s.setLinks v).dio = s.dio := rfl
@[simp] theorem State.fnu_setLinks (s : State) (v : Quad (Option CraneLink)) : (s.setLinks v).fnu = s.fnu := rfl
@[simp] theorem State.hlu_setLinks (s : State) (v : Quad (Option CraneLink)) : (s.setLinks v).hlu = s.hlu := rfl
@[simp] theorem State.pending_setLinks (s : State) (v : Quad (Option CraneLink)) : (s.setLinks v).pending = s.pending := rfl

@[simp] theorem State.now_setPorts (s : State) (v : Quad Port) : (s.setPorts v).now = s.now := rfl
@[simp] theorem State.lsu_setPorts (s : State) (v : Quad Port) : (s.setPorts v).lsu = s.lsu := rfl
@[simp] theorem State.smu_setPorts (s : State) (v : Quad Port) : (s.setPorts v).smu = s.smu := rfl
@[simp] theorem State.tcu_setPorts (s : State) (v : Quad Port) : (s.setPorts v).tcu = s.tcu := rfl
@[simp] theorem State.links_setPorts (s : State) (v : Quad Port) : (s.setPorts v).links = s.links := rfl
@[simp] theorem State.ports_setPorts (s : State) (v : Quad Port) : (s.setPorts v).ports = v := rfl
@[simp] theorem State.hoists_setPorts (s : State) (v : Quad Port) : (s.setPorts v).hoists = s.hoists := rfl
@[simp] theorem State.rcu_setPorts (s : State) (v : Quad Port) : (s.setPorts v).rcu = s.rcu := rfl
@[simp] theorem State.bcu_setPorts (s : State) (v : Quad Port) : (s.setPorts v).bcu = s.bcu := rfl
@[simp] theorem State.dio_setPorts (s : State) (v : Quad Port) : (s.setPorts v).dio = s.dio := rfl
@[simp] theorem State.fnu_setPorts (s : State) (v : Quad Port) : (s.setPorts v).fnu = s.fnu := rfl
@[simp] theorem State.hlu_setPorts (s : State) (v : Quad Port) : (s.setPorts v).hlu = s.hlu := rfl
@[simp] theorem State.pending_setPorts (s : State) (v : Quad Port) : (s.setPorts v).pending = s.pending := rfl

@[simp] theorem State.now_setHoists (s : State) (v : Quad (Option Hoist)) : (s.setHoists v).now = s.now := rfl
@[simp] theorem State.lsu_setHoists (s : State) (v : Quad (Option Hoist)) : (s.setHoists v).lsu = s.lsu := rfl
@[simp] theorem State.smu_setHoists (s : State) (v : Quad (Option Hoist)) : (s.setHoists v).smu = s.smu := rfl
@[simp] theorem State.tcu_setHoists (s : State) (v : Quad (Option Hoist)) : (s.setHoists v).tcu = s.tcu := rfl
@[simp] theorem State.links_setHoists (s : State) (v : Quad (Option Hoist)) : (s.setHoists v).links = s.links := rfl
@[simp] theorem State.ports_setHoists (s : State) (v : Quad (Option Hoist)) : (s.setHoists v).ports = s.ports := rfl
@[simp] theorem State.hoists_setHoists (s : State) (v : Quad (Option Hoist)) : (s.setHoists v).hoists = v := rfl
@[simp] theorem State.rcu_setHoists (s : State) (v : Quad (Option Hoist)) : (s.setHoists v).rcu = s.rcu := rfl
@[simp] theorem State.bcu_setHoists (s : State) (v : Quad (Option Hoist)) : (s.setHoists v).bcu = s.bcu := rfl
@[simp] theorem State.dio_setHoists (s : State) (v : Quad (Option Hoist)) : (s.setHoists v).dio = s.dio := rfl
@[simp] theorem State.fnu_setHoists (s : State) (v : Quad (Option Hoist)) : (s.setHoists v).fnu = s.fnu := rfl
@[simp] theorem State.hlu_setHoists (s : State) (v : Quad (Option Hoist)) : (s.setHoists v).hlu = s.hlu := rfl
@[simp] theorem State.pending_setHoists (s : State) (v : Quad (Option Hoist)) : (s.setHoists v).pending = s.pending := rfl

@[simp] theorem State.now_setRcu (s : State) (v : Rcu) : (s.setRcu v).now = s.now := rfl
@[simp] theorem State.lsu_setRcu (s : State) (v : Rcu) : (s.setRcu v).lsu = s.lsu := rfl
@[simp] theorem State.smu_setRcu (s : State) (v : Rcu) : (s.setRcu v).smu = s.smu := rfl
@[simp] theorem State.tcu_setRcu (s : State) (v : Rcu) : (s.setRcu v).tcu = s.tcu := rfl
@[simp] theorem State.links_setRcu (s : State) (v : Rcu) : (s.setRcu v).links = s.links := rfl
@[simp] theorem State.ports_setRcu (s : State) (v : Rcu) : (s.setRcu v).ports = s.ports := rfl
@[simp] theorem State.hoists_setRcu (s : State) (v : Rcu) : (s.setRcu v).hoists = s.hoists := rfl
@[simp] theorem State.rcu_setRcu (s : State) (v : Rcu) : (s.setRcu v).rcu = v := rfl
@[simp] theorem State.bcu_setRcu (s : State) (v : Rcu) : (s.setRcu v).bcu = s.bcu := rfl
@[simp] theorem State.dio_setRcu (s : State) (v : Rcu) : (s.setRcu v).dio = s.dio := rfl
@[simp] theorem State.fnu_setRcu (s : State) (v : Rcu) : (s.setRcu v).fnu = s.fnu := rfl
@[simp] theorem State.hlu_setRcu (s : State) (v : Rcu) : (s.setRcu v).hlu = s.hlu := rfl
@[simp] theorem State.pending_setRcu (s : State) (v : Rcu) : (s.setRcu v).pending = s.pending := rfl

@[simp] theorem State.now_setBcu (s : State) (v : Bcu) : (s.setBcu v).now = s.now := rfl
@[simp] theorem State.lsu_setBcu (s : State) (v : Bcu) : (s.setBcu v).lsu = s.lsu := rfl
@[simp] theorem State.smu_setBcu (s : State) (v : Bcu) : (s.setBcu v).smu = s.smu := rfl
@[simp] theorem State.tcu_setBcu (s : State) (v : Bcu) : (s.setBcu v).tcu = s.tcu := rfl
@[simp] theorem State.links_setBcu (s : State) (v : Bcu) : (s.setBcu v).links = s.links := rfl
@[simp] theorem State.ports_setBcu (s : State) (v : Bcu) : (s.setBcu v).ports = s.ports := rfl
@[simp] theorem State.hoists_setBcu (s : State) (v : Bcu) : (s.setBcu v).hoists = s.hoists := rfl
@[simp] theorem State.rcu_setBcu (s : State) (v : Bcu) : (s.setBcu v).rcu = s.rcu := rfl
@[simp] theorem State.bcu_setBcu (s : State) (v : Bcu) : (s.setBcu v).bcu = v := rfl
@[simp] theorem State.dio_setBcu (s : State) (v : Bcu) : (s.setBcu v).dio = s.dio := rfl
@[simp] theorem State.fnu_setBcu (s : State) (v : Bcu) : (s.setBcu v).fnu = s.fnu := rfl
@[simp] theorem State.hlu_setBcu (s : State) (v : Bcu) : (s.setBcu v).hlu = s.hlu := rfl
@[simp] theorem State.pending_setBcu (s : State) (v : Bcu) : (s.setBcu v).pending = s.pending := rfl

@[simp] theorem State.now_setDio (s : State) (v : Dio) : (s.setDio v).now = s.now := rfl
@[simp] theorem State.lsu_setDio (s : State) (v : Dio) : (s.setDio v).lsu = s.lsu := rfl
@[simp] theorem State.smu_setDio (s : State) (v : Dio) : (s.setDio v).smu = s.smu := rfl
@[simp] theorem State.tcu_setDio (s : State) (v : Dio) : (s.setDio v).tcu = s.tcu := rfl
@[simp] theorem State.links_setDio (s : State) (v : Dio) : (s.setDio v).links = s.links := rfl
@[simp] theorem State.ports_setDio (s : State) (v : Dio) : (s.setDio v).ports = s.ports := rfl
@[simp] theorem State.hoists_setDio (s : State) (v : Dio) : (s.setDio v).hoists = s.hoists := rfl
@[simp] theorem State.rcu_setDio (s : State) (v : Dio) : (s.setDio v).rcu = s.rcu := rfl
@[simp] theorem State.bcu_setDio (s : State) (v : Dio) : (s.setDio v).bcu = s.bcu := rfl
@[simp] theorem State.dio_setDio (s : State) (v : Dio) : (s.setDio v).dio = v := rfl
@[simp] theorem State.fnu_setDio (s : State) (v : Dio) : (s.setDio v).fnu = s.fnu := rfl
@[simp] theorem State.hlu_setDio (s : State) (v : Dio) : (s.setDio v).hlu = s.hlu := rfl
@[simp] theorem State.pending_setDio (s : State) (v : Dio) : (s.setDio v).pending = s.pending := rfl

@[simp] theorem State.now_setFnu (s : State) (v : Fnu) : (s.setFnu v).now = s.now := rfl
@[simp] theorem State.lsu_setFnu (s : State) (v : Fnu) : (s.setFnu v).lsu = s.lsu := rfl
@[simp] theorem State.smu_setFnu (s : State) (v : Fnu) : (s.setFnu v).smu = s.smu := rfl
@[simp] theorem State.tcu_setFnu (s : State) (v : Fnu) : (s.setFnu v).tcu = s.tcu := rfl
@[simp] theorem State.links_setFnu (s : State) (v : Fnu) : (s.setFnu v).links = s.links := rfl
@[simp] theorem State.ports_setFnu (s : State) (v : Fnu) : (s.setFnu v).ports = s.ports := rfl
@[simp] theorem State.hoists_setFnu (s : State) (v : Fnu) : (s.setFnu v).hoists = s.hoists := rfl
@[simp] theorem State.rcu_setFnu (s : State) (v : Fnu) : (s.setFnu v).rcu = s.rcu := rfl
@[simp] theorem State.bcu_setFnu (s : State) (v : Fnu) : (s.setFnu v).bcu = s.bcu := rfl
@[simp] theorem State.dio_setFnu (s : State) (v : Fnu) : (s.setFnu v).dio = s.dio := rfl
@[simp] theorem State.fnu_setFnu (s : State) (v : Fnu) : (s.setFnu v).fnu = v := rfl
@[simp] theorem State.hlu_setFnu (s : State) (v : Fnu) : (s.setFnu v).hlu = s.hlu := rfl
@[simp] theorem State.pending_setFnu (s : State) (v : Fnu) : (s.setFnu v).pending = s.pending := rfl

@[simp] theorem State.now_setHlu (s : State) (v : Hlu) : (s.setHlu v).now = s.now := rfl
@[simp] theorem State.lsu_setHlu (s : State) (v : Hlu) : (s.setHlu v).lsu = s.lsu := rfl
@[simp] theorem State.smu_setHlu (s : State) (v : Hlu) : (s.setHlu v).smu = s.smu := rfl
@[simp] theorem State.tcu_setHlu (s : State) (v : Hlu) : (s.setHlu v).tcu = s.tcu := rfl
@[simp] theorem State.links_setHlu (s : State) (v : Hlu) : (s.setHlu v).links = s.links := rfl
@[simp] theorem State.ports_setHlu (s : State) (v : Hlu) : (s.setHlu v).ports = s.ports := rfl
@[simp] theorem State.hoists_setHlu (s : State) (v : Hlu) : (s.setHlu v).hoists = s.hoists := rfl
@[simp] theorem State.rcu_setHlu (s : State) (v : Hlu) : (s.setHlu v).rcu = s.rcu := rfl
@[simp] theorem State.bcu_setHlu (s : State) (v : Hlu) : (s.setHlu v).bcu = s.bcu := rfl
@[simp] theorem State.dio_setHlu (s : State) (v : Hlu) : (s.setHlu v).dio = s.dio := rfl
@[simp] theorem State.fnu_setHlu (s : State) (v : Hlu) : (s.setHlu v).fnu = s.fnu := rfl
@[simp] theorem State.hlu_setHlu (s : State) (v : Hlu) : (s.setHlu v).hlu = v := rfl
@[simp] theorem State.pending_setHlu (s : State) (v : Hlu) : (s.setHlu v).pending = s.pending := rfl

@[simp] theorem State.now_setPending (s : State) (v : List Instr) : (s.setPending v).now = s.now := rfl
@[simp] theorem State.lsu_setPending (s : State) (v : List Instr) : (s.setPending v).lsu = s.lsu := rfl
@[simp] theorem State.smu_setPending (s : State) (v : List Instr) : (s.setPending v).smu = s.smu := rfl
@[simp] theorem State.tcu_setPending (s : State) (v : List Instr) : (s.setPending v).tcu = s.tcu := rfl
@[simp] theorem State.links_setPending (s : State) (v : List Instr) : (s.setPending v).links = s.links := rfl
@[simp] theorem State.ports_setPending (s : State) (v : List Instr) : (s.setPending v).ports = s.ports := rfl
@[simp] theorem State.hoists_setPending (s : State) (v : List Instr) : (s.setPending v).hoists = s.hoists := rfl
@[simp] theorem State.rcu_setPending (s : State) (v : List Instr) : (s.setPending v).rcu = s.rcu := rfl
@[simp] theorem State.bcu_setPending (s : State) (v : List Instr) : (s.setPending v).bcu = s.bcu := rfl
@[simp] theorem State.dio_setPending (s : State) (v : List Instr) : (s.setPending v).dio = s.dio := rfl
@[simp] theorem State.fnu_setPending (s : State) (v : List Instr) : (s.setPending v).fnu = s.fnu := rfl
@[simp] theorem State.hlu_setPending (s : State) (v : List Instr) : (s.setPending v).hlu = s.hlu := rfl
@[simp] theorem State.pending_setPending (s : State) (v : List Instr) : (s.setPending v).pending = v := rfl

@[simp] theorem State.links_modLink (s : State) (c : CraneId) (f : CraneLink → CraneLink) :
    (s.modLink c f).links = s.links.modify c (Option.map f) := rfl
@[simp] theorem State.now_modLink (s : State) (c : CraneId) (f : CraneLink → CraneLink) : (s.modLink c f).now = s.now := rfl
@[simp] theorem State.lsu_modLink (s : State) (c : CraneId) (f : CraneLink → CraneLink) : (s.modLink c f).lsu = s.lsu := rfl
@[simp] theorem State.smu_modLink (s : State) (c : CraneId) (f : CraneLink → CraneLink) : (s.modLink c f).smu = s.smu := rfl
@[simp] theorem State.tcu_modLink (s : State) (c : CraneId) (f : CraneLink → CraneLink) : (s.modLink c f).tcu = s.tcu := rfl
@[simp] theorem State.ports_modLink (s : State) (c : CraneId) (f : CraneLink → CraneLink) : (s.modLink c f).ports = s.ports := rfl
@[simp] theorem State.hoists_modLink (s : State) (c : CraneId) (f : CraneLink → CraneLink) : (s.modLink c f).hoists = s.hoists := rfl
@[simp] theorem State.rcu_modLink (s : State) (c : CraneId) (f : CraneLink → CraneLink) : (s.modLink c f).rcu = s.rcu := rfl
@[simp] theorem State.bcu_modLink (s : State) (c : CraneId) (f : CraneLink → CraneLink) : (s.modLink c f).bcu = s.bcu := rfl
@[simp] theorem State.dio_modLink (s : State) (c : CraneId) (f : CraneLink → CraneLink) : (s.modLink c f).dio = s.dio := rfl
@[simp] theorem State.fnu_modLink (s : State) (c : CraneId) (f : CraneLink → CraneLink) : (s.modLink c f).fnu = s.fnu := rfl
@[simp] theorem State.hlu_modLink (s : State) (c : CraneId) (f : CraneLink → CraneLink) : (s.modLink c f).hlu = s.hlu := rfl
@[simp] theorem State.pending_modLink (s : State) (c : CraneId) (f : CraneLink → CraneLink) : (s.modLink c f).pending = s.pending := rfl

@[simp] theorem State.hoists_modHoist (s : State) (c : CraneId) (f : Hoist → Hoist) :
    (s.modHoist c f).hoists = s.hoists.modify c (Option.map f) := rfl
@[simp] theorem State.now_modHoist (s : State) (c : CraneId) (f : Hoist → Hoist) : (s.modHoist c f).now = s.now := rfl
@[simp] theorem State.lsu_modHoist (s : State) (c : CraneId) (f : Hoist → Hoist) : (s.modHoist c f).lsu = s.lsu := rfl
@[simp] theorem State.smu_modHoist (s : State) (c : CraneId) (f : Hoist → Hoist) : (s.modHoist c f).smu = s.smu := rfl
@[simp] theorem State.tcu_modHoist (s : State) (c : CraneId) (f : Hoist → Hoist) : (s.modHoist c f).tcu = s.tcu := rfl
@[simp] theorem State.links_modHoist (s : State) (c : CraneId) (f : Hoist → Hoist) : (s.modHoist c f).links = s.links := rfl
@[simp] theorem State.ports_modHoist (s : State) (c : CraneId) (f : Hoist → Hoist) : (s.modHoist c f).ports = s.ports := rfl
@[simp] theorem State.rcu_modHoist (s : State) (c : CraneId) (f : Hoist → Hoist) : (s.modHoist c f).rcu = s.rcu := rfl
@[simp] theorem State.bcu_modHoist (s : State) (c : CraneId) (f : Hoist → Hoist) : (s.modHoist c f).bcu = s.bcu := rfl
@[simp] theorem State.dio_modHoist (s : State) (c : CraneId) (f : Hoist → Hoist) : (s.modHoist c f).dio = s.dio := rfl
@[simp] theorem State.fnu_modHoist (s : State) (c : CraneId) (f : Hoist → Hoist) : (s.modHoist c f).fnu = s.fnu := rfl
@[simp] theorem State.hlu_modHoist (s : State) (c : CraneId) (f : Hoist → Hoist) : (s.modHoist c f).hlu = s.hlu := rfl
@[simp] theorem State.pending_modHoist (s : State) (c : CraneId) (f : Hoist → Hoist) : (s.modHoist c f).pending = s.pending := rfl

@[simp] theorem State.rcu_modCrane (s : State) (c : CraneId) (f : RcuCrane → RcuCrane) :
    (s.modCrane c f).rcu = { s.rcu with cranes := s.rcu.cranes.modify c (Option.map f) } := rfl
@[simp] theorem State.now_modCrane (s : State) (c : CraneId) (f : RcuCrane → RcuCrane) : (s.modCrane c f).now = s.now := rfl
@[simp] theorem State.lsu_modCrane (s : State) (c : CraneId) (f : RcuCrane → RcuCrane) : (s.modCrane c f).lsu = s.lsu := rfl
@[simp] theorem State.smu_modCrane (s : State) (c : CraneId) (f : RcuCrane → RcuCrane) : (s.modCrane c f).smu = s.smu := rfl
@[simp] theorem State.tcu_modCrane (s : State) (c : CraneId) (f : RcuCrane → RcuCrane) : (s.modCrane c f).tcu = s.tcu := rfl
@[simp] theorem State.links_modCrane (s : State) (c : CraneId) (f : RcuCrane → RcuCrane) : (s.modCrane c f).links = s.links := rfl
@[simp] theorem State.ports_modCrane (s : State) (c : CraneId) (f : RcuCrane → RcuCrane) : (s.modCrane c f).ports = s.ports := rfl
@[simp] theorem State.hoists_modCrane (s : State) (c : CraneId) (f : RcuCrane → RcuCrane) : (s.modCrane c f).hoists = s.hoists := rfl
@[simp] theorem State.bcu_modCrane (s : State) (c : CraneId) (f : RcuCrane → RcuCrane) : (s.modCrane c f).bcu = s.bcu := rfl
@[simp] theorem State.dio_modCrane (s : State) (c : CraneId) (f : RcuCrane → RcuCrane) : (s.modCrane c f).dio = s.dio := rfl
@[simp] theorem State.fnu_modCrane (s : State) (c : CraneId) (f : RcuCrane → RcuCrane) : (s.modCrane c f).fnu = s.fnu := rfl
@[simp] theorem State.hlu_modCrane (s : State) (c : CraneId) (f : RcuCrane → RcuCrane) : (s.modCrane c f).hlu = s.hlu := rfl
@[simp] theorem State.pending_modCrane (s : State) (c : CraneId) (f : RcuCrane → RcuCrane) : (s.modCrane c f).pending = s.pending := rfl

@[simp] theorem State.bcu_modBay (s : State) (b : BayId) (f : Bay → Bay) :
    (s.modBay b f).bcu = { s.bcu with bays := s.bcu.bays.modify b (Option.map f) } := rfl
@[simp] theorem State.now_modBay (s : State) (b : BayId) (f : Bay → Bay) : (s.modBay b f).now = s.now := rfl
@[simp] theorem State.lsu_modBay (s : State) (b : BayId) (f : Bay → Bay) : (s.modBay b f).lsu = s.lsu := rfl
@[simp] theorem State.smu_modBay (s : State) (b : BayId) (f : Bay → Bay) : (s.modBay b f).smu = s.smu := rfl
@[simp] theorem State.tcu_modBay (s : State) (b : BayId) (f : Bay → Bay) : (s.modBay b f).tcu = s.tcu := rfl
@[simp] theorem State.links_modBay (s : State) (b : BayId) (f : Bay → Bay) : (s.modBay b f).links = s.links := rfl
@[simp] theorem State.ports_modBay (s : State) (b : BayId) (f : Bay → Bay) : (s.modBay b f).ports = s.ports := rfl
@[simp] theorem State.hoists_modBay (s : State) (b : BayId) (f : Bay → Bay) : (s.modBay b f).hoists = s.hoists := rfl
@[simp] theorem State.rcu_modBay (s : State) (b : BayId) (f : Bay → Bay) : (s.modBay b f).rcu = s.rcu := rfl
@[simp] theorem State.dio_modBay (s : State) (b : BayId) (f : Bay → Bay) : (s.modBay b f).dio = s.dio := rfl
@[simp] theorem State.fnu_modBay (s : State) (b : BayId) (f : Bay → Bay) : (s.modBay b f).fnu = s.fnu := rfl
@[simp] theorem State.hlu_modBay (s : State) (b : BayId) (f : Bay → Bay) : (s.modBay b f).hlu = s.hlu := rfl
@[simp] theorem State.pending_modBay (s : State) (b : BayId) (f : Bay → Bay) : (s.modBay b f).pending = s.pending := rfl

@[simp] theorem State.ports_modPort (s : State) (c : CraneId) (f : Port → Port) :
    (s.modPort c f).ports = s.ports.modify c f := rfl
@[simp] theorem State.now_modPort (s : State) (c : CraneId) (f : Port → Port) : (s.modPort c f).now = s.now := rfl
@[simp] theorem State.lsu_modPort (s : State) (c : CraneId) (f : Port → Port) : (s.modPort c f).lsu = s.lsu := rfl
@[simp] theorem State.smu_modPort (s : State) (c : CraneId) (f : Port → Port) : (s.modPort c f).smu = s.smu := rfl
@[simp] theorem State.tcu_modPort (s : State) (c : CraneId) (f : Port → Port) : (s.modPort c f).tcu = s.tcu := rfl
@[simp] theorem State.links_modPort (s : State) (c : CraneId) (f : Port → Port) : (s.modPort c f).links = s.links := rfl
@[simp] theorem State.hoists_modPort (s : State) (c : CraneId) (f : Port → Port) : (s.modPort c f).hoists = s.hoists := rfl
@[simp] theorem State.rcu_modPort (s : State) (c : CraneId) (f : Port → Port) : (s.modPort c f).rcu = s.rcu := rfl
@[simp] theorem State.bcu_modPort (s : State) (c : CraneId) (f : Port → Port) : (s.modPort c f).bcu = s.bcu := rfl
@[simp] theorem State.dio_modPort (s : State) (c : CraneId) (f : Port → Port) : (s.modPort c f).dio = s.dio := rfl
@[simp] theorem State.fnu_modPort (s : State) (c : CraneId) (f : Port → Port) : (s.modPort c f).fnu = s.fnu := rfl
@[simp] theorem State.hlu_modPort (s : State) (c : CraneId) (f : Port → Port) : (s.modPort c f).hlu = s.hlu := rfl
@[simp] theorem State.pending_modPort (s : State) (c : CraneId) (f : Port → Port) : (s.modPort c f).pending = s.pending := rfl

@[simp] theorem State.tcu_setQueue (s : State) (c : CraneId) (q : List Task) :
    (s.setQueue c q).tcu = { s.tcu with queues := s.tcu.queues.set c q } := rfl
@[simp] theorem State.now_setQueue (s : State) (c : CraneId) (q : List Task) : (s.setQueue c q).now = s.now := rfl
@[simp] theorem State.lsu_setQueue (s : State) (c : CraneId) (q : List Task) : (s.setQueue c q).lsu = s.lsu := rfl
@[simp] theorem State.smu_setQueue (s : State) (c : CraneId) (q : List Task) : (s.setQueue c q).smu = s.smu := rfl
@[simp] theorem State.links_setQueue (s : State) (c : CraneId) (q : List Task) : (s.setQueue c q).links = s.links := rfl
@[simp] theorem State.ports_setQueue (s : State) (c : CraneId) (q : List Task) : (s.setQueue c q).ports = s.ports := rfl
@[simp] theorem State.hoists_setQueue (s : State) (c : CraneId) (q : List Task) : (s.setQueue c q).hoists = s.hoists := rfl
@[simp] theorem State.rcu_setQueue (s : State) (c : CraneId) (q : List Task) : (s.setQueue c q).rcu = s.rcu := rfl
@[simp] theorem State.bcu_setQueue (s : State) (c : CraneId) (q : List Task) : (s.setQueue c q).bcu = s.bcu := rfl
@[simp] theorem State.dio_setQueue (s : State) (c : CraneId) (q : List Task) : (s.setQueue c q).dio = s.dio := rfl
@[simp] theorem State.fnu_setQueue (s : State) (c : CraneId) (q : List Task) : (s.setQueue c q).fnu = s.fnu := rfl
@[simp] theorem State.hlu_setQueue (s : State) (c : CraneId) (q : List Task) : (s.setQueue c q).hlu = s.hlu := rfl
@[simp] theorem State.pending_setQueue (s : State) (c : CraneId) (q : List Task) : (s.setQueue c q).pending = s.pending := rfl

@[simp] theorem State.tcu_modTask (s : State) (c : CraneId) (id : Nat) (f : Task → Task) :
    (s.modTask c id f).tcu = { s.tcu with queues := s.tcu.queues.set c ((s.tcu.queues.get c).map fun t => if t.id = id then f t else t) } := rfl
@[simp] theorem State.now_modTask (s : State) (c : CraneId) (id : Nat) (f : Task → Task) : (s.modTask c id f).now = s.now := rfl
@[simp] theorem State.lsu_modTask (s : State) (c : CraneId) (id : Nat) (f : Task → Task) : (s.modTask c id f).lsu = s.lsu := rfl
@[simp] theorem State.smu_modTask (s : State) (c : CraneId) (id : Nat) (f : Task → Task) : (s.modTask c id f).smu = s.smu := rfl
@[simp] theorem State.links_modTask (s : State) (c : CraneId) (id : Nat) (f : Task → Task) : (s.modTask c id f).links = s.links := rfl
@[simp] theorem State.ports_modTask (s : State) (c : CraneId) (id : Nat) (f : Task → Task) : (s.modTask c id f).ports = s.ports := rfl
@[simp] theorem State.hoists_modTask (s : State) (c : CraneId) (id : Nat) (f : Task → Task) : (s.modTask c id f).hoists = s.hoists := rfl
@[simp] theorem State.rcu_modTask (s : State) (c : CraneId) (id : Nat) (f : Task → Task) : (s.modTask c id f).rcu = s.rcu := rfl
@[simp] theorem State.bcu_modTask (s : State) (c : CraneId) (id : Nat) (f : Task → Task) : (s.modTask c id f).bcu = s.bcu := rfl
@[simp] theorem State.dio_modTask (s : State) (c : CraneId) (id : Nat) (f : Task → Task) : (s.modTask c id f).dio = s.dio := rfl
@[simp] theorem State.fnu_modTask (s : State) (c : CraneId) (id : Nat) (f : Task → Task) : (s.modTask c id f).fnu = s.fnu := rfl
@[simp] theorem State.hlu_modTask (s : State) (c : CraneId) (id : Nat) (f : Task → Task) : (s.modTask c id f).hlu = s.hlu := rfl
@[simp] theorem State.pending_modTask (s : State) (c : CraneId) (id : Nat) (f : Task → Task) : (s.modTask c id f).pending = s.pending := rfl

@[simp] theorem State.smu_setSlots (s : State) (t : List (Nat × Slot)) :
    (s.setSlots t).smu = { s.smu with slots := t } := rfl
@[simp] theorem State.now_setSlots (s : State) (t : List (Nat × Slot)) : (s.setSlots t).now = s.now := rfl
@[simp] theorem State.lsu_setSlots (s : State) (t : List (Nat × Slot)) : (s.setSlots t).lsu = s.lsu := rfl
@[simp] theorem State.tcu_setSlots (s : State) (t : List (Nat × Slot)) : (s.setSlots t).tcu = s.tcu := rfl
@[simp] theorem State.links_setSlots (s : State) (t : List (Nat × Slot)) : (s.setSlots t).links = s.links := rfl
@[simp] theorem State.ports_setSlots (s : State) (t : List (Nat × Slot)) : (s.setSlots t).ports = s.ports := rfl
@[simp] theorem State.hoists_setSlots (s : State) (t : List (Nat × Slot)) : (s.setSlots t).hoists = s.hoists := rfl
@[simp] theorem State.rcu_setSlots (s : State) (t : List (Nat × Slot)) : (s.setSlots t).rcu = s.rcu := rfl
@[simp] theorem State.bcu_setSlots (s : State) (t : List (Nat × Slot)) : (s.setSlots t).bcu = s.bcu := rfl
@[simp] theorem State.dio_setSlots (s : State) (t : List (Nat × Slot)) : (s.setSlots t).dio = s.dio := rfl
@[simp] theorem State.fnu_setSlots (s : State) (t : List (Nat × Slot)) : (s.setSlots t).fnu = s.fnu := rfl
@[simp] theorem State.hlu_setSlots (s : State) (t : List (Nat × Slot)) : (s.setSlots t).hlu = s.hlu := rfl
@[simp] theorem State.pending_setSlots (s : State) (t : List (Nat × Slot)) : (s.setSlots t).pending = s.pending := rfl

@[simp] theorem State.smu_setCoils (s : State) (t : List (Nat × Coil)) :
    (s.setCoils t).smu = { s.smu with coils := t } := rfl
@[simp] theorem State.now_setCoils (s : State) (t : List (Nat × Coil)) : (s.setCoils t).now = s.now := rfl
@[simp] theorem State.lsu_setCoils (s : State) (t : List (Nat × Coil)) : (s.setCoils t).lsu = s.lsu := rfl
@[simp] theorem State.tcu_setCoils (s : State) (t : List (Nat × Coil)) : (s.setCoils t).tcu = s.tcu := rfl
@[simp] theorem State.links_setCoils (s : State) (t : List (Nat × Coil)) : (s.setCoils t).links = s.links := rfl
@[simp] theorem State.ports_setCoils (s : State) (t : List (Nat × Coil)) : (s.setCoils t).ports = s.ports := rfl
@[simp] theorem State.hoists_setCoils (s : State) (t : List (Nat × Coil)) : (s.setCoils t).hoists = s.hoists := rfl
@[simp] theorem State.rcu_setCoils (s : State) (t : List (Nat × Coil)) : (s.setCoils t).rcu = s.rcu := rfl
@[simp] theorem State.bcu_setCoils (s : State) (t : List (Nat × Coil)) : (s.setCoils t).bcu = s.bcu := rfl
@[simp] theorem State.dio_setCoils (s : State) (t : List (Nat × Coil)) : (s.setCoils t).dio = s.dio := rfl
@[simp] theorem State.fnu_setCoils (s : State) (t : List (Nat × Coil)) : (s.setCoils t).fnu = s.fnu := rfl
@[simp] theorem State.hlu_setCoils (s : State) (t : List (Nat × Coil)) : (s.setCoils t).hlu = s.hlu := rfl
@[simp] theorem State.pending_setCoils (s : State) (t : List (Nat × Coil)) : (s.setCoils t).pending = s.pending := rfl

@[simp] theorem State.now_reach (s : State) (t : Nat) :
    (s.reach t).now = max s.now t := rfl
@[simp] theorem State.lsu_reach (s : State) (t : Nat) : (s.reach t).lsu = s.lsu := rfl
@[simp] theorem State.smu_reach (s : State) (t : Nat) : (s.reach t).smu = s.smu := rfl
@[simp] theorem State.tcu_reach (s : State) (t : Nat) : (s.reach t).tcu = s.tcu := rfl
@[simp] theorem State.links_reach (s : State) (t : Nat) : (s.reach t).links = s.links := rfl
@[simp] theorem State.ports_reach (s : State) (t : Nat) : (s.reach t).ports = s.ports := rfl
@[simp] theorem State.hoists_reach (s : State) (t : Nat) : (s.reach t).hoists = s.hoists := rfl
@[simp] theorem State.rcu_reach (s : State) (t : Nat) : (s.reach t).rcu = s.rcu := rfl
@[simp] theorem State.bcu_reach (s : State) (t : Nat) : (s.reach t).bcu = s.bcu := rfl
@[simp] theorem State.dio_reach (s : State) (t : Nat) : (s.reach t).dio = s.dio := rfl
@[simp] theorem State.fnu_reach (s : State) (t : Nat) : (s.reach t).fnu = s.fnu := rfl
@[simp] theorem State.hlu_reach (s : State) (t : Nat) : (s.reach t).hlu = s.hlu := rfl
@[simp] theorem State.pending_reach (s : State) (t : Nat) : (s.reach t).pending = s.pending := rfl

end Sys2Proof.Machine
end

