-- ==== Sys2Proof/Laws/Finds.lean ====
section
/-! SUPPORT. What a search finds: an entry of a table, the first offending item of a check, the crane of an
order index, the coils that a plan's entries put on its trailer. What a bay's change of state tells. -/

namespace Sys2Proof.Machine

/-- A table in its canonical form has one value at a key. -/
theorem Table.find_iff_mem {α : Type} {t : List (Nat × α)} (h : Table.wf t) (i : Nat) (v : α) :
    Table.find i t = some v ↔ (i, v) ∈ t := by
  induction t with
  | nil => simp [Table.find]
  | cons e t ih =>
    obtain ⟨j, w⟩ := e
    rw [Table.wf, List.map_cons, List.pairwise_cons] at h
    unfold Table.find
    split
    · rename_i hj
      simp only [Option.some.injEq, List.mem_cons, Prod.mk.injEq]
      refine ⟨fun e => .inl ⟨hj.symm, e.symm⟩, ?_⟩
      rintro (⟨_, e⟩ | e)
      · exact e.symm
      · have := h.1 i (List.mem_map.2 ⟨_, e, rfl⟩)
        simp at this
        omega
    · rename_i hj
      rw [ih h.2]
      simp [Ne.symm hj]

/-! ## The layout checks (R12) -/

theorem firstOffence_none {α : Type} {check kind : Nat} {key : α → Nat} {ok : α → Bool} {items : List α} :
    firstOffence check kind key ok items = none ↔ ∀ i ∈ items, ok i = true := by
  simp [firstOffence]

/-- The offence reported is that of the item with the least key, where the items come by rising key. -/
theorem firstOffence_some {α : Type} {check kind d : Nat} {key : α → Nat} {ok : α → Bool} {items : List α}
    (hs : (items.map key).Pairwise (· < ·)) (h : firstOffence check kind key ok items = some d) :
    ∃ i ∈ items, d = 4096 * check + 1024 * kind + key i ∧ ok i = false ∧
      ∀ j ∈ items, ok j = false → key i ≤ key j := by
  simp only [firstOffence, Option.map_eq_some_iff] at h
  obtain ⟨i, hi, rfl⟩ := h
  rw [List.find?_eq_some_iff_append] at hi
  obtain ⟨h1, as, bs, rfl, h2⟩ := hi
  refine ⟨i, by simp, rfl, by simpa using h1, ?_⟩
  intro j hj hk
  rw [List.mem_append, List.mem_cons] at hj
  rcases hj with hj | rfl | hj
  · have := h2 j hj
    simp [hk] at this
  · exact Nat.le_refl _
  · rw [List.map_append, List.pairwise_append] at hs
    have := hs.2.1
    rw [List.map_cons, List.pairwise_cons] at this
    exact Nat.le_of_lt (this.1 _ (List.mem_map_of_mem hj))

/-! ## The order of a runway's cranes (R121) -/

theorem State.craneAt_some {s : State} {r : RunwayId} {n : Nat} {d : CraneId} (h : s.craneAt r n = some d) :
    ∃ l q, s.links.get d = some l ∧ s.lsu.active.get d = some q ∧ q.runway = r ∧ q.order = n := by
  have := List.find?_some h
  simp only [Bool.and_eq_true] at this
  obtain ⟨l, hl⟩ := Option.isSome_iff_exists.1 this.1
  cases hq : s.lsu.active.get d with
  | none => simp [hq] at this
  | some q =>
    simp [hq] at this
    exact ⟨l, q, hl, rfl, this.2⟩

theorem State.craneAt_none {s : State} {r : RunwayId} {n : Nat} (h : s.craneAt r n = none) (d : CraneId) :
    ¬ ∃ l q, s.links.get d = some l ∧ s.lsu.active.get d = some q ∧ q.runway = r ∧ q.order = n := by
  rintro ⟨l, q, h1, h2, h3, h4⟩
  have := List.find?_eq_none.1 h d (by cases d <;> decide)
  simp [h1, h2, h3, h4] at this

/-! ## The coils of a plan (R158) -/

/-- The coils of some entries on a trailer, each with its weight and its position from the kingpin. -/
theorem Smu.standing_all (u : Smu) (h : PlanHead) {es : List (Nat × Nat)} {coils : List (Int × Nat)}
    (hf : List.Forall₂ (fun e x => ∃ r, u.coil? e.1 = some r ∧ 1 ≤ e.2 ∧
      h.cradles[e.2 - 1]? = some x.2 ∧ x.1 = r.measured.getD (r.declared : Int)) es coils) :
    es.filterMap (fun e => u.standing h e.1 e.2) = coils := by
  induction hf with
  | nil => rfl
  | @cons e x es xs hx _ ih =>
    obtain ⟨r, a, b, c, d⟩ := hx
    have hs : u.standing h e.1 e.2 = some x := by
      have : e.2 ≠ 0 := by omega
      simp only [Smu.standing, a, PlanHead.position?, if_neg this, c, Coil.weight]
      rw [← d]
    rw [List.filterMap_cons, hs, ih]

/-! ## What a bay's change of state tells (R151) -/

theorem State.setBayState_fnu (s : State) (b : BayId) (v : BayState) (y : Bay)
    (h : s.bcu.bays.get b = some y) (hv : y.state ≠ v) (hw : v ≠ .working) :
    (s.setBayState b v).fnu =
      (let told := s.fnu.offer (.bayState b y.state v y.secure y.manned)
       if y.intrusion then told.endCond s.lsu.settings.faultLatch (.bayIntrusion b) else told) := by
  have hb : ((s.modBay b fun y => { y with state := v }).notify
      (.bayState b y.state v y.secure y.manned)).bcu.bays.get b = some { y with state := v } := by
    simp [State.modBay, State.notify, h]
  have hf : (v == BayState.working) = false := by simpa using hw
  unfold State.setBayState State.followIntrusion
  simp only [h, hv, if_false, hb, Bay.intruded, State.report, hf, Bool.false_and, Bool.and_true, Bool.not_false]
  cases y.intrusion
  · rfl
  · simp; rfl

end Sys2Proof.Machine
end

