-- ==== Sys2Proof/Laws/Frames.lean ====
section
/-! SUPPORT. What each shared operation leaves unchanged: every part of the state that it does not write.
Each lemma is a conjunction that `simp` reads as one rewrite rule a part. -/

namespace Sys2Proof.Machine

set_option linter.unusedTactic false
set_option linter.unreachableTactic false

/-- A part of the state that every step of a fold keeps is kept by the fold. -/
theorem foldl_keeps {σ α β : Type} (f : σ → α → σ) (p : σ → β) (h : ∀ s a, p (f s a) = p s)
    (l : List α) (s : σ) : p (l.foldl f s) = p s := by
  induction l generalizing s with
  | nil => rfl
  | cons a t ih => simp [ih, h]

@[simp] theorem State.notify_keeps (s : State) (n : Notice) :
    (s.notify n).now = s.now ∧
    (s.notify n).lsu = s.lsu ∧
    (s.notify n).smu = s.smu ∧
    (s.notify n).tcu = s.tcu ∧
    (s.notify n).links = s.links ∧
    (s.notify n).ports = s.ports ∧
    (s.notify n).hoists = s.hoists ∧
    (s.notify n).rcu = s.rcu ∧
    (s.notify n).bcu = s.bcu ∧
    (s.notify n).dio = s.dio ∧
    (s.notify n).hlu = s.hlu ∧
    (s.notify n).pending = s.pending := by
  unfold State.notify
  try dsimp only
  refine ⟨?_, ?_, ?_, ?_, ?_, ?_, ?_, ?_, ?_, ?_, ?_, ?_⟩ <;> (repeat' split) <;> simp

@[simp] theorem State.raise_keeps (s : State) (f : FlagId) :
    (s.raise f).now = s.now ∧
    (s.raise f).lsu = s.lsu ∧
    (s.raise f).smu = s.smu ∧
    (s.raise f).tcu = s.tcu ∧
    (s.raise f).links = s.links ∧
    (s.raise f).ports = s.ports ∧
    (s.raise f).hoists = s.hoists ∧
    (s.raise f).rcu = s.rcu ∧
    (s.raise f).bcu = s.bcu ∧
    (s.raise f).hlu = s.hlu ∧
    (s.raise f).pending = s.pending := by
  unfold State.raise
  try dsimp only
  refine ⟨?_, ?_, ?_, ?_, ?_, ?_, ?_, ?_, ?_, ?_, ?_⟩ <;> (repeat' split) <;> simp

@[simp] theorem State.endCond_keeps (s : State) (f : FlagId) :
    (s.endCond f).now = s.now ∧
    (s.endCond f).lsu = s.lsu ∧
    (s.endCond f).smu = s.smu ∧
    (s.endCond f).tcu = s.tcu ∧
    (s.endCond f).links = s.links ∧
    (s.endCond f).ports = s.ports ∧
    (s.endCond f).hoists = s.hoists ∧
    (s.endCond f).rcu = s.rcu ∧
    (s.endCond f).bcu = s.bcu ∧
    (s.endCond f).hlu = s.hlu ∧
    (s.endCond f).pending = s.pending := by
  unfold State.endCond
  try dsimp only
  refine ⟨?_, ?_, ?_, ?_, ?_, ?_, ?_, ?_, ?_, ?_, ?_⟩ <;> (repeat' split) <;> simp

@[simp] theorem State.clearFlag_keeps (s : State) (f : FlagId) :
    (s.clearFlag f).now = s.now ∧
    (s.clearFlag f).lsu = s.lsu ∧
    (s.clearFlag f).smu = s.smu ∧
    (s.clearFlag f).tcu = s.tcu ∧
    (s.clearFlag f).links = s.links ∧
    (s.clearFlag f).ports = s.ports ∧
    (s.clearFlag f).hoists = s.hoists ∧
    (s.clearFlag f).rcu = s.rcu ∧
    (s.clearFlag f).bcu = s.bcu ∧
    (s.clearFlag f).hlu = s.hlu ∧
    (s.clearFlag f).pending = s.pending := by
  unfold State.clearFlag
  try dsimp only
  refine ⟨?_, ?_, ?_, ?_, ?_, ?_, ?_, ?_, ?_, ?_, ?_⟩ <;> (repeat' split) <;> simp

@[simp] theorem State.report_keeps (s : State) (f : FlagId) (was is : Bool) :
    (s.report f was is).now = s.now ∧
    (s.report f was is).lsu = s.lsu ∧
    (s.report f was is).smu = s.smu ∧
    (s.report f was is).tcu = s.tcu ∧
    (s.report f was is).links = s.links ∧
    (s.report f was is).ports = s.ports ∧
    (s.report f was is).hoists = s.hoists ∧
    (s.report f was is).rcu = s.rcu ∧
    (s.report f was is).bcu = s.bcu ∧
    (s.report f was is).hlu = s.hlu ∧
    (s.report f was is).pending = s.pending := by
  unfold State.report
  try dsimp only
  refine ⟨?_, ?_, ?_, ?_, ?_, ?_, ?_, ?_, ?_, ?_, ?_⟩ <;> (repeat' split) <;> simp

@[simp] theorem State.sendRecord_keeps (s : State) (c : CraneId) (r : CommandRec) :
    (s.sendRecord c r).now = s.now ∧
    (s.sendRecord c r).lsu = s.lsu ∧
    (s.sendRecord c r).smu = s.smu ∧
    (s.sendRecord c r).tcu = s.tcu ∧
    (s.sendRecord c r).links = s.links ∧
    (s.sendRecord c r).hoists = s.hoists ∧
    (s.sendRecord c r).rcu = s.rcu ∧
    (s.sendRecord c r).bcu = s.bcu ∧
    (s.sendRecord c r).dio = s.dio ∧
    (s.sendRecord c r).fnu = s.fnu ∧
    (s.sendRecord c r).hlu = s.hlu ∧
    (s.sendRecord c r).pending = s.pending := by
  unfold State.sendRecord
  try dsimp only
  refine ⟨?_, ?_, ?_, ?_, ?_, ?_, ?_, ?_, ?_, ?_, ?_, ?_⟩ <;> (repeat' split) <;> simp

@[simp] theorem State.evalCrane_keeps (s : State) (c : CraneId) :
    (s.evalCrane c).now = s.now ∧
    (s.evalCrane c).lsu = s.lsu ∧
    (s.evalCrane c).smu = s.smu ∧
    (s.evalCrane c).tcu = s.tcu ∧
    (s.evalCrane c).links = s.links ∧
    (s.evalCrane c).ports = s.ports ∧
    (s.evalCrane c).hoists = s.hoists ∧
    (s.evalCrane c).bcu = s.bcu ∧
    (s.evalCrane c).dio = s.dio ∧
    (s.evalCrane c).fnu = s.fnu ∧
    (s.evalCrane c).hlu = s.hlu ∧
    (s.evalCrane c).pending = s.pending := by
  unfold State.evalCrane
  try dsimp only
  refine ⟨?_, ?_, ?_, ?_, ?_, ?_, ?_, ?_, ?_, ?_, ?_, ?_⟩ <;> (repeat' split) <;> simp

@[simp] theorem State.sendDowngrade_keeps (s : State) (c : CraneId) :
    (s.sendDowngrade c).now = s.now ∧
    (s.sendDowngrade c).lsu = s.lsu ∧
    (s.sendDowngrade c).smu = s.smu ∧
    (s.sendDowngrade c).tcu = s.tcu ∧
    (s.sendDowngrade c).links = s.links ∧
    (s.sendDowngrade c).hoists = s.hoists ∧
    (s.sendDowngrade c).rcu = s.rcu ∧
    (s.sendDowngrade c).bcu = s.bcu ∧
    (s.sendDowngrade c).dio = s.dio ∧
    (s.sendDowngrade c).fnu = s.fnu ∧
    (s.sendDowngrade c).hlu = s.hlu ∧
    (s.sendDowngrade c).pending = s.pending := by
  unfold State.sendDowngrade
  try dsimp only
  refine ⟨?_, ?_, ?_, ?_, ?_, ?_, ?_, ?_, ?_, ?_, ?_, ?_⟩ <;> (repeat' split) <;> simp

@[simp] theorem State.evaluate_keeps (s : State) (c : CraneId) :
    (s.evaluate c).now = s.now ∧
    (s.evaluate c).lsu = s.lsu ∧
    (s.evaluate c).smu = s.smu ∧
    (s.evaluate c).tcu = s.tcu ∧
    (s.evaluate c).links = s.links ∧
    (s.evaluate c).hoists = s.hoists ∧
    (s.evaluate c).bcu = s.bcu ∧
    (s.evaluate c).dio = s.dio ∧
    (s.evaluate c).fnu = s.fnu ∧
    (s.evaluate c).hlu = s.hlu ∧
    (s.evaluate c).pending = s.pending := by
  unfold State.evaluate
  try dsimp only
  refine ⟨?_, ?_, ?_, ?_, ?_, ?_, ?_, ?_, ?_, ?_, ?_⟩ <;> (repeat' split) <;> simp

@[simp] theorem State.evaluateAll_keeps (s : State) (cs : List CraneId) :
    (s.evaluateAll cs).now = s.now ∧
    (s.evaluateAll cs).lsu = s.lsu ∧
    (s.evaluateAll cs).smu = s.smu ∧
    (s.evaluateAll cs).tcu = s.tcu ∧
    (s.evaluateAll cs).links = s.links ∧
    (s.evaluateAll cs).hoists = s.hoists ∧
    (s.evaluateAll cs).bcu = s.bcu ∧
    (s.evaluateAll cs).dio = s.dio ∧
    (s.evaluateAll cs).fnu = s.fnu ∧
    (s.evaluateAll cs).hlu = s.hlu ∧
    (s.evaluateAll cs).pending = s.pending := by
  refine ⟨?_, ?_, ?_, ?_, ?_, ?_, ?_, ?_, ?_, ?_, ?_⟩
  · exact foldl_keeps _ State.now (by simp) _ _
  · exact foldl_keeps _ State.lsu (by simp) _ _
  · exact foldl_keeps _ State.smu (by simp) _ _
  · exact foldl_keeps _ State.tcu (by simp) _ _
  · exact foldl_keeps _ State.links (by simp) _ _
  · exact foldl_keeps _ State.hoists (by simp) _ _
  · exact foldl_keeps _ State.bcu (by simp) _ _
  · exact foldl_keeps _ State.dio (by simp) _ _
  · exact foldl_keeps _ State.fnu (by simp) _ _
  · exact foldl_keeps _ State.hlu (by simp) _ _
  · exact foldl_keeps _ State.pending (by simp) _ _

@[simp] theorem State.evaluateRunway_keeps (s : State) (r : RunwayId) :
    (s.evaluateRunway r).now = s.now ∧
    (s.evaluateRunway r).lsu = s.lsu ∧
    (s.evaluateRunway r).smu = s.smu ∧
    (s.evaluateRunway r).tcu = s.tcu ∧
    (s.evaluateRunway r).links = s.links ∧
    (s.evaluateRunway r).hoists = s.hoists ∧
    (s.evaluateRunway r).bcu = s.bcu ∧
    (s.evaluateRunway r).dio = s.dio ∧
    (s.evaluateRunway r).fnu = s.fnu ∧
    (s.evaluateRunway r).hlu = s.hlu ∧
    (s.evaluateRunway r).pending = s.pending := by
  unfold State.evaluateRunway
  try dsimp only
  refine ⟨?_, ?_, ?_, ?_, ?_, ?_, ?_, ?_, ?_, ?_, ?_⟩ <;> (repeat' split) <;> simp

@[simp] theorem State.evaluateYard_keeps (s : State)  :
    s.evaluateYard.now = s.now ∧
    s.evaluateYard.lsu = s.lsu ∧
    s.evaluateYard.smu = s.smu ∧
    s.evaluateYard.tcu = s.tcu ∧
    s.evaluateYard.links = s.links ∧
    s.evaluateYard.hoists = s.hoists ∧
    s.evaluateYard.bcu = s.bcu ∧
    s.evaluateYard.dio = s.dio ∧
    s.evaluateYard.fnu = s.fnu ∧
    s.evaluateYard.hlu = s.hlu ∧
    s.evaluateYard.pending = s.pending := by
  unfold State.evaluateYard
  try dsimp only
  refine ⟨?_, ?_, ?_, ?_, ?_, ?_, ?_, ?_, ?_, ?_, ?_⟩ <;> (repeat' split) <;> simp

@[simp] theorem State.followIntrusion_keeps (s : State) (b : BayId) :
    (s.followIntrusion b).now = s.now ∧
    (s.followIntrusion b).lsu = s.lsu ∧
    (s.followIntrusion b).smu = s.smu ∧
    (s.followIntrusion b).tcu = s.tcu ∧
    (s.followIntrusion b).links = s.links ∧
    (s.followIntrusion b).ports = s.ports ∧
    (s.followIntrusion b).hoists = s.hoists ∧
    (s.followIntrusion b).rcu = s.rcu ∧
    (s.followIntrusion b).hlu = s.hlu ∧
    (s.followIntrusion b).pending = s.pending := by
  unfold State.followIntrusion
  try dsimp only
  refine ⟨?_, ?_, ?_, ?_, ?_, ?_, ?_, ?_, ?_, ?_⟩ <;> (repeat' split) <;> simp

@[simp] theorem State.setBayState_keeps (s : State) (b : BayId) (v : BayState) :
    (s.setBayState b v).now = s.now ∧
    (s.setBayState b v).lsu = s.lsu ∧
    (s.setBayState b v).smu = s.smu ∧
    (s.setBayState b v).tcu = s.tcu ∧
    (s.setBayState b v).links = s.links ∧
    (s.setBayState b v).ports = s.ports ∧
    (s.setBayState b v).hoists = s.hoists ∧
    (s.setBayState b v).rcu = s.rcu ∧
    (s.setBayState b v).hlu = s.hlu ∧
    (s.setBayState b v).pending = s.pending := by
  unfold State.setBayState
  try dsimp only
  refine ⟨?_, ?_, ?_, ?_, ?_, ?_, ?_, ?_, ?_, ?_⟩ <;> (repeat' split) <;> simp

@[simp] theorem State.followSecure_keeps (s : State) (b : BayId) :
    (s.followSecure b).now = s.now ∧
    (s.followSecure b).lsu = s.lsu ∧
    (s.followSecure b).smu = s.smu ∧
    (s.followSecure b).tcu = s.tcu ∧
    (s.followSecure b).links = s.links ∧
    (s.followSecure b).ports = s.ports ∧
    (s.followSecure b).hoists = s.hoists ∧
    (s.followSecure b).rcu = s.rcu ∧
    (s.followSecure b).hlu = s.hlu ∧
    (s.followSecure b).pending = s.pending := by
  unfold State.followSecure
  try dsimp only
  refine ⟨?_, ?_, ?_, ?_, ?_, ?_, ?_, ?_, ?_, ?_⟩ <;> (repeat' split) <;> simp

@[simp] theorem State.reportZone_keeps (s : State) (b : BayId) :
    (s.reportZone b).now = s.now ∧
    (s.reportZone b).lsu = s.lsu ∧
    (s.reportZone b).smu = s.smu ∧
    (s.reportZone b).tcu = s.tcu ∧
    (s.reportZone b).links = s.links ∧
    (s.reportZone b).hoists = s.hoists ∧
    (s.reportZone b).bcu = s.bcu ∧
    (s.reportZone b).dio = s.dio ∧
    (s.reportZone b).fnu = s.fnu ∧
    (s.reportZone b).hlu = s.hlu ∧
    (s.reportZone b).pending = s.pending := by
  unfold State.reportZone
  try dsimp only
  refine ⟨?_, ?_, ?_, ?_, ?_, ?_, ?_, ?_, ?_, ?_, ?_⟩ <;> (repeat' split) <;> simp

@[simp] theorem State.bayDerived_keeps (s : State) (b : BayId) :
    (s.bayDerived b).now = s.now ∧
    (s.bayDerived b).lsu = s.lsu ∧
    (s.bayDerived b).smu = s.smu ∧
    (s.bayDerived b).tcu = s.tcu ∧
    (s.bayDerived b).links = s.links ∧
    (s.bayDerived b).hoists = s.hoists ∧
    (s.bayDerived b).hlu = s.hlu ∧
    (s.bayDerived b).pending = s.pending := by
  unfold State.bayDerived
  try dsimp only
  refine ⟨?_, ?_, ?_, ?_, ?_, ?_, ?_, ?_⟩ <;> (repeat' split) <;> simp

@[simp] theorem State.notifyInputs_keeps (s : State) (b : BayId) (y : Bay) :
    (s.notifyInputs b y).now = s.now ∧
    (s.notifyInputs b y).lsu = s.lsu ∧
    (s.notifyInputs b y).smu = s.smu ∧
    (s.notifyInputs b y).tcu = s.tcu ∧
    (s.notifyInputs b y).links = s.links ∧
    (s.notifyInputs b y).ports = s.ports ∧
    (s.notifyInputs b y).hoists = s.hoists ∧
    (s.notifyInputs b y).rcu = s.rcu ∧
    (s.notifyInputs b y).bcu = s.bcu ∧
    (s.notifyInputs b y).dio = s.dio ∧
    (s.notifyInputs b y).hlu = s.hlu ∧
    (s.notifyInputs b y).pending = s.pending := by
  unfold State.notifyInputs
  try dsimp only
  refine ⟨?_, ?_, ?_, ?_, ?_, ?_, ?_, ?_, ?_, ?_, ?_, ?_⟩ <;> (repeat' split) <;> simp

@[simp] theorem State.bayEvent_keeps (s : State) (b : BayId) (i : BayInputs) :
    (s.bayEvent b i).now = s.now ∧
    (s.bayEvent b i).lsu = s.lsu ∧
    (s.bayEvent b i).smu = s.smu ∧
    (s.bayEvent b i).tcu = s.tcu ∧
    (s.bayEvent b i).links = s.links ∧
    (s.bayEvent b i).hoists = s.hoists ∧
    (s.bayEvent b i).hlu = s.hlu ∧
    (s.bayEvent b i).pending = s.pending := by
  unfold State.bayEvent
  try dsimp only
  refine ⟨?_, ?_, ?_, ?_, ?_, ?_, ?_, ?_⟩ <;> (repeat' split) <;> simp

@[simp] theorem State.trailExpire_keeps (s : State) (b : BayId) :
    (s.trailExpire b).now = s.now ∧
    (s.trailExpire b).lsu = s.lsu ∧
    (s.trailExpire b).smu = s.smu ∧
    (s.trailExpire b).tcu = s.tcu ∧
    (s.trailExpire b).links = s.links ∧
    (s.trailExpire b).ports = s.ports ∧
    (s.trailExpire b).hoists = s.hoists ∧
    (s.trailExpire b).rcu = s.rcu ∧
    (s.trailExpire b).hlu = s.hlu ∧
    (s.trailExpire b).pending = s.pending := by
  unfold State.trailExpire
  try dsimp only
  refine ⟨?_, ?_, ?_, ?_, ?_, ?_, ?_, ?_, ?_, ?_⟩ <;> (repeat' split) <;> simp

@[simp] theorem State.workStart_keeps (s : State) (b : BayId) (id : Nat) :
    (s.workStart b id).now = s.now ∧
    (s.workStart b id).lsu = s.lsu ∧
    (s.workStart b id).smu = s.smu ∧
    (s.workStart b id).tcu = s.tcu ∧
    (s.workStart b id).links = s.links ∧
    (s.workStart b id).ports = s.ports ∧
    (s.workStart b id).hoists = s.hoists ∧
    (s.workStart b id).rcu = s.rcu ∧
    (s.workStart b id).hlu = s.hlu ∧
    (s.workStart b id).pending = s.pending := by
  unfold State.workStart
  try dsimp only
  refine ⟨?_, ?_, ?_, ?_, ?_, ?_, ?_, ?_, ?_, ?_⟩ <;> (repeat' split) <;> simp

@[simp] theorem State.workStop_keeps (s : State) (b : BayId) (id : Nat) :
    (s.workStop b id).now = s.now ∧
    (s.workStop b id).lsu = s.lsu ∧
    (s.workStop b id).smu = s.smu ∧
    (s.workStop b id).tcu = s.tcu ∧
    (s.workStop b id).links = s.links ∧
    (s.workStop b id).ports = s.ports ∧
    (s.workStop b id).hoists = s.hoists ∧
    (s.workStop b id).rcu = s.rcu ∧
    (s.workStop b id).hlu = s.hlu ∧
    (s.workStop b id).pending = s.pending := by
  unfold State.workStop
  try dsimp only
  refine ⟨?_, ?_, ?_, ?_, ?_, ?_, ?_, ?_, ?_, ?_⟩ <;> (repeat' split) <;> simp

@[simp] theorem State.workStartAll_keeps (s : State) (t : Task) :
    (s.workStartAll t).now = s.now ∧
    (s.workStartAll t).lsu = s.lsu ∧
    (s.workStartAll t).smu = s.smu ∧
    (s.workStartAll t).tcu = s.tcu ∧
    (s.workStartAll t).links = s.links ∧
    (s.workStartAll t).ports = s.ports ∧
    (s.workStartAll t).hoists = s.hoists ∧
    (s.workStartAll t).rcu = s.rcu ∧
    (s.workStartAll t).hlu = s.hlu ∧
    (s.workStartAll t).pending = s.pending := by
  refine ⟨?_, ?_, ?_, ?_, ?_, ?_, ?_, ?_, ?_, ?_⟩
  · exact foldl_keeps _ State.now (by simp) _ _
  · exact foldl_keeps _ State.lsu (by simp) _ _
  · exact foldl_keeps _ State.smu (by simp) _ _
  · exact foldl_keeps _ State.tcu (by simp) _ _
  · exact foldl_keeps _ State.links (by simp) _ _
  · exact foldl_keeps _ State.ports (by simp) _ _
  · exact foldl_keeps _ State.hoists (by simp) _ _
  · exact foldl_keeps _ State.rcu (by simp) _ _
  · exact foldl_keeps _ State.hlu (by simp) _ _
  · exact foldl_keeps _ State.pending (by simp) _ _

@[simp] theorem State.workStopAll_keeps (s : State) (t : Task) :
    (s.workStopAll t).now = s.now ∧
    (s.workStopAll t).lsu = s.lsu ∧
    (s.workStopAll t).smu = s.smu ∧
    (s.workStopAll t).tcu = s.tcu ∧
    (s.workStopAll t).links = s.links ∧
    (s.workStopAll t).ports = s.ports ∧
    (s.workStopAll t).hoists = s.hoists ∧
    (s.workStopAll t).rcu = s.rcu ∧
    (s.workStopAll t).hlu = s.hlu ∧
    (s.workStopAll t).pending = s.pending := by
  refine ⟨?_, ?_, ?_, ?_, ?_, ?_, ?_, ?_, ?_, ?_⟩
  · exact foldl_keeps _ State.now (by simp) _ _
  · exact foldl_keeps _ State.lsu (by simp) _ _
  · exact foldl_keeps _ State.smu (by simp) _ _
  · exact foldl_keeps _ State.tcu (by simp) _ _
  · exact foldl_keeps _ State.links (by simp) _ _
  · exact foldl_keeps _ State.ports (by simp) _ _
  · exact foldl_keeps _ State.hoists (by simp) _ _
  · exact foldl_keeps _ State.rcu (by simp) _ _
  · exact foldl_keeps _ State.hlu (by simp) _ _
  · exact foldl_keeps _ State.pending (by simp) _ _

@[simp] theorem State.modPlan_keeps (s : State) (b : BayId) (f : Plan → Plan) :
    (s.modPlan b f).now = s.now ∧
    (s.modPlan b f).lsu = s.lsu ∧
    (s.modPlan b f).smu = s.smu ∧
    (s.modPlan b f).tcu = s.tcu ∧
    (s.modPlan b f).links = s.links ∧
    (s.modPlan b f).ports = s.ports ∧
    (s.modPlan b f).hoists = s.hoists ∧
    (s.modPlan b f).rcu = s.rcu ∧
    (s.modPlan b f).dio = s.dio ∧
    (s.modPlan b f).fnu = s.fnu ∧
    (s.modPlan b f).hlu = s.hlu ∧
    (s.modPlan b f).pending = s.pending := by
  unfold State.modPlan
  try dsimp only
  refine ⟨?_, ?_, ?_, ?_, ?_, ?_, ?_, ?_, ?_, ?_, ?_, ?_⟩ <;> (repeat' split) <;> simp

@[simp] theorem State.entryAt_keeps (s : State) (p : Place) (k : Nat) (x y : EntryStatus) :
    (s.entryAt p k x y).now = s.now ∧
    (s.entryAt p k x y).lsu = s.lsu ∧
    (s.entryAt p k x y).smu = s.smu ∧
    (s.entryAt p k x y).tcu = s.tcu ∧
    (s.entryAt p k x y).links = s.links ∧
    (s.entryAt p k x y).ports = s.ports ∧
    (s.entryAt p k x y).hoists = s.hoists ∧
    (s.entryAt p k x y).rcu = s.rcu ∧
    (s.entryAt p k x y).dio = s.dio ∧
    (s.entryAt p k x y).fnu = s.fnu ∧
    (s.entryAt p k x y).hlu = s.hlu ∧
    (s.entryAt p k x y).pending = s.pending := by
  unfold State.entryAt
  try dsimp only
  refine ⟨?_, ?_, ?_, ?_, ?_, ?_, ?_, ?_, ?_, ?_, ?_, ?_⟩ <;> (repeat' split) <;> simp

@[simp] theorem State.entryTo_keeps (s : State) (d : Dest) (k : Nat) (x y : EntryStatus) :
    (s.entryTo d k x y).now = s.now ∧
    (s.entryTo d k x y).lsu = s.lsu ∧
    (s.entryTo d k x y).smu = s.smu ∧
    (s.entryTo d k x y).tcu = s.tcu ∧
    (s.entryTo d k x y).links = s.links ∧
    (s.entryTo d k x y).ports = s.ports ∧
    (s.entryTo d k x y).hoists = s.hoists ∧
    (s.entryTo d k x y).rcu = s.rcu ∧
    (s.entryTo d k x y).dio = s.dio ∧
    (s.entryTo d k x y).fnu = s.fnu ∧
    (s.entryTo d k x y).hlu = s.hlu ∧
    (s.entryTo d k x y).pending = s.pending := by
  unfold State.entryTo
  try dsimp only
  refine ⟨?_, ?_, ?_, ?_, ?_, ?_, ?_, ?_, ?_, ?_, ?_, ?_⟩ <;> (repeat' split) <;> simp

@[simp] theorem State.discardBuild_keeps (s : State)  :
    s.discardBuild.now = s.now ∧
    s.discardBuild.lsu = s.lsu ∧
    s.discardBuild.tcu = s.tcu ∧
    s.discardBuild.links = s.links ∧
    s.discardBuild.ports = s.ports ∧
    s.discardBuild.hoists = s.hoists ∧
    s.discardBuild.rcu = s.rcu ∧
    s.discardBuild.dio = s.dio ∧
    s.discardBuild.fnu = s.fnu ∧
    s.discardBuild.hlu = s.hlu ∧
    s.discardBuild.pending = s.pending := by
  unfold State.discardBuild
  try dsimp only
  refine ⟨?_, ?_, ?_, ?_, ?_, ?_, ?_, ?_, ?_, ?_, ?_⟩ <;> (repeat' split) <;> simp

@[simp] theorem State.reportConds_keeps (s : State) (c : CraneId) (x y : FreezeConds) :
    (s.reportConds c x y).now = s.now ∧
    (s.reportConds c x y).lsu = s.lsu ∧
    (s.reportConds c x y).smu = s.smu ∧
    (s.reportConds c x y).tcu = s.tcu ∧
    (s.reportConds c x y).links = s.links ∧
    (s.reportConds c x y).ports = s.ports ∧
    (s.reportConds c x y).hoists = s.hoists ∧
    (s.reportConds c x y).rcu = s.rcu ∧
    (s.reportConds c x y).bcu = s.bcu ∧
    (s.reportConds c x y).hlu = s.hlu ∧
    (s.reportConds c x y).pending = s.pending := by
  unfold State.reportConds
  try dsimp only
  refine ⟨?_, ?_, ?_, ?_, ?_, ?_, ?_, ?_, ?_, ?_, ?_⟩ <;> (repeat' split) <;> simp

@[simp] theorem State.weighFreeze_keeps (s : State) (c : CraneId) (p : ParamSet) (g : Bool) :
    (s.weighFreeze c p g).now = s.now ∧
    (s.weighFreeze c p g).lsu = s.lsu ∧
    (s.weighFreeze c p g).smu = s.smu ∧
    (s.weighFreeze c p g).tcu = s.tcu ∧
    (s.weighFreeze c p g).links = s.links ∧
    (s.weighFreeze c p g).ports = s.ports ∧
    (s.weighFreeze c p g).rcu = s.rcu ∧
    (s.weighFreeze c p g).bcu = s.bcu ∧
    (s.weighFreeze c p g).hlu = s.hlu ∧
    (s.weighFreeze c p g).pending = s.pending := by
  unfold State.weighFreeze
  try dsimp only
  refine ⟨?_, ?_, ?_, ?_, ?_, ?_, ?_, ?_, ?_, ?_⟩ <;> (repeat' split) <;> simp

@[simp] theorem State.takeZero_keeps (s : State) (c : CraneId) (h : Hoist) (x : ZeroCause) :
    (s.takeZero c h x).now = s.now ∧
    (s.takeZero c h x).lsu = s.lsu ∧
    (s.takeZero c h x).smu = s.smu ∧
    (s.takeZero c h x).tcu = s.tcu ∧
    (s.takeZero c h x).links = s.links ∧
    (s.takeZero c h x).ports = s.ports ∧
    (s.takeZero c h x).rcu = s.rcu ∧
    (s.takeZero c h x).bcu = s.bcu ∧
    (s.takeZero c h x).dio = s.dio ∧
    (s.takeZero c h x).hlu = s.hlu ∧
    (s.takeZero c h x).pending = s.pending := by
  unfold State.takeZero
  try dsimp only
  refine ⟨?_, ?_, ?_, ?_, ?_, ?_, ?_, ?_, ?_, ?_, ?_⟩ <;> (repeat' split) <;> simp

@[simp] theorem State.autoZero_keeps (s : State) (c : CraneId) (p : ParamSet) (g : Bool) :
    (s.autoZero c p g).now = s.now ∧
    (s.autoZero c p g).lsu = s.lsu ∧
    (s.autoZero c p g).smu = s.smu ∧
    (s.autoZero c p g).tcu = s.tcu ∧
    (s.autoZero c p g).links = s.links ∧
    (s.autoZero c p g).ports = s.ports ∧
    (s.autoZero c p g).rcu = s.rcu ∧
    (s.autoZero c p g).bcu = s.bcu ∧
    (s.autoZero c p g).hlu = s.hlu ∧
    (s.autoZero c p g).pending = s.pending := by
  unfold State.autoZero
  try dsimp only
  refine ⟨?_, ?_, ?_, ?_, ?_, ?_, ?_, ?_, ?_, ?_⟩ <;> (repeat' split) <;> simp

@[simp] theorem State.weighArrive_keeps (s : State) (c : CraneId) (r : StatusRec) :
    (s.weighArrive c r).now = s.now ∧
    (s.weighArrive c r).lsu = s.lsu ∧
    (s.weighArrive c r).smu = s.smu ∧
    (s.weighArrive c r).tcu = s.tcu ∧
    (s.weighArrive c r).links = s.links ∧
    (s.weighArrive c r).ports = s.ports ∧
    (s.weighArrive c r).rcu = s.rcu ∧
    (s.weighArrive c r).bcu = s.bcu ∧
    (s.weighArrive c r).hlu = s.hlu ∧
    (s.weighArrive c r).pending = s.pending := by
  unfold State.weighArrive
  try dsimp only
  refine ⟨?_, ?_, ?_, ?_, ?_, ?_, ?_, ?_, ?_, ?_⟩ <;> (repeat' split) <;> simp

@[simp] theorem State.emptyWindow_keeps (s : State) (c : CraneId) :
    (s.emptyWindow c).now = s.now ∧
    (s.emptyWindow c).lsu = s.lsu ∧
    (s.emptyWindow c).smu = s.smu ∧
    (s.emptyWindow c).tcu = s.tcu ∧
    (s.emptyWindow c).links = s.links ∧
    (s.emptyWindow c).ports = s.ports ∧
    (s.emptyWindow c).rcu = s.rcu ∧
    (s.emptyWindow c).bcu = s.bcu ∧
    (s.emptyWindow c).hlu = s.hlu ∧
    (s.emptyWindow c).pending = s.pending := by
  unfold State.emptyWindow
  try dsimp only
  refine ⟨?_, ?_, ?_, ?_, ?_, ?_, ?_, ?_, ?_, ?_⟩ <;> (repeat' split) <;> simp

@[simp] theorem State.putTask_keeps (s : State) (c : CraneId) (t : Task) :
    (s.putTask c t).now = s.now ∧
    (s.putTask c t).lsu = s.lsu ∧
    (s.putTask c t).smu = s.smu ∧
    (s.putTask c t).links = s.links ∧
    (s.putTask c t).ports = s.ports ∧
    (s.putTask c t).hoists = s.hoists ∧
    (s.putTask c t).rcu = s.rcu ∧
    (s.putTask c t).bcu = s.bcu ∧
    (s.putTask c t).dio = s.dio ∧
    (s.putTask c t).fnu = s.fnu ∧
    (s.putTask c t).hlu = s.hlu ∧
    (s.putTask c t).pending = s.pending := by
  unfold State.putTask
  try dsimp only
  refine ⟨?_, ?_, ?_, ?_, ?_, ?_, ?_, ?_, ?_, ?_, ?_, ?_⟩ <;> (repeat' split) <;> simp

@[simp] theorem State.advance_keeps (s : State) (c : CraneId) (t : Task) :
    (s.advance c t).now = s.now ∧
    (s.advance c t).lsu = s.lsu ∧
    (s.advance c t).smu = s.smu ∧
    (s.advance c t).links = s.links ∧
    (s.advance c t).ports = s.ports ∧
    (s.advance c t).hoists = s.hoists ∧
    (s.advance c t).rcu = s.rcu ∧
    (s.advance c t).bcu = s.bcu ∧
    (s.advance c t).dio = s.dio ∧
    (s.advance c t).hlu = s.hlu ∧
    (s.advance c t).pending = s.pending := by
  unfold State.advance
  try dsimp only
  refine ⟨?_, ?_, ?_, ?_, ?_, ?_, ?_, ?_, ?_, ?_, ?_⟩ <;> (repeat' split) <;> simp

@[simp] theorem State.holdTask_keeps (s : State) (c : CraneId) (t : Task) (w : HoldReason) (p : Phase) (o : Option Int) :
    (s.holdTask c t w p o).now = s.now ∧
    (s.holdTask c t w p o).lsu = s.lsu ∧
    (s.holdTask c t w p o).smu = s.smu ∧
    (s.holdTask c t w p o).links = s.links ∧
    (s.holdTask c t w p o).ports = s.ports ∧
    (s.holdTask c t w p o).hoists = s.hoists ∧
    (s.holdTask c t w p o).rcu = s.rcu ∧
    (s.holdTask c t w p o).bcu = s.bcu ∧
    (s.holdTask c t w p o).dio = s.dio ∧
    (s.holdTask c t w p o).hlu = s.hlu ∧
    (s.holdTask c t w p o).pending = s.pending := by
  unfold State.holdTask
  try dsimp only
  refine ⟨?_, ?_, ?_, ?_, ?_, ?_, ?_, ?_, ?_, ?_, ?_⟩ <;> (repeat' split) <;> simp

@[simp] theorem State.holdInFlight_keeps (s : State) (c : CraneId) (w : HoldReason) :
    (s.holdInFlight c w).now = s.now ∧
    (s.holdInFlight c w).lsu = s.lsu ∧
    (s.holdInFlight c w).smu = s.smu ∧
    (s.holdInFlight c w).links = s.links ∧
    (s.holdInFlight c w).ports = s.ports ∧
    (s.holdInFlight c w).hoists = s.hoists ∧
    (s.holdInFlight c w).rcu = s.rcu ∧
    (s.holdInFlight c w).bcu = s.bcu ∧
    (s.holdInFlight c w).dio = s.dio ∧
    (s.holdInFlight c w).hlu = s.hlu ∧
    (s.holdInFlight c w).pending = s.pending := by
  unfold State.holdInFlight
  try dsimp only
  refine ⟨?_, ?_, ?_, ?_, ?_, ?_, ?_, ?_, ?_, ?_, ?_⟩ <;> (repeat' split) <;> simp

@[simp] theorem State.exitCarry_keeps (s : State) (c : CraneId) (t : Task) :
    (s.exitCarry c t).now = s.now ∧
    (s.exitCarry c t).lsu = s.lsu ∧
    (s.exitCarry c t).smu = s.smu ∧
    (s.exitCarry c t).links = s.links ∧
    (s.exitCarry c t).ports = s.ports ∧
    (s.exitCarry c t).hoists = s.hoists ∧
    (s.exitCarry c t).rcu = s.rcu ∧
    (s.exitCarry c t).bcu = s.bcu ∧
    (s.exitCarry c t).dio = s.dio ∧
    (s.exitCarry c t).hlu = s.hlu ∧
    (s.exitCarry c t).pending = s.pending := by
  unfold State.exitCarry
  try dsimp only
  refine ⟨?_, ?_, ?_, ?_, ?_, ?_, ?_, ?_, ?_, ?_, ?_⟩ <;> (repeat' split) <;> simp

@[simp] theorem State.exitPredict_keeps (s : State) (c : CraneId) (t : Task) :
    (s.exitPredict c t).now = s.now ∧
    (s.exitPredict c t).lsu = s.lsu ∧
    (s.exitPredict c t).smu = s.smu ∧
    (s.exitPredict c t).links = s.links ∧
    (s.exitPredict c t).ports = s.ports ∧
    (s.exitPredict c t).hoists = s.hoists ∧
    (s.exitPredict c t).rcu = s.rcu ∧
    (s.exitPredict c t).bcu = s.bcu ∧
    (s.exitPredict c t).dio = s.dio ∧
    (s.exitPredict c t).hlu = s.hlu ∧
    (s.exitPredict c t).pending = s.pending := by
  unfold State.exitPredict
  try dsimp only
  refine ⟨?_, ?_, ?_, ?_, ?_, ?_, ?_, ?_, ?_, ?_, ?_⟩ <;> (repeat' split) <;> simp

@[simp] theorem State.grantChoice_keeps (s : State) (c : CraneId) (t : Task) (i : Nat) :
    (s.grantChoice c t i).now = s.now ∧
    (s.grantChoice c t i).lsu = s.lsu ∧
    (s.grantChoice c t i).links = s.links ∧
    (s.grantChoice c t i).ports = s.ports ∧
    (s.grantChoice c t i).hoists = s.hoists ∧
    (s.grantChoice c t i).rcu = s.rcu ∧
    (s.grantChoice c t i).bcu = s.bcu ∧
    (s.grantChoice c t i).dio = s.dio ∧
    (s.grantChoice c t i).hlu = s.hlu ∧
    (s.grantChoice c t i).pending = s.pending := by
  unfold State.grantChoice
  try dsimp only
  refine ⟨?_, ?_, ?_, ?_, ?_, ?_, ?_, ?_, ?_, ?_⟩ <;> (repeat' split) <;> simp

@[simp] theorem State.exitSelect_keeps (s : State) (c : CraneId) (t : Task) :
    (s.exitSelect c t).now = s.now ∧
    (s.exitSelect c t).lsu = s.lsu ∧
    (s.exitSelect c t).links = s.links ∧
    (s.exitSelect c t).ports = s.ports ∧
    (s.exitSelect c t).hoists = s.hoists ∧
    (s.exitSelect c t).rcu = s.rcu ∧
    (s.exitSelect c t).bcu = s.bcu ∧
    (s.exitSelect c t).dio = s.dio ∧
    (s.exitSelect c t).hlu = s.hlu ∧
    (s.exitSelect c t).pending = s.pending := by
  unfold State.exitSelect
  try dsimp only
  refine ⟨?_, ?_, ?_, ?_, ?_, ?_, ?_, ?_, ?_, ?_⟩ <;> (repeat' split) <;> simp

@[simp] theorem State.weighExit_keeps (s : State) (c : CraneId) (t : Task) (w : Option Int) :
    (s.weighExit c t w).now = s.now ∧
    (s.weighExit c t w).lsu = s.lsu ∧
    (s.weighExit c t w).links = s.links ∧
    (s.weighExit c t w).ports = s.ports ∧
    (s.weighExit c t w).hoists = s.hoists ∧
    (s.weighExit c t w).rcu = s.rcu ∧
    (s.weighExit c t w).bcu = s.bcu ∧
    (s.weighExit c t w).dio = s.dio ∧
    (s.weighExit c t w).hlu = s.hlu ∧
    (s.weighExit c t w).pending = s.pending := by
  unfold State.weighExit
  try dsimp only
  refine ⟨?_, ?_, ?_, ?_, ?_, ?_, ?_, ?_, ?_, ?_⟩ <;> (repeat' split) <;> simp

@[simp] theorem State.arrivedPick_keeps (s : State) (c : CraneId) (t : Task) (r : StatusRec) (x : Int) :
    (s.arrivedPick c t r x).now = s.now ∧
    (s.arrivedPick c t r x).lsu = s.lsu ∧
    (s.arrivedPick c t r x).smu = s.smu ∧
    (s.arrivedPick c t r x).links = s.links ∧
    (s.arrivedPick c t r x).ports = s.ports ∧
    (s.arrivedPick c t r x).hoists = s.hoists ∧
    (s.arrivedPick c t r x).rcu = s.rcu ∧
    (s.arrivedPick c t r x).bcu = s.bcu ∧
    (s.arrivedPick c t r x).dio = s.dio ∧
    (s.arrivedPick c t r x).hlu = s.hlu ∧
    (s.arrivedPick c t r x).pending = s.pending := by
  unfold State.arrivedPick
  try dsimp only
  refine ⟨?_, ?_, ?_, ?_, ?_, ?_, ?_, ?_, ?_, ?_, ?_⟩ <;> (repeat' split) <;> simp

@[simp] theorem State.lifted_keeps (s : State) (c : CraneId) (t : Task) :
    (s.lifted c t).now = s.now ∧
    (s.lifted c t).lsu = s.lsu ∧
    (s.lifted c t).links = s.links ∧
    (s.lifted c t).ports = s.ports ∧
    (s.lifted c t).hoists = s.hoists ∧
    (s.lifted c t).rcu = s.rcu ∧
    (s.lifted c t).dio = s.dio ∧
    (s.lifted c t).hlu = s.hlu ∧
    (s.lifted c t).pending = s.pending := by
  unfold State.lifted
  try dsimp only
  refine ⟨?_, ?_, ?_, ?_, ?_, ?_, ?_, ?_, ?_⟩ <;> (repeat' split) <;> simp

@[simp] theorem State.arrivedPlace_keeps (s : State) (c : CraneId) (t : Task) (r : StatusRec) (x : Int) :
    (s.arrivedPlace c t r x).now = s.now ∧
    (s.arrivedPlace c t r x).lsu = s.lsu ∧
    (s.arrivedPlace c t r x).smu = s.smu ∧
    (s.arrivedPlace c t r x).links = s.links ∧
    (s.arrivedPlace c t r x).ports = s.ports ∧
    (s.arrivedPlace c t r x).hoists = s.hoists ∧
    (s.arrivedPlace c t r x).rcu = s.rcu ∧
    (s.arrivedPlace c t r x).bcu = s.bcu ∧
    (s.arrivedPlace c t r x).dio = s.dio ∧
    (s.arrivedPlace c t r x).hlu = s.hlu ∧
    (s.arrivedPlace c t r x).pending = s.pending := by
  unfold State.arrivedPlace
  try dsimp only
  refine ⟨?_, ?_, ?_, ?_, ?_, ?_, ?_, ?_, ?_, ?_, ?_⟩ <;> (repeat' split) <;> simp

@[simp] theorem State.recheckOrder_keeps (s : State) (c : CraneId) (t : Task) :
    (s.recheckOrder c t).now = s.now ∧
    (s.recheckOrder c t).lsu = s.lsu ∧
    (s.recheckOrder c t).smu = s.smu ∧
    (s.recheckOrder c t).links = s.links ∧
    (s.recheckOrder c t).ports = s.ports ∧
    (s.recheckOrder c t).hoists = s.hoists ∧
    (s.recheckOrder c t).rcu = s.rcu ∧
    (s.recheckOrder c t).bcu = s.bcu ∧
    (s.recheckOrder c t).dio = s.dio ∧
    (s.recheckOrder c t).hlu = s.hlu ∧
    (s.recheckOrder c t).pending = s.pending := by
  unfold State.recheckOrder
  try dsimp only
  refine ⟨?_, ?_, ?_, ?_, ?_, ?_, ?_, ?_, ?_, ?_, ?_⟩ <;> (repeat' split) <;> simp

@[simp] theorem State.removeTask_keeps (s : State) (c : CraneId) (id : Nat) :
    (s.removeTask c id).now = s.now ∧
    (s.removeTask c id).lsu = s.lsu ∧
    (s.removeTask c id).smu = s.smu ∧
    (s.removeTask c id).links = s.links ∧
    (s.removeTask c id).ports = s.ports ∧
    (s.removeTask c id).hoists = s.hoists ∧
    (s.removeTask c id).rcu = s.rcu ∧
    (s.removeTask c id).bcu = s.bcu ∧
    (s.removeTask c id).dio = s.dio ∧
    (s.removeTask c id).fnu = s.fnu ∧
    (s.removeTask c id).hlu = s.hlu ∧
    (s.removeTask c id).pending = s.pending := by
  unfold State.removeTask
  try dsimp only
  refine ⟨?_, ?_, ?_, ?_, ?_, ?_, ?_, ?_, ?_, ?_, ?_, ?_⟩ <;> (repeat' split) <;> simp

@[simp] theorem State.released_keeps (s : State) (c : CraneId) (t : Task) :
    (s.released c t).now = s.now ∧
    (s.released c t).lsu = s.lsu ∧
    (s.released c t).links = s.links ∧
    (s.released c t).ports = s.ports ∧
    (s.released c t).rcu = s.rcu ∧
    (s.released c t).hlu = s.hlu ∧
    (s.released c t).pending = s.pending := by
  unfold State.released
  try dsimp only
  refine ⟨?_, ?_, ?_, ?_, ?_, ?_, ?_⟩ <;> (repeat' split) <;> simp

@[simp] theorem State.actOnPhase_keeps (s : State) (c : CraneId) (t : Task) (r : StatusRec) (x : Int) :
    (s.actOnPhase c t r x).now = s.now ∧
    (s.actOnPhase c t r x).lsu = s.lsu ∧
    (s.actOnPhase c t r x).links = s.links ∧
    (s.actOnPhase c t r x).ports = s.ports ∧
    (s.actOnPhase c t r x).rcu = s.rcu ∧
    (s.actOnPhase c t r x).hlu = s.hlu ∧
    (s.actOnPhase c t r x).pending = s.pending := by
  unfold State.actOnPhase
  try dsimp only
  refine ⟨?_, ?_, ?_, ?_, ?_, ?_, ?_⟩ <;> (repeat' split) <;> simp

@[simp] theorem State.matchPhase_keeps (s : State) (c : CraneId) (t : Task) (r : StatusRec) (x : Int) :
    (s.matchPhase c t r x).now = s.now ∧
    (s.matchPhase c t r x).lsu = s.lsu ∧
    (s.matchPhase c t r x).links = s.links ∧
    (s.matchPhase c t r x).ports = s.ports ∧
    (s.matchPhase c t r x).rcu = s.rcu ∧
    (s.matchPhase c t r x).hlu = s.hlu ∧
    (s.matchPhase c t r x).pending = s.pending := by
  unfold State.matchPhase
  try dsimp only
  refine ⟨?_, ?_, ?_, ?_, ?_, ?_, ?_⟩ <;> (repeat' split) <;> simp

@[simp] theorem State.judgeWeight_keeps (s : State) (c : CraneId) (t : Task) (w : WeighResult) :
    (s.judgeWeight c t w).now = s.now ∧
    (s.judgeWeight c t w).lsu = s.lsu ∧
    (s.judgeWeight c t w).links = s.links ∧
    (s.judgeWeight c t w).ports = s.ports ∧
    (s.judgeWeight c t w).hoists = s.hoists ∧
    (s.judgeWeight c t w).rcu = s.rcu ∧
    (s.judgeWeight c t w).bcu = s.bcu ∧
    (s.judgeWeight c t w).dio = s.dio ∧
    (s.judgeWeight c t w).hlu = s.hlu ∧
    (s.judgeWeight c t w).pending = s.pending := by
  unfold State.judgeWeight
  try dsimp only
  refine ⟨?_, ?_, ?_, ?_, ?_, ?_, ?_, ?_, ?_, ?_⟩ <;> (repeat' split) <;> simp

@[simp] theorem State.countMismatch_keeps (s : State) (t : Task) (r : StatusRec) :
    (s.countMismatch t r).now = s.now ∧
    (s.countMismatch t r).lsu = s.lsu ∧
    (s.countMismatch t r).smu = s.smu ∧
    (s.countMismatch t r).links = s.links ∧
    (s.countMismatch t r).ports = s.ports ∧
    (s.countMismatch t r).hoists = s.hoists ∧
    (s.countMismatch t r).rcu = s.rcu ∧
    (s.countMismatch t r).bcu = s.bcu ∧
    (s.countMismatch t r).dio = s.dio ∧
    (s.countMismatch t r).fnu = s.fnu ∧
    (s.countMismatch t r).hlu = s.hlu ∧
    (s.countMismatch t r).pending = s.pending := by
  unfold State.countMismatch
  try dsimp only
  refine ⟨?_, ?_, ?_, ?_, ?_, ?_, ?_, ?_, ?_, ?_, ?_, ?_⟩ <;> (repeat' split) <;> simp

@[simp] theorem State.taskActs_keeps (s : State) (c : CraneId) (r : StatusRec) (x : Int) (w : WeighResult) :
    (s.taskActs c r x w).now = s.now ∧
    (s.taskActs c r x w).lsu = s.lsu ∧
    (s.taskActs c r x w).links = s.links ∧
    (s.taskActs c r x w).ports = s.ports ∧
    (s.taskActs c r x w).rcu = s.rcu ∧
    (s.taskActs c r x w).hlu = s.hlu ∧
    (s.taskActs c r x w).pending = s.pending := by
  unfold State.taskActs
  try dsimp only
  refine ⟨?_, ?_, ?_, ?_, ?_, ?_, ?_⟩ <;> (repeat' split) <;> simp

@[simp] theorem State.dispatch_keeps (s : State) (c : CraneId) :
    (s.dispatch c).now = s.now ∧
    (s.dispatch c).lsu = s.lsu ∧
    (s.dispatch c).smu = s.smu ∧
    (s.dispatch c).links = s.links ∧
    (s.dispatch c).ports = s.ports ∧
    (s.dispatch c).hoists = s.hoists ∧
    (s.dispatch c).rcu = s.rcu ∧
    (s.dispatch c).hlu = s.hlu ∧
    (s.dispatch c).pending = s.pending := by
  unfold State.dispatch
  try dsimp only
  refine ⟨?_, ?_, ?_, ?_, ?_, ?_, ?_, ?_, ?_⟩ <;> (repeat' split) <;> simp

@[simp] theorem State.taskArrive_keeps (s : State) (c : CraneId) (r : StatusRec) (x : Int) (w : WeighResult) :
    (s.taskArrive c r x w).now = s.now ∧
    (s.taskArrive c r x w).lsu = s.lsu ∧
    (s.taskArrive c r x w).links = s.links ∧
    (s.taskArrive c r x w).ports = s.ports ∧
    (s.taskArrive c r x w).rcu = s.rcu ∧
    (s.taskArrive c r x w).hlu = s.hlu ∧
    (s.taskArrive c r x w).pending = s.pending := by
  unfold State.taskArrive
  try dsimp only
  refine ⟨?_, ?_, ?_, ?_, ?_, ?_, ?_⟩ <;> (repeat' split) <;> simp

@[simp] theorem State.settleExpire_keeps (s : State) (c : CraneId) (t : Task) :
    (s.settleExpire c t).now = s.now ∧
    (s.settleExpire c t).lsu = s.lsu ∧
    (s.settleExpire c t).links = s.links ∧
    (s.settleExpire c t).ports = s.ports ∧
    (s.settleExpire c t).hoists = s.hoists ∧
    (s.settleExpire c t).rcu = s.rcu ∧
    (s.settleExpire c t).bcu = s.bcu ∧
    (s.settleExpire c t).dio = s.dio ∧
    (s.settleExpire c t).hlu = s.hlu ∧
    (s.settleExpire c t).pending = s.pending := by
  unfold State.settleExpire
  try dsimp only
  refine ⟨?_, ?_, ?_, ?_, ?_, ?_, ?_, ?_, ?_, ?_⟩ <;> (repeat' split) <;> simp

@[simp] theorem State.formPair_keeps (s : State) (c : CraneId) :
    (s.formPair c).now = s.now ∧
    (s.formPair c).lsu = s.lsu ∧
    (s.formPair c).smu = s.smu ∧
    (s.formPair c).tcu = s.tcu ∧
    (s.formPair c).ports = s.ports ∧
    (s.formPair c).hoists = s.hoists ∧
    (s.formPair c).rcu = s.rcu ∧
    (s.formPair c).bcu = s.bcu ∧
    (s.formPair c).dio = s.dio ∧
    (s.formPair c).fnu = s.fnu ∧
    (s.formPair c).hlu = s.hlu ∧
    (s.formPair c).pending = s.pending := by
  unfold State.formPair
  try dsimp only
  refine ⟨?_, ?_, ?_, ?_, ?_, ?_, ?_, ?_, ?_, ?_, ?_, ?_⟩ <;> (repeat' split) <;> simp

@[simp] theorem State.testPairs_keeps (s : State) (c : CraneId) :
    (s.testPairs c).now = s.now ∧
    (s.testPairs c).lsu = s.lsu ∧
    (s.testPairs c).smu = s.smu ∧
    (s.testPairs c).tcu = s.tcu ∧
    (s.testPairs c).ports = s.ports ∧
    (s.testPairs c).hoists = s.hoists ∧
    (s.testPairs c).rcu = s.rcu ∧
    (s.testPairs c).bcu = s.bcu ∧
    (s.testPairs c).hlu = s.hlu ∧
    (s.testPairs c).pending = s.pending := by
  refine ⟨?_, ?_, ?_, ?_, ?_, ?_, ?_, ?_, ?_, ?_⟩
  · unfold State.testPairs
    refine (foldl_keeps _ State.now (by simp) _ _).trans ?_
    split <;> simp
  · unfold State.testPairs
    refine (foldl_keeps _ State.lsu (by simp) _ _).trans ?_
    split <;> simp
  · unfold State.testPairs
    refine (foldl_keeps _ State.smu (by simp) _ _).trans ?_
    split <;> simp
  · unfold State.testPairs
    refine (foldl_keeps _ State.tcu (by simp) _ _).trans ?_
    split <;> simp
  · unfold State.testPairs
    refine (foldl_keeps _ State.ports (by simp) _ _).trans ?_
    split <;> simp
  · unfold State.testPairs
    refine (foldl_keeps _ State.hoists (by simp) _ _).trans ?_
    split <;> simp
  · unfold State.testPairs
    refine (foldl_keeps _ State.rcu (by simp) _ _).trans ?_
    split <;> simp
  · unfold State.testPairs
    refine (foldl_keeps _ State.bcu (by simp) _ _).trans ?_
    split <;> simp
  · unfold State.testPairs
    refine (foldl_keeps _ State.hlu (by simp) _ _).trans ?_
    split <;> simp
  · unfold State.testPairs
    refine (foldl_keeps _ State.pending (by simp) _ _).trans ?_
    split <;> simp

@[simp] theorem State.judgeOverspeed_keeps (s : State) (c : CraneId) (l : CraneLink) (v : Int) (b : Option Int) :
    (s.judgeOverspeed c l v b).now = s.now ∧
    (s.judgeOverspeed c l v b).lsu = s.lsu ∧
    (s.judgeOverspeed c l v b).smu = s.smu ∧
    (s.judgeOverspeed c l v b).tcu = s.tcu ∧
    (s.judgeOverspeed c l v b).ports = s.ports ∧
    (s.judgeOverspeed c l v b).hoists = s.hoists ∧
    (s.judgeOverspeed c l v b).rcu = s.rcu ∧
    (s.judgeOverspeed c l v b).bcu = s.bcu ∧
    (s.judgeOverspeed c l v b).hlu = s.hlu ∧
    (s.judgeOverspeed c l v b).pending = s.pending := by
  unfold State.judgeOverspeed
  try dsimp only
  refine ⟨?_, ?_, ?_, ?_, ?_, ?_, ?_, ?_, ?_, ?_⟩ <;> (repeat' split) <;> simp

@[simp] theorem State.linkArrive_keeps (s : State) (c : CraneId) (l : CraneLink) :
    (s.linkArrive c l).now = s.now ∧
    (s.linkArrive c l).lsu = s.lsu ∧
    (s.linkArrive c l).smu = s.smu ∧
    (s.linkArrive c l).tcu = s.tcu ∧
    (s.linkArrive c l).ports = s.ports ∧
    (s.linkArrive c l).hoists = s.hoists ∧
    (s.linkArrive c l).rcu = s.rcu ∧
    (s.linkArrive c l).bcu = s.bcu ∧
    (s.linkArrive c l).hlu = s.hlu ∧
    (s.linkArrive c l).pending = s.pending := by
  unfold State.linkArrive
  try dsimp only
  refine ⟨?_, ?_, ?_, ?_, ?_, ?_, ?_, ?_, ?_, ?_⟩ <;> (repeat' split) <;> simp

@[simp] theorem State.swapArrive_keeps (s : State) (c : CraneId) (v : Int) :
    (s.swapArrive c v).now = s.now ∧
    (s.swapArrive c v).smu = s.smu ∧
    (s.swapArrive c v).tcu = s.tcu ∧
    (s.swapArrive c v).links = s.links ∧
    (s.swapArrive c v).ports = s.ports ∧
    (s.swapArrive c v).hoists = s.hoists ∧
    (s.swapArrive c v).rcu = s.rcu ∧
    (s.swapArrive c v).bcu = s.bcu ∧
    (s.swapArrive c v).dio = s.dio ∧
    (s.swapArrive c v).hlu = s.hlu ∧
    (s.swapArrive c v).pending = s.pending := by
  unfold State.swapArrive
  try dsimp only
  refine ⟨?_, ?_, ?_, ?_, ?_, ?_, ?_, ?_, ?_, ?_, ?_⟩ <;> (repeat' split) <;> simp

@[simp] theorem State.unreference_keeps (s : State) (c : CraneId) :
    (s.unreference c).now = s.now ∧
    (s.unreference c).lsu = s.lsu ∧
    (s.unreference c).smu = s.smu ∧
    (s.unreference c).ports = s.ports ∧
    (s.unreference c).hoists = s.hoists ∧
    (s.unreference c).rcu = s.rcu ∧
    (s.unreference c).bcu = s.bcu ∧
    (s.unreference c).hlu = s.hlu ∧
    (s.unreference c).pending = s.pending := by
  unfold State.unreference
  try dsimp only
  refine ⟨?_, ?_, ?_, ?_, ?_, ?_, ?_, ?_, ?_⟩ <;> (repeat' split) <;> simp

@[simp] theorem State.jumpCheck_keeps (s : State) (c : CraneId) (l : CraneLink) (x : Int) :
    (s.jumpCheck c l x).now = s.now ∧
    (s.jumpCheck c l x).lsu = s.lsu ∧
    (s.jumpCheck c l x).smu = s.smu ∧
    (s.jumpCheck c l x).ports = s.ports ∧
    (s.jumpCheck c l x).hoists = s.hoists ∧
    (s.jumpCheck c l x).rcu = s.rcu ∧
    (s.jumpCheck c l x).bcu = s.bcu ∧
    (s.jumpCheck c l x).hlu = s.hlu ∧
    (s.jumpCheck c l x).pending = s.pending := by
  unfold State.jumpCheck
  try dsimp only
  refine ⟨?_, ?_, ?_, ?_, ?_, ?_, ?_, ?_, ?_⟩ <;> (repeat' split) <;> simp

@[simp] theorem State.judgeDrive_keeps (s : State) (c : CraneId) (x y : Bool) :
    (s.judgeDrive c x y).now = s.now ∧
    (s.judgeDrive c x y).lsu = s.lsu ∧
    (s.judgeDrive c x y).smu = s.smu ∧
    (s.judgeDrive c x y).tcu = s.tcu ∧
    (s.judgeDrive c x y).ports = s.ports ∧
    (s.judgeDrive c x y).hoists = s.hoists ∧
    (s.judgeDrive c x y).rcu = s.rcu ∧
    (s.judgeDrive c x y).bcu = s.bcu ∧
    (s.judgeDrive c x y).hlu = s.hlu ∧
    (s.judgeDrive c x y).pending = s.pending := by
  unfold State.judgeDrive
  try dsimp only
  refine ⟨?_, ?_, ?_, ?_, ?_, ?_, ?_, ?_, ?_, ?_⟩ <;> (repeat' split) <;> simp

@[simp] theorem State.trackArrive_keeps (s : State) (c : CraneId) (l : CraneLink) (r : StatusRec) :
    (s.trackArrive c l r).now = s.now ∧
    (s.trackArrive c l r).smu = s.smu ∧
    (s.trackArrive c l r).ports = s.ports ∧
    (s.trackArrive c l r).hoists = s.hoists ∧
    (s.trackArrive c l r).rcu = s.rcu ∧
    (s.trackArrive c l r).bcu = s.bcu ∧
    (s.trackArrive c l r).hlu = s.hlu ∧
    (s.trackArrive c l r).pending = s.pending := by
  unfold State.trackArrive
  try dsimp only
  refine ⟨?_, ?_, ?_, ?_, ?_, ?_, ?_, ?_⟩ <;> (repeat' split) <;> simp

@[simp] theorem State.takeMotion_keeps (s : State) (c : CraneId) (r : StatusRec) (x : Int) :
    (s.takeMotion c r x).now = s.now ∧
    (s.takeMotion c r x).lsu = s.lsu ∧
    (s.takeMotion c r x).smu = s.smu ∧
    (s.takeMotion c r x).tcu = s.tcu ∧
    (s.takeMotion c r x).links = s.links ∧
    (s.takeMotion c r x).ports = s.ports ∧
    (s.takeMotion c r x).hoists = s.hoists ∧
    (s.takeMotion c r x).bcu = s.bcu ∧
    (s.takeMotion c r x).dio = s.dio ∧
    (s.takeMotion c r x).fnu = s.fnu ∧
    (s.takeMotion c r x).hlu = s.hlu ∧
    (s.takeMotion c r x).pending = s.pending := by
  unfold State.takeMotion
  try dsimp only
  refine ⟨?_, ?_, ?_, ?_, ?_, ?_, ?_, ?_, ?_, ?_, ?_, ?_⟩ <;> (repeat' split) <;> simp

@[simp] theorem State.answer_keeps (s : State) (c : CraneId) :
    (s.answer c).now = s.now ∧
    (s.answer c).lsu = s.lsu ∧
    (s.answer c).smu = s.smu ∧
    (s.answer c).tcu = s.tcu ∧
    (s.answer c).links = s.links ∧
    (s.answer c).hoists = s.hoists ∧
    (s.answer c).rcu = s.rcu ∧
    (s.answer c).bcu = s.bcu ∧
    (s.answer c).dio = s.dio ∧
    (s.answer c).fnu = s.fnu ∧
    (s.answer c).hlu = s.hlu ∧
    (s.answer c).pending = s.pending := by
  unfold State.answer
  try dsimp only
  refine ⟨?_, ?_, ?_, ?_, ?_, ?_, ?_, ?_, ?_, ?_, ?_, ?_⟩ <;> (repeat' split) <;> simp

@[simp] theorem State.collisionArrive_keeps (s : State) (c : CraneId) (r : StatusRec) (x : Int) (b : Bool) :
    (s.collisionArrive c r x b).now = s.now ∧
    (s.collisionArrive c r x b).lsu = s.lsu ∧
    (s.collisionArrive c r x b).smu = s.smu ∧
    (s.collisionArrive c r x b).tcu = s.tcu ∧
    (s.collisionArrive c r x b).links = s.links ∧
    (s.collisionArrive c r x b).hoists = s.hoists ∧
    (s.collisionArrive c r x b).bcu = s.bcu ∧
    (s.collisionArrive c r x b).dio = s.dio ∧
    (s.collisionArrive c r x b).fnu = s.fnu ∧
    (s.collisionArrive c r x b).hlu = s.hlu ∧
    (s.collisionArrive c r x b).pending = s.pending := by
  unfold State.collisionArrive
  try dsimp only
  refine ⟨?_, ?_, ?_, ?_, ?_, ?_, ?_, ?_, ?_, ?_, ?_⟩ <;> (repeat' split) <;> simp

@[simp] theorem State.arrive_keeps (s : State) (c : CraneId) (l : CraneLink) (r : StatusRec) :
    (s.arrive c l r).now = s.now ∧
    (s.arrive c l r).hlu = s.hlu ∧
    (s.arrive c l r).pending = s.pending := by
  unfold State.arrive
  try dsimp only
  refine ⟨?_, ?_, ?_⟩ <;> (repeat' split) <;> simp

@[simp] theorem State.validRecord_keeps (s : State) (c : CraneId) (r : StatusRec) :
    (s.validRecord c r).now = s.now ∧
    (s.validRecord c r).hlu = s.hlu ∧
    (s.validRecord c r).pending = s.pending := by
  unfold State.validRecord
  try dsimp only
  refine ⟨?_, ?_, ?_⟩ <;> (repeat' split) <;> simp

@[simp] theorem State.freezeClaim_keeps (s : State) (c : CraneId) :
    (s.freezeClaim c).now = s.now ∧
    (s.freezeClaim c).lsu = s.lsu ∧
    (s.freezeClaim c).smu = s.smu ∧
    (s.freezeClaim c).tcu = s.tcu ∧
    (s.freezeClaim c).links = s.links ∧
    (s.freezeClaim c).ports = s.ports ∧
    (s.freezeClaim c).hoists = s.hoists ∧
    (s.freezeClaim c).bcu = s.bcu ∧
    (s.freezeClaim c).dio = s.dio ∧
    (s.freezeClaim c).fnu = s.fnu ∧
    (s.freezeClaim c).hlu = s.hlu ∧
    (s.freezeClaim c).pending = s.pending := by
  unfold State.freezeClaim
  try dsimp only
  refine ⟨?_, ?_, ?_, ?_, ?_, ?_, ?_, ?_, ?_, ?_, ?_, ?_⟩ <;> (repeat' split) <;> simp

@[simp] theorem State.evaluateOf_keeps (s : State) (c : CraneId) :
    (s.evaluateOf c).now = s.now ∧
    (s.evaluateOf c).lsu = s.lsu ∧
    (s.evaluateOf c).smu = s.smu ∧
    (s.evaluateOf c).tcu = s.tcu ∧
    (s.evaluateOf c).links = s.links ∧
    (s.evaluateOf c).hoists = s.hoists ∧
    (s.evaluateOf c).bcu = s.bcu ∧
    (s.evaluateOf c).dio = s.dio ∧
    (s.evaluateOf c).fnu = s.fnu ∧
    (s.evaluateOf c).hlu = s.hlu ∧
    (s.evaluateOf c).pending = s.pending := by
  unfold State.evaluateOf
  try dsimp only
  refine ⟨?_, ?_, ?_, ?_, ?_, ?_, ?_, ?_, ?_, ?_, ?_⟩ <;> (repeat' split) <;> simp

@[simp] theorem State.loseLink_keeps (s : State) (c : CraneId) :
    (s.loseLink c).now = s.now ∧
    (s.loseLink c).lsu = s.lsu ∧
    (s.loseLink c).smu = s.smu ∧
    (s.loseLink c).bcu = s.bcu ∧
    (s.loseLink c).hlu = s.hlu ∧
    (s.loseLink c).pending = s.pending := by
  unfold State.loseLink
  try dsimp only
  refine ⟨?_, ?_, ?_, ?_, ?_, ?_⟩ <;> (repeat' split) <;> simp

@[simp] theorem State.refEvent_keeps (s : State) (c : CraneId) :
    (s.refEvent c).now = s.now ∧
    (s.refEvent c).lsu = s.lsu ∧
    (s.refEvent c).smu = s.smu ∧
    (s.refEvent c).tcu = s.tcu ∧
    (s.refEvent c).ports = s.ports ∧
    (s.refEvent c).hoists = s.hoists ∧
    (s.refEvent c).rcu = s.rcu ∧
    (s.refEvent c).bcu = s.bcu ∧
    (s.refEvent c).hlu = s.hlu ∧
    (s.refEvent c).pending = s.pending := by
  unfold State.refEvent
  try dsimp only
  refine ⟨?_, ?_, ?_, ?_, ?_, ?_, ?_, ?_, ?_, ?_⟩ <;> (repeat' split) <;> simp

@[simp] theorem State.estopEvent_keeps (s : State) (r : RunwayId) (v : Bool) :
    (s.estopEvent r v).now = s.now ∧
    (s.estopEvent r v).lsu = s.lsu ∧
    (s.estopEvent r v).smu = s.smu ∧
    (s.estopEvent r v).tcu = s.tcu ∧
    (s.estopEvent r v).links = s.links ∧
    (s.estopEvent r v).hoists = s.hoists ∧
    (s.estopEvent r v).bcu = s.bcu ∧
    (s.estopEvent r v).hlu = s.hlu ∧
    (s.estopEvent r v).pending = s.pending := by
  unfold State.estopEvent
  try dsimp only
  refine ⟨?_, ?_, ?_, ?_, ?_, ?_, ?_, ?_, ?_⟩ <;> (repeat' split) <;> simp

@[simp] theorem State.deliverRef_keeps (old : Dio) (s : State) (c : CraneId) :
    (State.deliverRef old s c).now = s.now ∧
    (State.deliverRef old s c).lsu = s.lsu ∧
    (State.deliverRef old s c).smu = s.smu ∧
    (State.deliverRef old s c).tcu = s.tcu ∧
    (State.deliverRef old s c).ports = s.ports ∧
    (State.deliverRef old s c).hoists = s.hoists ∧
    (State.deliverRef old s c).rcu = s.rcu ∧
    (State.deliverRef old s c).bcu = s.bcu ∧
    (State.deliverRef old s c).hlu = s.hlu ∧
    (State.deliverRef old s c).pending = s.pending := by
  unfold State.deliverRef
  refine ⟨?_, ?_, ?_, ?_, ?_, ?_, ?_, ?_, ?_, ?_⟩ <;> split <;> simp

@[simp] theorem State.deliverEstop_keeps (old : Dio) (s : State) (r : RunwayId) :
    (State.deliverEstop old s r).now = s.now ∧
    (State.deliverEstop old s r).lsu = s.lsu ∧
    (State.deliverEstop old s r).smu = s.smu ∧
    (State.deliverEstop old s r).tcu = s.tcu ∧
    (State.deliverEstop old s r).links = s.links ∧
    (State.deliverEstop old s r).hoists = s.hoists ∧
    (State.deliverEstop old s r).bcu = s.bcu ∧
    (State.deliverEstop old s r).hlu = s.hlu ∧
    (State.deliverEstop old s r).pending = s.pending := by
  unfold State.deliverEstop
  refine ⟨?_, ?_, ?_, ?_, ?_, ?_, ?_, ?_, ?_⟩ <;> split <;> simp

@[simp] theorem State.deliverBay_keeps (old : Dio) (s : State) (b : BayId) :
    (State.deliverBay old s b).now = s.now ∧
    (State.deliverBay old s b).lsu = s.lsu ∧
    (State.deliverBay old s b).smu = s.smu ∧
    (State.deliverBay old s b).tcu = s.tcu ∧
    (State.deliverBay old s b).links = s.links ∧
    (State.deliverBay old s b).hoists = s.hoists ∧
    (State.deliverBay old s b).hlu = s.hlu ∧
    (State.deliverBay old s b).pending = s.pending := by
  unfold State.deliverBay
  refine ⟨?_, ?_, ?_, ?_, ?_, ?_, ?_, ?_⟩ <;> split <;> simp

@[simp] theorem State.deliver_keeps (old : Dio) (s : State)  :
    (State.deliver old s).now = s.now ∧
    (State.deliver old s).lsu = s.lsu ∧
    (State.deliver old s).smu = s.smu ∧
    (State.deliver old s).tcu = s.tcu ∧
    (State.deliver old s).hoists = s.hoists ∧
    (State.deliver old s).hlu = s.hlu ∧
    (State.deliver old s).pending = s.pending := by
  refine ⟨?_, ?_, ?_, ?_, ?_, ?_, ?_⟩
  · unfold State.deliver
    split
    · rfl
    · refine (foldl_keeps _ State.now (by simp) _ _).trans ?_
      refine (foldl_keeps _ State.now (by simp) _ _).trans ?_
      exact foldl_keeps _ State.now (by simp) _ _
  · unfold State.deliver
    split
    · rfl
    · refine (foldl_keeps _ State.lsu (by simp) _ _).trans ?_
      refine (foldl_keeps _ State.lsu (by simp) _ _).trans ?_
      exact foldl_keeps _ State.lsu (by simp) _ _
  · unfold State.deliver
    split
    · rfl
    · refine (foldl_keeps _ State.smu (by simp) _ _).trans ?_
      refine (foldl_keeps _ State.smu (by simp) _ _).trans ?_
      exact foldl_keeps _ State.smu (by simp) _ _
  · unfold State.deliver
    split
    · rfl
    · refine (foldl_keeps _ State.tcu (by simp) _ _).trans ?_
      refine (foldl_keeps _ State.tcu (by simp) _ _).trans ?_
      exact foldl_keeps _ State.tcu (by simp) _ _
  · unfold State.deliver
    split
    · rfl
    · refine (foldl_keeps _ State.hoists (by simp) _ _).trans ?_
      refine (foldl_keeps _ State.hoists (by simp) _ _).trans ?_
      exact foldl_keeps _ State.hoists (by simp) _ _
  · unfold State.deliver
    split
    · rfl
    · refine (foldl_keeps _ State.hlu (by simp) _ _).trans ?_
      refine (foldl_keeps _ State.hlu (by simp) _ _).trans ?_
      exact foldl_keeps _ State.hlu (by simp) _ _
  · unfold State.deliver
    split
    · rfl
    · refine (foldl_keeps _ State.pending (by simp) _ _).trans ?_
      refine (foldl_keeps _ State.pending (by simp) _ _).trans ?_
      exact foldl_keeps _ State.pending (by simp) _ _

@[simp] theorem State.lineTakes_keeps (s : State) (k : Fin 32) (l : Line) :
    (s.lineTakes k l).now = s.now ∧
    (s.lineTakes k l).lsu = s.lsu ∧
    (s.lineTakes k l).smu = s.smu ∧
    (s.lineTakes k l).tcu = s.tcu ∧
    (s.lineTakes k l).hoists = s.hoists ∧
    (s.lineTakes k l).hlu = s.hlu ∧
    (s.lineTakes k l).pending = s.pending := by
  unfold State.lineTakes
  try dsimp only
  refine ⟨?_, ?_, ?_, ?_, ?_, ?_, ?_⟩ <;> (repeat' split) <;> simp

@[simp] theorem State.restartSilence_keeps (s : State)  :
    s.restartSilence.now = s.now ∧
    s.restartSilence.lsu = s.lsu ∧
    s.restartSilence.smu = s.smu ∧
    s.restartSilence.tcu = s.tcu ∧
    s.restartSilence.links = s.links ∧
    s.restartSilence.ports = s.ports ∧
    s.restartSilence.hoists = s.hoists ∧
    s.restartSilence.rcu = s.rcu ∧
    s.restartSilence.bcu = s.bcu ∧
    s.restartSilence.dio = s.dio ∧
    s.restartSilence.fnu = s.fnu ∧
    s.restartSilence.pending = s.pending := by
  unfold State.restartSilence
  try dsimp only
  refine ⟨?_, ?_, ?_, ?_, ?_, ?_, ?_, ?_, ?_, ?_, ?_, ?_⟩ <;> (repeat' split) <;> simp

@[simp] theorem State.endSilence_keeps (s : State)  :
    s.endSilence.now = s.now ∧
    s.endSilence.lsu = s.lsu ∧
    s.endSilence.smu = s.smu ∧
    s.endSilence.tcu = s.tcu ∧
    s.endSilence.links = s.links ∧
    s.endSilence.ports = s.ports ∧
    s.endSilence.hoists = s.hoists ∧
    s.endSilence.rcu = s.rcu ∧
    s.endSilence.bcu = s.bcu ∧
    s.endSilence.pending = s.pending := by
  unfold State.endSilence
  try dsimp only
  refine ⟨?_, ?_, ?_, ?_, ?_, ?_, ?_, ?_, ?_, ?_⟩ <;> (repeat' split) <;> simp

@[simp] theorem State.validFrame_keeps (s : State)  :
    s.validFrame.now = s.now ∧
    s.validFrame.lsu = s.lsu ∧
    s.validFrame.smu = s.smu ∧
    s.validFrame.tcu = s.tcu ∧
    s.validFrame.links = s.links ∧
    s.validFrame.ports = s.ports ∧
    s.validFrame.hoists = s.hoists ∧
    s.validFrame.rcu = s.rcu ∧
    s.validFrame.bcu = s.bcu ∧
    s.validFrame.pending = s.pending := by
  unfold State.validFrame
  try dsimp only
  refine ⟨?_, ?_, ?_, ?_, ?_, ?_, ?_, ?_, ?_, ?_⟩ <;> (repeat' split) <;> simp

@[simp] theorem State.replyWith_keeps (s : State) (t k : Byte) (a : Answer) :
    (s.replyWith t k a).now = s.now ∧
    (s.replyWith t k a).lsu = s.lsu ∧
    (s.replyWith t k a).smu = s.smu ∧
    (s.replyWith t k a).tcu = s.tcu ∧
    (s.replyWith t k a).links = s.links ∧
    (s.replyWith t k a).ports = s.ports ∧
    (s.replyWith t k a).hoists = s.hoists ∧
    (s.replyWith t k a).rcu = s.rcu ∧
    (s.replyWith t k a).bcu = s.bcu ∧
    (s.replyWith t k a).dio = s.dio ∧
    (s.replyWith t k a).fnu = s.fnu ∧
    (s.replyWith t k a).pending = s.pending := by
  unfold State.replyWith
  try dsimp only
  refine ⟨?_, ?_, ?_, ?_, ?_, ?_, ?_, ?_, ?_, ?_, ?_, ?_⟩ <;> (repeat' split) <;> simp

@[simp] theorem State.startFrame_keeps (s : State)  :
    s.startFrame.now = s.now ∧
    s.startFrame.lsu = s.lsu ∧
    s.startFrame.smu = s.smu ∧
    s.startFrame.tcu = s.tcu ∧
    s.startFrame.links = s.links ∧
    s.startFrame.ports = s.ports ∧
    s.startFrame.hoists = s.hoists ∧
    s.startFrame.rcu = s.rcu ∧
    s.startFrame.bcu = s.bcu ∧
    s.startFrame.dio = s.dio ∧
    s.startFrame.pending = s.pending := by
  unfold State.startFrame
  try dsimp only
  refine ⟨?_, ?_, ?_, ?_, ?_, ?_, ?_, ?_, ?_, ?_, ?_⟩ <;> (repeat' split) <;> simp

@[simp] theorem State.clearFlags_keeps (s : State) (fs : List FlagId) :
    (s.clearFlags fs).now = s.now ∧
    (s.clearFlags fs).lsu = s.lsu ∧
    (s.clearFlags fs).smu = s.smu ∧
    (s.clearFlags fs).tcu = s.tcu ∧
    (s.clearFlags fs).links = s.links ∧
    (s.clearFlags fs).hoists = s.hoists ∧
    (s.clearFlags fs).bcu = s.bcu ∧
    (s.clearFlags fs).hlu = s.hlu ∧
    (s.clearFlags fs).pending = s.pending := by
  refine ⟨?_, ?_, ?_, ?_, ?_, ?_, ?_, ?_, ?_⟩
  · simp only [State.clearFlags, State.evaluateAll_keeps]
    exact foldl_keeps _ State.now (by simp) _ _
  · simp only [State.clearFlags, State.evaluateAll_keeps]
    exact foldl_keeps _ State.lsu (by simp) _ _
  · simp only [State.clearFlags, State.evaluateAll_keeps]
    exact foldl_keeps _ State.smu (by simp) _ _
  · simp only [State.clearFlags, State.evaluateAll_keeps]
    exact foldl_keeps _ State.tcu (by simp) _ _
  · simp only [State.clearFlags, State.evaluateAll_keeps]
    exact foldl_keeps _ State.links (by simp) _ _
  · simp only [State.clearFlags, State.evaluateAll_keeps]
    exact foldl_keeps _ State.hoists (by simp) _ _
  · simp only [State.clearFlags, State.evaluateAll_keeps]
    exact foldl_keeps _ State.bcu (by simp) _ _
  · simp only [State.clearFlags, State.evaluateAll_keeps]
    exact foldl_keeps _ State.hlu (by simp) _ _
  · simp only [State.clearFlags, State.evaluateAll_keeps]
    exact foldl_keeps _ State.pending (by simp) _ _

@[simp] theorem State.putSettings_keeps (s : State) (v : List (Setting × SettingValue)) :
    (s.putSettings v).now = s.now ∧
    (s.putSettings v).smu = s.smu ∧
    (s.putSettings v).tcu = s.tcu ∧
    (s.putSettings v).links = s.links ∧
    (s.putSettings v).hoists = s.hoists ∧
    (s.putSettings v).bcu = s.bcu ∧
    (s.putSettings v).pending = s.pending := by
  unfold State.putSettings
  try dsimp only
  refine ⟨?_, ?_, ?_, ?_, ?_, ?_, ?_⟩ <;> (repeat' split) <;> simp

@[simp] theorem State.enterStage_keeps (s : State) (g : Stage) (x : StageCause) :
    (s.enterStage g x).now = s.now ∧
    (s.enterStage g x).smu = s.smu ∧
    (s.enterStage g x).tcu = s.tcu ∧
    (s.enterStage g x).links = s.links ∧
    (s.enterStage g x).hoists = s.hoists ∧
    (s.enterStage g x).bcu = s.bcu ∧
    (s.enterStage g x).dio = s.dio ∧
    (s.enterStage g x).hlu = s.hlu ∧
    (s.enterStage g x).pending = s.pending := by
  unfold State.enterStage
  try dsimp only
  refine ⟨?_, ?_, ?_, ?_, ?_, ?_, ?_, ?_, ?_⟩ <;> (repeat' split) <;> simp

@[simp] theorem State.accept_keeps (s : State) (c : CraneId) (t : Task) :
    (s.accept c t).now = s.now ∧
    (s.accept c t).lsu = s.lsu ∧
    (s.accept c t).links = s.links ∧
    (s.accept c t).ports = s.ports ∧
    (s.accept c t).hoists = s.hoists ∧
    (s.accept c t).rcu = s.rcu ∧
    (s.accept c t).dio = s.dio ∧
    (s.accept c t).hlu = s.hlu ∧
    (s.accept c t).pending = s.pending := by
  unfold State.accept
  try dsimp only
  refine ⟨?_, ?_, ?_, ?_, ?_, ?_, ?_, ?_, ?_⟩ <;> (repeat' split) <;> simp

@[simp] theorem State.cancelTask_keeps (s : State) (c : CraneId) (t : Task) :
    (s.cancelTask c t).now = s.now ∧
    (s.cancelTask c t).lsu = s.lsu ∧
    (s.cancelTask c t).links = s.links ∧
    (s.cancelTask c t).hoists = s.hoists ∧
    (s.cancelTask c t).hlu = s.hlu ∧
    (s.cancelTask c t).pending = s.pending := by
  unfold State.cancelTask
  try dsimp only
  refine ⟨?_, ?_, ?_, ?_, ?_, ?_⟩ <;> (repeat' split) <;> simp

@[simp] theorem State.moveWork_keeps (s : State) (x y : Task) :
    (s.moveWork x y).now = s.now ∧
    (s.moveWork x y).lsu = s.lsu ∧
    (s.moveWork x y).smu = s.smu ∧
    (s.moveWork x y).tcu = s.tcu ∧
    (s.moveWork x y).links = s.links ∧
    (s.moveWork x y).ports = s.ports ∧
    (s.moveWork x y).hoists = s.hoists ∧
    (s.moveWork x y).rcu = s.rcu ∧
    (s.moveWork x y).hlu = s.hlu ∧
    (s.moveWork x y).pending = s.pending := by
  refine ⟨?_, ?_, ?_, ?_, ?_, ?_, ?_, ?_, ?_, ?_⟩
  · exact (foldl_keeps _ State.now (by simp) _ _).trans (foldl_keeps _ State.now (by simp) _ _)
  · exact (foldl_keeps _ State.lsu (by simp) _ _).trans (foldl_keeps _ State.lsu (by simp) _ _)
  · exact (foldl_keeps _ State.smu (by simp) _ _).trans (foldl_keeps _ State.smu (by simp) _ _)
  · exact (foldl_keeps _ State.tcu (by simp) _ _).trans (foldl_keeps _ State.tcu (by simp) _ _)
  · exact (foldl_keeps _ State.links (by simp) _ _).trans (foldl_keeps _ State.links (by simp) _ _)
  · exact (foldl_keeps _ State.ports (by simp) _ _).trans (foldl_keeps _ State.ports (by simp) _ _)
  · exact (foldl_keeps _ State.hoists (by simp) _ _).trans (foldl_keeps _ State.hoists (by simp) _ _)
  · exact (foldl_keeps _ State.rcu (by simp) _ _).trans (foldl_keeps _ State.rcu (by simp) _ _)
  · exact (foldl_keeps _ State.hlu (by simp) _ _).trans (foldl_keeps _ State.hlu (by simp) _ _)
  · exact (foldl_keeps _ State.pending (by simp) _ _).trans (foldl_keeps _ State.pending (by simp) _ _)

@[simp] theorem State.redirect_keeps (s : State) (c : CraneId) (t : Task) (d : Dest) :
    (s.redirect c t d).now = s.now ∧
    (s.redirect c t d).lsu = s.lsu ∧
    (s.redirect c t d).links = s.links ∧
    (s.redirect c t d).ports = s.ports ∧
    (s.redirect c t d).hoists = s.hoists ∧
    (s.redirect c t d).rcu = s.rcu ∧
    (s.redirect c t d).hlu = s.hlu ∧
    (s.redirect c t d).pending = s.pending := by
  unfold State.redirect
  try dsimp only
  refine ⟨?_, ?_, ?_, ?_, ?_, ?_, ?_, ?_⟩ <;> (repeat' split) <;> simp

@[simp] theorem State.returnTask_keeps (s : State) (c : CraneId) (t : Task) :
    (s.returnTask c t).now = s.now ∧
    (s.returnTask c t).lsu = s.lsu ∧
    (s.returnTask c t).links = s.links ∧
    (s.returnTask c t).ports = s.ports ∧
    (s.returnTask c t).hoists = s.hoists ∧
    (s.returnTask c t).rcu = s.rcu ∧
    (s.returnTask c t).hlu = s.hlu ∧
    (s.returnTask c t).pending = s.pending := by
  unfold State.returnTask
  try dsimp only
  refine ⟨?_, ?_, ?_, ?_, ?_, ?_, ?_, ?_⟩ <;> (repeat' split) <;> simp

@[simp] theorem State.setHalts_keeps (s : State) (cs : List CraneId) (m : Option HaltMode) :
    (s.setHalts cs m).now = s.now ∧
    (s.setHalts cs m).lsu = s.lsu ∧
    (s.setHalts cs m).smu = s.smu ∧
    (s.setHalts cs m).links = s.links ∧
    (s.setHalts cs m).hoists = s.hoists ∧
    (s.setHalts cs m).bcu = s.bcu ∧
    (s.setHalts cs m).dio = s.dio ∧
    (s.setHalts cs m).fnu = s.fnu ∧
    (s.setHalts cs m).hlu = s.hlu ∧
    (s.setHalts cs m).pending = s.pending := by
  refine ⟨?_, ?_, ?_, ?_, ?_, ?_, ?_, ?_, ?_, ?_⟩
  · exact (foldl_keeps _ State.now (by simp) _ _).trans (by simp)
  · exact (foldl_keeps _ State.lsu (by simp) _ _).trans (by simp)
  · exact (foldl_keeps _ State.smu (by simp) _ _).trans (by simp)
  · exact (foldl_keeps _ State.links (by simp) _ _).trans (by simp)
  · exact (foldl_keeps _ State.hoists (by simp) _ _).trans (by simp)
  · exact (foldl_keeps _ State.bcu (by simp) _ _).trans (by simp)
  · exact (foldl_keeps _ State.dio (by simp) _ _).trans (by simp)
  · exact (foldl_keeps _ State.fnu (by simp) _ _).trans (by simp)
  · exact (foldl_keeps _ State.hlu (by simp) _ _).trans (by simp)
  · exact (foldl_keeps _ State.pending (by simp) _ _).trans (by simp)

@[simp] theorem State.reform_keeps (s : State) (c : CraneId) (p : ParamSet) :
    (s.reform c p).now = s.now ∧
    (s.reform c p).lsu = s.lsu ∧
    (s.reform c p).smu = s.smu ∧
    (s.reform c p).tcu = s.tcu ∧
    (s.reform c p).links = s.links ∧
    (s.reform c p).ports = s.ports ∧
    (s.reform c p).rcu = s.rcu ∧
    (s.reform c p).bcu = s.bcu ∧
    (s.reform c p).dio = s.dio ∧
    (s.reform c p).fnu = s.fnu ∧
    (s.reform c p).hlu = s.hlu ∧
    (s.reform c p).pending = s.pending := by
  unfold State.reform
  try dsimp only
  refine ⟨?_, ?_, ?_, ?_, ?_, ?_, ?_, ?_, ?_, ?_, ?_, ?_⟩ <;> (repeat' split) <;> simp

@[simp] theorem State.addEntry_keeps (s : State) (u : Build) (v : PlanEntry) :
    (s.addEntry u v).now = s.now ∧
    (s.addEntry u v).lsu = s.lsu ∧
    (s.addEntry u v).tcu = s.tcu ∧
    (s.addEntry u v).links = s.links ∧
    (s.addEntry u v).ports = s.ports ∧
    (s.addEntry u v).hoists = s.hoists ∧
    (s.addEntry u v).rcu = s.rcu ∧
    (s.addEntry u v).dio = s.dio ∧
    (s.addEntry u v).fnu = s.fnu ∧
    (s.addEntry u v).hlu = s.hlu ∧
    (s.addEntry u v).pending = s.pending := by
  unfold State.addEntry
  try dsimp only
  refine ⟨?_, ?_, ?_, ?_, ?_, ?_, ?_, ?_, ?_, ?_, ?_⟩ <;> (repeat' split) <;> simp

@[simp] theorem State.install_keeps (s : State) (u : Build) :
    (s.install u).now = s.now ∧
    (s.install u).lsu = s.lsu ∧
    (s.install u).tcu = s.tcu ∧
    (s.install u).links = s.links ∧
    (s.install u).ports = s.ports ∧
    (s.install u).hoists = s.hoists ∧
    (s.install u).rcu = s.rcu ∧
    (s.install u).dio = s.dio ∧
    (s.install u).fnu = s.fnu ∧
    (s.install u).hlu = s.hlu ∧
    (s.install u).pending = s.pending := by
  unfold State.install
  try dsimp only
  refine ⟨?_, ?_, ?_, ?_, ?_, ?_, ?_, ?_, ?_, ?_, ?_⟩ <;> (repeat' split) <;> simp

@[simp] theorem State.setBeacon_keeps (s : State) (c : CraneId) (b : Beacon) :
    (s.setBeacon c b).now = s.now ∧
    (s.setBeacon c b).lsu = s.lsu ∧
    (s.setBeacon c b).smu = s.smu ∧
    (s.setBeacon c b).tcu = s.tcu ∧
    (s.setBeacon c b).links = s.links ∧
    (s.setBeacon c b).ports = s.ports ∧
    (s.setBeacon c b).hoists = s.hoists ∧
    (s.setBeacon c b).rcu = s.rcu ∧
    (s.setBeacon c b).bcu = s.bcu ∧
    (s.setBeacon c b).fnu = s.fnu ∧
    (s.setBeacon c b).hlu = s.hlu ∧
    (s.setBeacon c b).pending = s.pending := by
  unfold State.setBeacon
  try dsimp only
  refine ⟨?_, ?_, ?_, ?_, ?_, ?_, ?_, ?_, ?_, ?_, ?_, ?_⟩ <;> (repeat' split) <;> simp

@[simp] theorem State.setInputs_keeps (s : State) (t : InTable) :
    (s.setInputs t).now = s.now ∧
    (s.setInputs t).lsu = s.lsu ∧
    (s.setInputs t).smu = s.smu ∧
    (s.setInputs t).tcu = s.tcu ∧
    (s.setInputs t).links = s.links ∧
    (s.setInputs t).ports = s.ports ∧
    (s.setInputs t).hoists = s.hoists ∧
    (s.setInputs t).rcu = s.rcu ∧
    (s.setInputs t).bcu = s.bcu ∧
    (s.setInputs t).fnu = s.fnu ∧
    (s.setInputs t).hlu = s.hlu ∧
    (s.setInputs t).pending = s.pending := by
  unfold State.setInputs
  try dsimp only
  refine ⟨?_, ?_, ?_, ?_, ?_, ?_, ?_, ?_, ?_, ?_, ?_, ?_⟩ <;> (repeat' split) <;> simp

@[simp] theorem State.setDetached_keeps (s : State) (c : CraneId) (v : Bool) :
    (s.setDetached c v).now = s.now ∧
    (s.setDetached c v).lsu = s.lsu ∧
    (s.setDetached c v).smu = s.smu ∧
    (s.setDetached c v).links = s.links ∧
    (s.setDetached c v).ports = s.ports ∧
    (s.setDetached c v).hoists = s.hoists ∧
    (s.setDetached c v).rcu = s.rcu ∧
    (s.setDetached c v).bcu = s.bcu ∧
    (s.setDetached c v).dio = s.dio ∧
    (s.setDetached c v).fnu = s.fnu ∧
    (s.setDetached c v).hlu = s.hlu ∧
    (s.setDetached c v).pending = s.pending := by
  unfold State.setDetached
  try dsimp only
  refine ⟨?_, ?_, ?_, ?_, ?_, ?_, ?_, ?_, ?_, ?_, ?_, ?_⟩ <;> (repeat' split) <;> simp

end Sys2Proof.Machine
end

