-- ==== Sys2Proof/Laws/Requests.lean ====
section
/-! SUPPORT. The checks of a request, its judging and its serving: one lemma for each way each of them can
end; and which fields a task's record has. -/

namespace Sys2Proof.Machine

/-! ## Checks -/

@[simp] theorem except_ok_bind {α β : Type} (a : α) (f : α → Except Nak β) :
    (Except.ok a >>= f) = f a := rfl

@[simp] theorem except_error_bind {α β : Type} (n : Nak) (f : α → Except Nak β) :
    ((Except.error n : Except Nak α) >>= f) = Except.error n := rfl

@[simp] theorem require_true (code : RefusalCode) (detail : Nat) : require true code detail = .ok () := rfl

@[simp] theorem require_false (code : RefusalCode) (detail : Nat) :
    require false code detail = .error ⟨code, detail⟩ := rfl

@[simp] theorem requireSome_some {α : Type} (a : α) (code : RefusalCode) (detail : Nat) :
    requireSome (some a) code detail = .ok a := rfl

@[simp] theorem requireSome_none {α : Type} (code : RefusalCode) (detail : Nat) :
    requireSome (none : Option α) code detail = .error ⟨code, detail⟩ := rfl

@[simp] theorem requireNone_none : requireNone none = .ok () := rfl

@[simp] theorem requireNone_some (n : Nak) : requireNone (some n) = .error n := rfl

@[simp] theorem checkFrom_nil (k : Nat) : checkFrom k [] = .ok () := rfl

@[simp] theorem checkFrom_true (k : Nat) (t : List Bool) : checkFrom k (true :: t) = checkFrom (k + 1) t := rfl

@[simp] theorem checkFrom_false (k : Nat) (t : List Bool) :
    checkFrom k (false :: t) = .error ⟨.badValue, k⟩ := rfl

/-- The checks pass when every test does. -/
theorem checkFrom_all (k : Nat) (l : List Bool) (h : ∀ b ∈ l, b = true) : checkFrom k l = .ok () := by
  induction l generalizing k with
  | nil => rfl
  | cons b t ih =>
    rw [h b List.mem_cons_self, checkFrom_true]
    exact ih _ fun c hc => h c (List.mem_cons_of_mem _ hc)

/-- Where a test fails, the first such field is named by its ordinal. -/
theorem checkFrom_fails (k : Nat) (l : List Bool) (h : false ∈ l) :
    ∃ n, k ≤ n ∧ n < k + l.length ∧ checkFrom k l = .error ⟨.badValue, n⟩ := by
  induction l generalizing k with
  | nil => simp at h
  | cons b t ih =>
    cases b with
    | false => exact ⟨k, Nat.le_refl k, by simp, rfl⟩
    | true =>
      obtain ⟨n, h1, h2, h3⟩ := ih (k + 1) (by simpa using h)
      exact ⟨n, by omega, by simp only [List.length_cons]; omega, by rw [checkFrom_true]; exact h3⟩

@[simp] theorem readCoded_known {α : Type} (a : α) (d : Nat) : readCoded (.known a) d = .ok a := rfl

@[simp] theorem codedOk_known {α : Type} (a : α) : codedOk (.known a) = true := rfl

@[simp] theorem num4_numVal (c : Num4) : num4? (numVal c) = some c := by cases c <;> rfl

@[simp] theorem readNum_numVal (c : Num4) (d : Nat) : readNum (numVal c) d = .ok c := by cases c <;> rfl

@[simp] theorem num4Ok_numVal (c : Num4) : num4Ok (numVal c) = true := by cases c <;> rfl

/-- A range test passes within the range. -/
theorem within_of_le {lo hi n : Nat} (h1 : lo ≤ n) (h2 : n ≤ hi) : within lo hi n = true := by
  simp [within, h1, h2]

/-! ## Serving a request -/

@[simp] theorem bodyShape_fields {α : Type} (v : α) : bodyShape (.fields v) = .fields := rfl
@[simp] theorem bodyShape_badSelector {α : Type} (n : Nat) :
    bodyShape (.badSelector n : Body α) = .badSelector := rfl
@[simp] theorem bodyShape_badLength {α : Type} (n : Nat) :
    bodyShape (.badLength n : Body α) = .badLength n := rfl

theorem State.acked_eq (s : State) (tag : Byte) (k : ReqKind) (a : Ack) :
    s.acked tag k a = s.replyWith tag k.code (.ack a) := rfl

theorem State.nacked_eq (s : State) (tag kind : Byte) (code : RefusalCode) (detail : Nat) :
    s.nacked tag kind code detail = s.replyWith tag kind (.nak ⟨code, detail⟩) := rfl

/-- A request whose frame is not taken does nothing. -/
theorem State.serve_none {α : Type} {s : State} {tag : Byte} {r : Request} (b : Body α)
    (stages : Stage → Bool) (sel : Selector) (own : State → α → Verdict)
    (h : s.takeFrame ⟨tag, r⟩ = none) : s.serve tag r b stages sel own = s := by
  simp [State.serve, h]

/-- A taken request of a wrong length is refused and does nothing else. -/
theorem State.serve_badLength {α : Type} {s s0 : State} {tag : Byte} {r : Request} {b : Body α} {n : Nat}
    (stages : Stage → Bool) (sel : Selector) (own : State → α → Verdict)
    (h : s.takeFrame ⟨tag, r⟩ = some s0) (hb : bodyShape b = .badLength n) :
    s.serve tag r b stages sel own = s0.nacked tag (requestCode r) .badLength n := by
  cases b with
  | fields v => simp at hb
  | badSelector m => simp at hb
  | badLength m => simp at hb; subst hb; simp [State.serve, h, State.judge, State.nacked_eq]

/-- A taken request during the building of a plan is refused and discards the plan. -/
theorem State.serve_build {α : Type} {s s0 : State} {tag : Byte} {r : Request} {b : Body α} {u : Build}
    (stages : Stage → Bool) (sel : Selector) (own : State → α → Verdict)
    (h : s.takeFrame ⟨tag, r⟩ = some s0) (hb : ∀ n, bodyShape b ≠ .badLength n)
    (hu : s0.bcu.build = some u) :
    s.serve tag r b stages sel own
      = s0.discardBuild.nacked tag (requestCode r) .planInProgress (numVal u.bay) := by
  cases b with
  | fields v => simp [State.serve, h, State.judge, hu, State.nacked_eq]
  | badSelector m => simp [State.serve, h, State.judge, hu, State.nacked_eq]
  | badLength m => exact absurd rfl (hb m)

/-- A taken request whose row-picking field lies outside its set is refused, by the selector and the stage. -/
theorem State.serve_badSelector {α : Type} {s s0 : State} {tag : Byte} {r : Request} {b : Body α}
    (stages : Stage → Bool) {sel : Selector} (own : State → α → Verdict)
    (h : s.takeFrame ⟨tag, r⟩ = some s0) (hb : bodyShape b = .badSelector) (hu : s0.bcu.build = none) :
    s.serve tag r b stages sel own =
      if sel.stages s0.lsu.stage then s0.nacked tag (requestCode r) .badValue sel.detail
      else s0.nacked tag (requestCode r) .wrongStage 0 := by
  cases b with
  | fields v => simp at hb
  | badLength m => simp at hb
  | badSelector m => simp only [State.serve, h, State.judge, hu]; split <;> rfl

/-- A taken request in a stage that does not accept it is refused. -/
theorem State.serve_stage {α : Type} {s s0 : State} {tag : Byte} {r : Request} {b : Body α}
    {stages : Stage → Bool} (sel : Selector) (own : State → α → Verdict)
    (h : s.takeFrame ⟨tag, r⟩ = some s0) (hb : bodyShape b = .fields) (hu : s0.bcu.build = none)
    (hg : stages s0.lsu.stage = false) :
    s.serve tag r b stages sel own = s0.nacked tag (requestCode r) .wrongStage 0 := by
  cases b with
  | fields v => simp [State.serve, h, State.judge, hu, hg, State.nacked_eq]
  | badSelector m => simp at hb
  | badLength m => simp at hb

/-- A request let through to its owner is answered by the owner's verdict. -/
theorem State.serve_own {α : Type} {s s0 : State} {tag : Byte} {r : Request} {v : α}
    {stages : Stage → Bool} (sel : Selector) (own : State → α → Verdict)
    (h : s.Admits ⟨tag, r⟩ stages s0) :
    s.serve tag r (.fields v) stages sel own
      = (((own s0 v).settle s0).1).replyWith tag (requestCode r) ((own s0 v).settle s0).2 := by
  obtain ⟨h1, h2, h3⟩ := h
  simp [State.serve, h1, State.judge, h2, h3]

/-- A request that its owner accepts. -/
theorem State.serve_ack {α : Type} {s s0 t : State} {tag : Byte} {r : Request} {v : α} {a : Ack}
    {stages : Stage → Bool} {own : State → α → Verdict} (sel : Selector)
    (h : s.Admits ⟨tag, r⟩ stages s0) (ho : own s0 v = .ok (t, a)) :
    s.serve tag r (.fields v) stages sel own = t.replyWith tag (requestCode r) (.ack a) := by
  rw [State.serve_own sel own h, ho]; rfl

/-- A request that its owner refuses. -/
theorem State.serve_nak {α : Type} {s s0 : State} {tag : Byte} {r : Request} {v : α} {n : Nak}
    {stages : Stage → Bool} {own : State → α → Verdict} (sel : Selector)
    (h : s.Admits ⟨tag, r⟩ stages s0) (ho : own s0 v = .error n) :
    s.serve tag r (.fields v) stages sel own = s0.replyWith tag (requestCode r) (.nak n) := by
  rw [State.serve_own sel own h, ho]; rfl

/-! ## Taking a frame -/

/-- A valid frame moves no frame of the host link. -/
@[simp] theorem State.validFrame_hlu (s : State) :
    s.validFrame.hlu.inbound = s.hlu.inbound ∧ s.validFrame.hlu.handling = s.hlu.handling ∧
    s.validFrame.hlu.reply = s.hlu.reply ∧ s.validFrame.hlu.sending = s.hlu.sending ∧
    s.validFrame.hlu.frameErrors = s.hlu.frameErrors ∧ s.validFrame.hlu.overruns = s.hlu.overruns ∧
    s.validFrame.hlu.silent = false := by
  unfold State.validFrame State.restartSilence State.endSilence
  cases h : s.hlu.silent <;> simp [h]

/-- A counter that goes up holds at 65,535. -/
theorem bump_eq_min (n : Nat) : bump n = min (n + 1) 65535 := by
  unfold bump Config.counterMax
  by_cases h : n < 65535
  · rw [if_pos h]; omega
  · rw [if_neg h]; omega

theorem State.takeFrame_busy {s : State} {g : Frame} (f : Frame) (h : s.hlu.handling = some g) :
    s.takeFrame f = none := by
  simp [State.takeFrame, h]

theorem State.takeFrame_head {s : State} {f : Frame} {rest : List Frame} (h : s.hlu.handling = none)
    (hi : s.hlu.inbound = f :: rest) :
    s.takeFrame f = some (s.setHlu { s.hlu with inbound := rest, handling := some f }) := by
  simp [State.takeFrame, h, hi]

/-! ## Ports at RESTART YARD -/

/-- The STOP record of R19 becomes the last sent one where it starts, and nowhere else (R187). -/
theorem Port.stop_eq (p : Port) (now : Nat) (active : Bool) (r : CommandRec) :
    p.stop now active r =
      match active, p.sending with
      | false, _ => { p with lastSent := p.lastSent.stopped }
      | true, none => { p with sending := some r, lastSent := r, sentLog := logSent now r p.sentLog }
      | true, some _ => { p with lastSent := p.lastSent.stopped, waiting := some r } := by
  cases active <;> cases h : p.sending <;> simp [Port.stop, Port.send, Port.start, h]

/-! ## Tables -/

theorem Table.wf_drop {α : Type} (k : Nat) {t : List (Nat × α)} (h : Table.wf t) :
    Table.wf (Table.drop k t) := by
  unfold Table.wf at *
  rw [List.pairwise_map] at *
  exact h.filter _

theorem Table.wf_modify {α : Type} (k : Nat) (f : α → α) {t : List (Nat × α)} (h : Table.wf t) :
    Table.wf (Table.modify k f t) := by
  unfold Table.wf Table.modify at *
  rw [List.map_map]
  have : ((·.1) ∘ fun e : Nat × α => if e.1 = k then (e.1, f e.2) else e) = (·.1) := by
    funext e; by_cases he : e.1 = k <;> simp [he]
  rw [this]; exact h

theorem Table.length_modify {α : Type} (k : Nat) (f : α → α) (t : List (Nat × α)) :
    (Table.modify k f t).length = t.length := by
  simp [Table.modify]

theorem Table.mem_put {α : Type} {k : Nat} {v : α} {t : List (Nat × α)} {e : Nat × α}
    (h : e ∈ Table.put k v t) : e = (k, v) ∨ e ∈ t := by
  induction t with
  | nil => simpa [Table.put] using h
  | cons a t ih =>
    obtain ⟨j, w⟩ := a
    unfold Table.put at h
    split at h
    · simpa using h
    · split at h
      · rcases List.mem_cons.1 h with h | h
        · exact .inl h
        · exact .inr (List.mem_cons_of_mem _ h)
      · rcases List.mem_cons.1 h with h | h
        · exact .inr (by simp [h])
        · rcases ih h with h | h
          · exact .inl h
          · exact .inr (List.mem_cons_of_mem _ h)

theorem Table.wf_put {α : Type} (k : Nat) (v : α) {t : List (Nat × α)} (h : Table.wf t) :
    Table.wf (Table.put k v t) := by
  unfold Table.wf at *
  rw [List.pairwise_map] at *
  induction t with
  | nil => simp [Table.put]
  | cons a t ih =>
    obtain ⟨j, w⟩ := a
    rw [List.pairwise_cons] at h
    unfold Table.put
    split
    · rename_i hk
      refine List.pairwise_cons.2 ⟨?_, List.pairwise_cons.2 h⟩
      intro e he
      rcases List.mem_cons.1 he with he | he
      · simp [he, hk]
      · exact Nat.lt_trans hk (h.1 e he)
    · split
      · rename_i hk
        refine List.pairwise_cons.2 ⟨?_, h.2⟩
        intro e he
        simpa [hk] using h.1 e he
      · rename_i h1 h2
        refine List.pairwise_cons.2 ⟨?_, ih h.2⟩
        intro e he
        rcases Table.mem_put he with he | he
        · simp [he]; omega
        · exact h.1 e he

/-! ## The record of a task -/

theorem Task.state_eq_held (t : Task) : t.state = .held ↔ t.hold.isSome = true := by
  unfold Task.state
  split <;> rename_i h
  · simp [h]
  · split <;> simp [h]

/-- Which optional fields a task's record has (R84, Table 4-1). -/
theorem Task.report_present (t : Task) (c : CraneId) :
    ((t.report c).hold.isSome = true ↔ t.state = .held) ∧
    ((t.report c).heldFrom.isSome = true ↔ t.state = .held) ∧
    ((t.report c).deadline.isSome = true → t.state = .weighing) ∧
    ((t.report c).offered.isSome = true → t.hold = some .weightMismatch) ∧
    ((t.report c).fresh.isSome = true ↔ t.state = .dispatched ∨ t.state = .carrying) := by
  simp only [Task.report, Task.state_eq_held, Option.isSome_map, true_and]
  refine ⟨?_, ?_, ?_⟩ <;> split <;> simp_all

end Sys2Proof.Machine
end

