-- ==== Sys2Proof/Laws/Receivers.lean ====
section
/-! SUPPORT. The receivers of the host link and of the crane ports: what some bytes do to a receiver, byte by
byte and at their end, and what an event of a line can do to the state. -/

namespace Sys2Proof.Machine

/-! ## Bytes at a receiver -/

section Feed

variable {α : Type} (sync : Byte) (judge : List Byte → Judged α)

@[simp] theorem Receiver.feed_nil (r : Receiver) : r.feed sync judge [] = ⟨r, 0, none⟩ := by
  rw [Receiver.feed.eq_def]

@[simp] theorem Receiver.feed_hunting (b : Byte) (rest : List Byte) :
    Receiver.hunting.feed sync judge (b :: rest) = (receiverAt sync b).feed sync judge rest := by
  rw [Receiver.feed.eq_def]

theorem Receiver.feed_more {got : List Byte} {b : Byte} (rest : List Byte) (h : judge (got ++ [b]) = .more) :
    (Receiver.inside got).feed sync judge (b :: rest) =
      (Receiver.inside (got ++ [b])).feed sync judge rest := by
  rw [Receiver.feed.eq_def]; simp [h]

theorem Receiver.feed_bad {got : List Byte} {b : Byte} (rest : List Byte) (h : judge (got ++ [b]) = .bad) :
    (Receiver.inside got).feed sync judge (b :: rest) =
      { Receiver.hunting.feed sync judge rest with
        bad := (Receiver.hunting.feed sync judge rest).bad + 1 } := by
  rw [Receiver.feed.eq_def]; simp [h]

theorem Receiver.feed_good {got : List Byte} {b : Byte} {v : α} (rest : List Byte)
    (h : judge (got ++ [b]) = .good v) :
    (Receiver.inside got).feed sync judge (b :: rest) = ⟨.hunting, 0, some v⟩ := by
  rw [Receiver.feed.eq_def]; simp [h]

/-- A hunting receiver skips bytes that are no sync byte. -/
theorem Receiver.feed_skip (skipped rest : List Byte) (h : ∀ b ∈ skipped, b ≠ sync) :
    Receiver.hunting.feed sync judge (skipped ++ rest) = Receiver.hunting.feed sync judge rest := by
  induction skipped with
  | nil => rfl
  | cons b t ih =>
    rw [List.cons_append, Receiver.feed_hunting, receiverAt, if_neg (h b List.mem_cons_self)]
    exact ih fun c hc => h c (List.mem_cons_of_mem _ hc)

/-- Bytes that complete nothing are collected. -/
theorem Receiver.feed_collect (got more rest : List Byte)
    (h : ∀ k, 0 < k → k ≤ more.length → judge (got ++ more.take k) = .more) :
    (Receiver.inside got).feed sync judge (more ++ rest) =
      (Receiver.inside (got ++ more)).feed sync judge rest := by
  induction more generalizing got with
  | nil => simp
  | cons b t ih =>
    have h1 : judge (got ++ [b]) = .more := by simpa using h 1 (by omega) (by simp)
    rw [List.cons_append, Receiver.feed_more sync judge _ h1, ih]
    · simp
    · intro k hk hl
      simpa using h (k + 1) (by omega) (by simpa using hl)

/-- One byte after bytes that complete nothing good. -/
theorem Receiver.feed_snoc (r : Receiver) (bytes : List Byte) (b : Byte)
    (h : (r.feed sync judge bytes).good = none) :
    r.feed sync judge (bytes ++ [b]) =
      { (r.feed sync judge bytes).receiver.feed sync judge [b] with
        bad := (r.feed sync judge bytes).bad + ((r.feed sync judge bytes).receiver.feed sync judge [b]).bad } := by
  induction bytes generalizing r with
  | nil => simp
  | cons a t ih =>
    cases r with
    | hunting => exact ih _ h
    | inside got =>
      cases hj : judge (got ++ [a]) with
      | more =>
        rw [Receiver.feed_more sync judge _ hj] at h
        rw [List.cons_append, Receiver.feed_more sync judge _ hj, Receiver.feed_more sync judge _ hj]
        exact ih _ h
      | bad =>
        rw [Receiver.feed_bad sync judge _ hj] at h
        rw [List.cons_append, Receiver.feed_bad sync judge _ hj, Receiver.feed_bad sync judge _ hj, ih _ h]
        simp only [Fed.mk.injEq, true_and, and_true]
        omega
      | good v => rw [Receiver.feed_good sync judge _ hj] at h; simp at h

/-- After a good frame or record the receiver hunts. -/
theorem Receiver.feed_good_hunts (r : Receiver) (bytes : List Byte) (v : α)
    (h : (r.feed sync judge bytes).good = some v) : (r.feed sync judge bytes).receiver = .hunting := by
  induction bytes generalizing r with
  | nil => simp at h
  | cons b t ih =>
    cases r with
    | hunting => exact ih _ h
    | inside got =>
      cases hj : judge (got ++ [b]) with
      | more => rw [Receiver.feed_more sync judge _ hj] at h ⊢; exact ih _ h
      | bad => rw [Receiver.feed_bad sync judge _ hj] at h ⊢; exact ih .hunting h
      | good v => rw [Receiver.feed_good sync judge _ hj]

/-- Bytes after a good frame or record are not looked at (log 32). -/
theorem Receiver.feed_append_good (r : Receiver) (bytes more : List Byte) (v : α)
    (h : (r.feed sync judge bytes).good = some v) :
    r.feed sync judge (bytes ++ more) = r.feed sync judge bytes := by
  induction bytes generalizing r with
  | nil => simp at h
  | cons b t ih =>
    rw [List.cons_append]
    cases r with
    | hunting => exact ih _ h
    | inside got =>
      cases hj : judge (got ++ [b]) with
      | more =>
        rw [Receiver.feed_more sync judge _ hj] at h
        rw [Receiver.feed_more sync judge _ hj, Receiver.feed_more sync judge _ hj]
        exact ih _ h
      | bad =>
        rw [Receiver.feed_bad sync judge _ hj] at h
        rw [Receiver.feed_bad sync judge _ hj, Receiver.feed_bad sync judge _ hj, ih .hunting h]
      | good v => rw [Receiver.feed_good sync judge _ hj, Receiver.feed_good sync judge _ hj]

end Feed

theorem Receiver.broken_eq (r : Receiver) : r.broken = if r = .hunting then 0 else 1 := by
  cases r <;> simp [Receiver.broken]

/-- Fewer bytes than Table 11-10 gives a frame are not judged. -/
theorem judgeFrame_more {kind tag n : Byte} {rest : List Byte} (hn : n.toNat ≤ Config.bodyMax)
    (h : rest.length < n.toNat + 2) : judgeFrame (kind :: tag :: n :: rest) = .more := by
  simp [judgeFrame, Nat.not_lt.2 hn, h]

/-- A length above 240 is refused at once. -/
theorem judgeFrame_long {n : Byte} (kind tag : Byte) (rest : List Byte) (hn : Config.bodyMax < n.toNat) :
    judgeFrame (kind :: tag :: n :: rest) = .bad := by
  simp [judgeFrame, hn]

/-! ## The events of a line -/

/-- An event that completes no frame touches the host link only, and of it the error counter and the
receiver. -/
theorem State.hearNoFrame_eq (s : State) {f : Fed RawFrame} (h : f.good = none) :
    s.hearNoFrame f =
      s.setHlu { s.hlu with frameErrors := bumpBy s.hlu.frameErrors f.bad, receiver := f.receiver } := by
  simp [State.hearNoFrame, h, Hlu.hear]

/-- A break after a good frame is none, and nothing happens (log 32). -/
theorem State.hearNoFrame_good (s : State) {f : Fed RawFrame} {raw : RawFrame} (h : f.good = some raw) :
    s.hearNoFrame f = s := by
  simp [State.hearNoFrame, h]

theorem State.hearNoRecord_good (s : State) (c : CraneId) {f : Fed StatusRec} {r : StatusRec}
    (h : f.good = some r) : s.hearNoRecord c f = s := by
  simp [State.hearNoRecord, h]

/-- An event that completes no record touches its port only. -/
theorem State.hearNoRecord_eq (s : State) (c : CraneId) {f : Fed StatusRec} (h : f.good = none) :
    s.hearNoRecord c f = s.modPort c fun p => p.hear f := by
  simp [State.hearNoRecord, h]

/-- A frame event touches the host link, and the flags where it ends HOST_SILENT. -/
@[simp] theorem State.hearFrame_keeps (s : State) (f : Frame) (heard : Fed RawFrame) :
    (s.hearFrame f heard).now = s.now ∧ (s.hearFrame f heard).lsu = s.lsu ∧
    (s.hearFrame f heard).smu = s.smu ∧ (s.hearFrame f heard).tcu = s.tcu ∧
    (s.hearFrame f heard).links = s.links ∧ (s.hearFrame f heard).ports = s.ports ∧
    (s.hearFrame f heard).hoists = s.hoists ∧ (s.hearFrame f heard).rcu = s.rcu ∧
    (s.hearFrame f heard).bcu = s.bcu ∧ (s.hearFrame f heard).pending = s.pending := by
  unfold State.hearFrame
  refine ⟨?_, ?_, ?_, ?_, ?_, ?_, ?_, ?_, ?_, ?_⟩ <;> (repeat' split) <;> simp

@[simp] theorem State.hearNoFrame_keeps (s : State) (heard : Fed RawFrame) :
    (s.hearNoFrame heard).now = s.now ∧ (s.hearNoFrame heard).lsu = s.lsu ∧
    (s.hearNoFrame heard).smu = s.smu ∧ (s.hearNoFrame heard).tcu = s.tcu ∧
    (s.hearNoFrame heard).links = s.links ∧ (s.hearNoFrame heard).ports = s.ports ∧
    (s.hearNoFrame heard).hoists = s.hoists ∧ (s.hearNoFrame heard).rcu = s.rcu ∧
    (s.hearNoFrame heard).bcu = s.bcu ∧ (s.hearNoFrame heard).dio = s.dio ∧
    (s.hearNoFrame heard).fnu = s.fnu ∧ (s.hearNoFrame heard).pending = s.pending := by
  unfold State.hearNoFrame
  refine ⟨?_, ?_, ?_, ?_, ?_, ?_, ?_, ?_, ?_, ?_, ?_, ?_⟩ <;> (repeat' split) <;> simp

@[simp] theorem State.hearNoRecord_keeps (s : State) (c : CraneId) (heard : Fed StatusRec) :
    (s.hearNoRecord c heard).now = s.now ∧ (s.hearNoRecord c heard).lsu = s.lsu ∧
    (s.hearNoRecord c heard).smu = s.smu ∧ (s.hearNoRecord c heard).tcu = s.tcu ∧
    (s.hearNoRecord c heard).links = s.links ∧ (s.hearNoRecord c heard).hoists = s.hoists ∧
    (s.hearNoRecord c heard).rcu = s.rcu ∧ (s.hearNoRecord c heard).bcu = s.bcu ∧
    (s.hearNoRecord c heard).dio = s.dio ∧ (s.hearNoRecord c heard).fnu = s.fnu ∧
    (s.hearNoRecord c heard).hlu = s.hlu ∧ (s.hearNoRecord c heard).pending = s.pending := by
  unfold State.hearNoRecord
  refine ⟨?_, ?_, ?_, ?_, ?_, ?_, ?_, ?_, ?_, ?_, ?_, ?_⟩ <;> (repeat' split) <;> simp

/-- A counter that goes up by several holds at 65,535. -/
theorem bumpBy_eq_min (n k : Nat) : bumpBy n k = min (n + k) 65535 := rfl

end Sys2Proof.Machine
end

