-- ==== Sys2Proof/Tests/Slice0.lean ====
section
/-! SUPPORT. The model's own tests: the well-formedness of commands, worked figures of the manual, and for
every statement with hypotheses a concrete case that meets them. -/

namespace Sys2Proof.Tests

open Machine

set_option Elab.async false

/-! ## Well-formedness: a term that each check refuses -/

theorem test_wf_longBody : wellFormed (.status 1 (.badLength 241)) = false := by decide
theorem test_wf_rightLength : wellFormed (.status 1 (.badLength 0)) = false := by decide
theorem test_wf_selectorOfOneRow : wellFormed (.zero 1 (.badSelector 9)) = false := by decide
theorem test_wf_requestKind : wellFormed (.unknownRequest 1 0x18) = false := by decide
theorem test_wf_wideSubmit :
    wellFormed (.taskSubmit 1 (.fields ⟨65536, 1, 1, 0, 1, 0, 0, 1, 0, 0⟩)) = false := by decide

/-- STATUS with tag 1, byte by byte (Table 11-10). -/
def statusLine : List Byte := [0xA5, 0x3C, 0x01, 0x00, 0x4F, 0x69]

theorem test_wf_frame : wellFormed (.hostFrameReceived 1 (.status (.fields ())) statusLine) = true := by
  decide +kernel
theorem test_wf_frameOfAnotherTag :
    wellFormed (.hostFrameReceived 2 (.status (.fields ())) (hostFrame 0x3C 7 [])) = false := by
  decide +kernel
theorem test_wf_frameOfAnotherKind :
    wellFormed (.hostFrameReceived 7 (.ioQuery (.fields ())) (hostFrame 0x3C 7 [])) = false := by
  decide +kernel
theorem test_wf_frameUnfinished :
    wellFormed (.hostFrameReceived 1 (.status (.fields ())) (statusLine.take 5)) = false := by decide +kernel
theorem test_wf_bodyDisagrees :
    wellFormed (.hostFrameReceived 1 (.status (.fields ())) (hostFrame 0x3C 1 [0])) = false := by
  decide +kernel
theorem test_wf_lengthByte : wellFormed (.frameByteError ⟨[0xA5, 1, 2], some 240⟩) = false := by decide +kernel
theorem test_wf_lengthByteEarly : wellFormed (.frameByteError ⟨[0xA5], some 241⟩) = false := by
  decide +kernel
theorem test_wf_errorAfterFrame : wellFormed (.frameByteError ⟨statusLine, none⟩) = false := by decide +kernel
theorem test_wf_gapAfterFrame : wellFormed (.hostByteGap ⟨statusLine, 0xA5⟩) = false := by decide +kernel
theorem test_wf_shortRecord : wellFormed (.statusRecord .n1 [0x5A, 1]) = false := by decide +kernel

/-! ## Worked figures of the manual -/

theorem test_crcCheckValue :
    crc16 [0x31, 0x32, 0x33, 0x34, 0x35, 0x36, 0x37, 0x38, 0x39] = 0x29B1#16 := by decide +kernel

/-- Crane 1 at 10,000 mm, standing, y 5,000, h 8,000, count −200, grab CLOSED: the bytes of Table 11-13. -/
def statusBytes : List Byte :=
  [0x01, 0x00, 0x27, 0x10, 0x00, 0x00, 0x13, 0x88, 0x1F, 0x40, 0xFF, 0xFF, 0x38, 0x01, 0x00, 0x00, 0x00,
   0x00, 0xE8, 0x2F]

/-- The same with its sync byte, as it stands on the line. -/
def recordLine : List Byte := 0x5A :: statusBytes

theorem test_wf_gapAfterRecord : wellFormed (.craneRecordGap .n1 ⟨recordLine, 0x5A⟩) = false := by decide +kernel
theorem test_wf_errorAfterRecord : wellFormed (.recordByteError ⟨.n1, recordLine⟩) = false := by decide +kernel

def status1 : StatusRec := ⟨10000, 0, 5000, 8000, -200, .closed, .none, 0, false⟩

theorem test_statusRecordDecodes : decodeStatus .n1 statusBytes = some status1 := by decide +kernel
theorem test_statusRecordOfAnotherPort : decodeStatus .n2 statusBytes = none := by decide +kernel

/-- Table 11-7: MOVE of coil 102 by crane 1, slot 5 to slot 3, PRIORITY. -/
theorem test_submitDecodes :
    decodeSubmit [0x00, 0x07, 0x01, 0x00, 0x00, 0x00, 0x66, 0x01, 0x01, 0x00, 0x05, 0x00, 0x01, 0x00, 0x03,
      0x00] = some (submitOf 7 .n1 102 1 (.slot 5) (.place (.slot 3))) := by decide +kernel

/-- Table 6-2. -/
theorem test_recordedWeights : [38434, 38435, -4, -5, -15].map recordedOf = [38430, 38440, 0, -10, -20] := by
  decide +kernel

/-- The parameter set of Table 7-2. -/
def params (order : Nat) : ParamSet := ⟨.a, order, 1000, 1000, 2500, 1000, 250, 400, 300, 2000, 40000, 1000⟩

/-- Table 7-2. -/
theorem test_stoppingDistances :
    [250, 1000, 1200, 2000, 2500].map (params 1).stopDist = [154, 1550, 2160, 5600, 8563] := by decide +kernel

/-- Table 8-6. -/
theorem test_rearShares :
    [rearShare 20000 4000 10000, rearShare 12000 9000 10000, rearShare 12860 9000 10000,
      rearShare 1001 5000 10000] = [8000, 10800, 11574, 501] := by decide +kernel

/-! ## A small yard -/

/-- A coil of 1,500 by 1,800 mm. -/
def coil (declared group : Nat) (loc : Location) : Coil := ⟨1500, 1800, declared, none, group, loc, none, none⟩

def slotAt (row x y : Nat) (tier : Tier) (st : SlotState) : Slot :=
  ⟨⟨.a, row, x, y, 2400, 0, tier⟩, st, .none⟩

def slot2 : Slot := slotAt 1 10000 5000 (.two 0 1) .free
def slot3 : Slot := slotAt 2 20000 5000 (.one 45000) .free
def slot5 : Slot := slotAt 4 24000 5000 (.one 45000) (.occupied 102)

/-- Slots 0 and 1 carry coils and support slot 2; 3 is free, 4 blocked, 5 holds coil 102. -/
def store : Smu where
  slots :=
    [(0, slotAt 1 10000 4000 (.one 45000) (.occupied 100)), (1, slotAt 1 10000 6000 (.one 45000) (.occupied 101)),
     (2, slot2), (3, slot3), (4, slotAt 3 22000 5000 (.one 45000) .blocked), (5, slot5)]
  coils := [(100, coil 20000 5 (.slot 0)), (101, coil 21000 0 (.slot 1)), (102, coil 12000 3 (.slot 5))]

def geom : BayGeom := ⟨.a, 40000, 55000, 41000, 1, 3000⟩

def bay (st : BayState) (plan : Option Plan) : Bay :=
  { Bay.fresh ⟨false, false, true⟩ .latched with state := st, plan := plan }

def link1 : CraneLink :=
  { CraneLink.fresh with
    link := .active 100, last := some ⟨status1, 10000, 0⟩, seenPos := some 10000, period := true
    referenced := true }

def hoist1 : Hoist := { Hoist.fresh with window := [0, 0, 0, 0, 0, 0, 0, 0], state := .zeroed, counter := 64 }

def record1 : RcuCrane :=
  { motion := some ⟨10000, 0, 8000, true⟩, load := some .light, seenRef := true, claim := .live 11300 8700
    availF := 0, availR := 0, compF := .full, compR := .full, finalF := .full, finalR := .full, caps := []
    lower := false, runEnable := true, awaiting := false }

/-- Runway A with cranes 1 and 2 and bay 1 with a trailer, in a stage. -/
def yard (g : Stage) : State :=
  { State.reset with
    lsu := { Lsu.powerOn with
      stage := g, runways := ⟨some 100000, none⟩, active := ⟨some (params 1), some (params 2), none, none⟩
      bays := ⟨some geom, none, none, none⟩ }
    smu := store
    links := ⟨some link1, some CraneLink.fresh, none, none⟩
    hoists := ⟨some hoist1, some Hoist.fresh, none, none⟩
    rcu :=
      { cranes := ⟨some record1, some { record1 with motion := none, claim := .none }, none, none⟩
        views := ⟨some ⟨100000, false⟩, none⟩, zones := ⟨some ⟨false, false⟩, none, none, none⟩ }
    bcu := ⟨⟨some (bay .secured none), none, none, none⟩, none⟩
    dio := { State.reset.dio with
      inputs := { InTable.powerOn with ref := .all ⟨3, false, .rising⟩, estop := .both ⟨4, false, .level⟩ } } }

def run : State := yard .run

def withBay (y : Bay) : State := { run with bcu := ⟨⟨some y, none, none, none⟩, none⟩ }
def withQueue (q : List Machine.Task) : State := { run with tcu := { run.tcu with queues := ⟨q, [], [], []⟩ } }

/-- Task 7 moves coil 102 from slot 5 to slot 3. -/
def task (p : Phase) (hold : Option HoldReason) : Machine.Task where
  id := 7
  coil := 102
  kind := .move
  source := .slot 5
  dest := .place (.slot 3)
  priority := false
  noVerify := false
  phase := p
  hold := hold
  deadline := none
  offered := none
  fresh := false

def withTask (p : Phase) (hold : Option HoldReason) : State := withQueue [task p hold]

/-- A trailer of 10 m with cradles at 4 m and 9 m. -/
def head (k : PlanKind) : PlanHead := ⟨k, 10000, 3000, 4000, 20000, 30000, 50000, [4000, 9000]⟩

def plan (k : PlanKind) (st : EntryStatus) : Plan := ⟨head k, [⟨1, 102, st⟩], false⟩

def building (k : PlanKind) (es : List (Nat × Nat)) : State :=
  { run with bcu := { run.bcu with build := some ⟨.n1, head k, es⟩ } }

/-- The state after a command. -/
def after : Host.Outcome State Fault Refusal → State
  | .next t => t
  | .fault _ => .reset
  | .refused _ => .reset

/-- The state in which a request of tag 1 stands before its owner. -/
def taken (s : State) (r : Request) : State := (s.takeFrame ⟨1, r⟩).getD s

theorem taken_eq {s : State} (r : Request) (h : s.hlu.handling = none ∧ s.hlu.inbound = []) :
    s.takeFrame ⟨1, r⟩ = some (taken s r) := by
  simp [taken, State.takeFrame, h.1, h.2]

theorem admits {s : State} (r : Request) {g : Stage → Bool}
    (h : s.hlu.handling = none ∧ s.hlu.inbound = [] ∧ s.bcu.build = none ∧ g s.lsu.stage = true) :
    s.Admits ⟨1, r⟩ g (taken s r) := by
  refine ⟨taken_eq r ⟨h.1, h.2.1⟩, ?_, ?_⟩ <;>
    simp [taken, State.takeFrame, h.1, h.2.1, h.2.2.1, h.2.2.2]

/-- Before its owner a request finds every unit but the host link as it stood. -/
theorem taken_keeps {s : State} (r : Request) (h : s.hlu.handling = none ∧ s.hlu.inbound = []) :
    (taken s r).lsu = s.lsu ∧ (taken s r).smu = s.smu ∧ (taken s r).tcu = s.tcu ∧
    (taken s r).links = s.links ∧ (taken s r).ports = s.ports ∧ (taken s r).hoists = s.hoists ∧
    (taken s r).rcu = s.rcu ∧ (taken s r).bcu = s.bcu ∧ (taken s r).now = s.now := by
  simp [taken, State.takeFrame, h.1, h.2]

/-- Its hypotheses hold in the yard in RUN. -/
theorem admitsRun (r : Request) {g : Stage → Bool} (h : g .run = true) : run.Admits ⟨1, r⟩ g (taken run r) :=
  admits r ⟨rfl, rfl, rfl, h⟩

def config : State := yard .config

theorem admitsConfig (r : Request) {g : Stage → Bool} (h : g .config = true) :
    config.Admits ⟨1, r⟩ g (taken config r) := admits r ⟨rfl, rfl, rfl, h⟩

def set1 : CraneSet := ⟨1, .known .a, 1, 20000, 20000, 4000, 4000, 4000, 50, 2000, 100000, 60000, 1000000⟩
def slotSet1 : SlotSet := ⟨1023, .known .a, 255, 250000, 40000, 1, 2400, 45000, 255, 0, 0⟩
def slotSet2 : SlotSet := ⟨2, .known .a, 1, 11000, 5000, 2, 900, 0, 0, 0, 1023⟩
def baySet1 : BaySet := ⟨1, .known .a, 250000, 250000, 0, -1, 40000⟩

/-! ## Cases that meet the hypotheses: the step, the host link -/

def statusFrame : Frame := ⟨1, .status (.fields ())⟩

theorem test_meets_EveryStepAnswersNext : State.reset.pending = [] := rfl

theorem test_meets_PowerOnValues :
    (Fnu.powerOn .powerUp).isSet .powerUp = true ∧ FaultKind.powerUp ∉ (Fnu.powerOn .powerUp).masks := by
  decide +kernel

theorem test_meets_HostFrameReception :
    (∀ b ∈ ([0x00, 0xFF] : List Byte), b ≠ 0xA5) ∧ (List.replicate 240 (0 : Byte)).length ≤ 240 ∧
    (Receiver.hunting.feedHost (statusLine.take 5)).good = none ∧
    Receiver.hunting.feedHost (0x00 :: statusLine) = ⟨.hunting, 0, some ⟨0x3C, 1, []⟩⟩ ∧
    requestCode (.status (.fields ())) = 0x3C ∧ (0x3C#8 : Byte) ≠ requestCode (.ioQuery (.fields ())) := by
  decide +kernel

theorem test_meets_BrokenFramesAreCounted :
    Receiver.hunting.feedHost [0x00] = ⟨.hunting, 0, none⟩ ∧
    Receiver.hunting.feedHost [0xA5, 1, 2] = ⟨.inside [1, 2], 0, none⟩ ∧ 240 < (241#8 : Byte).toNat ∧
    Receiver.hunting.feedCrane .n1 [0x5A, 1] = ⟨.inside [1], 0, none⟩ ∧
    (Receiver.hunting.feedHost statusLine).good = some ⟨0x3C, 1, []⟩ ∧
    (Receiver.hunting.feedCrane .n1 recordLine).good = some status1 := by
  decide +kernel

/-- The receiver and the error counter of the host link after a command. -/
def heardAfter (o : Host.Outcome State Fault Refusal) : Receiver × Nat :=
  ((after o).hlu.receiver, (after o).hlu.frameErrors)

/-- A break is counted inside a frame only, and the late byte may start the next one. -/
theorem test_breaks :
    heardAfter (exec (.frameByteError ⟨[0x00], none⟩) .reset) = (.hunting, 0) ∧
    heardAfter (exec (.frameByteError ⟨[0xA5], none⟩) .reset) = (.hunting, 1) ∧
    heardAfter (exec (.frameByteError ⟨[0xA5, 1, 2], some 241⟩) .reset) = (.hunting, 1) ∧
    heardAfter (exec (.hostByteGap ⟨[0xA5, 1], 0xA5⟩) .reset) = (.inside [], 1) := by
  decide +kernel

def busy : State := State.reset.setHlu { State.reset.hlu with handling := some statusFrame }
def waiting : State := State.reset.setHlu { State.reset.hlu with inbound := [statusFrame] }

theorem test_meets_TakingTheOldestFrame :
    busy.hlu.handling = some statusFrame ∧
    waiting.hlu.handling = none ∧ waiting.hlu.inbound = [statusFrame] ∧
    statusFrame ≠ ⟨2, .status (.fields ())⟩ ∧
    frameOf (.status 1 (.fields ())) = some statusFrame ∧ busy.takeFrame statusFrame = none ∧
    State.reset.hlu.handling = none ∧ State.reset.hlu.inbound = [] ∧
    State.reset.hlu.frameErrors ≤ 65535 ∧
    State.reset.hlu.receiver.feedHost statusLine = ⟨.hunting, 0, some ⟨0x3C, 1, []⟩⟩ := by
  decide +kernel

theorem test_taking :
    (after (exec (.hostFrameReceived 1 (.status (.fields ())) statusLine) .reset)).hlu.inbound
      = [statusFrame] := by decide +kernel

theorem test_meets_RequestsAreJudgedInOrder :
    State.reset.takeFrame ⟨1, .unknown 0x00⟩ = some (taken .reset (.unknown 0x00)) ∧
    State.reset.takeFrame ⟨1, .status (.badLength 1)⟩ = some (taken .reset (.status (.badLength 1))) ∧
    requestShape (.status (.badLength 1)) = .badLength 1 ∧
    State.reset.takeFrame ⟨1, .openYard (.fields ())⟩ = some (taken .reset (.openYard (.fields ()))) ∧
    requestShape (.openYard (.fields ())) = .fields ∧
    (taken .reset (.openYard (.fields ()))).bcu.build = none ∧
    acceptedIn (.openYard (.fields ())) (taken .reset (.openYard (.fields ()))).lsu.stage = false := by
  decide +kernel

/-- In CONFIG an operation outside its set is BAD_VALUE, in RUN it is WRONG_STAGE but for a crane's. -/
theorem test_badSelectors :
    ((after (exec (.runwayDefineSet 1 (.badSelector 9)) config)).hlu.reply,
      (after (exec (.runwayDefineSet 1 (.badSelector 9)) run)).hlu.reply,
      (after (exec (.craneDefineSet 1 (.badSelector 9)) run)).hlu.reply,
      (after (exec (.coilQueryOne 1 (.badSelector 9)) run)).hlu.reply)
    = (some ⟨1, 0x01, .nak ⟨.badValue, 1⟩⟩, some ⟨1, 0x01, .nak ⟨.wrongStage, 0⟩⟩,
      some ⟨1, 0x02, .nak ⟨.badValue, 1⟩⟩, some ⟨1, 0x12, .nak ⟨.badValue, 0⟩⟩) := by
  decide +kernel

/-- A TASK-SUBMIT with task id 0, and one with a flag bit that its layout does not assign. -/
def submit0 : TaskSubmit := ⟨0, 1, 1, 0, 1, 0, 0, 1, 0, 0⟩
def submitFlags : TaskSubmit := ⟨65535, numVal .n4, 4294967295, 4, 1, 0, 0, 1, 0, 0⟩

theorem test_meets_RequestsAreJudgedInOrder_fields :
    (∀ n : Nat, requestShape (.slotQueryOne (.badSelector n)) = .badSelector ∧
      requestCode (.slotQueryOne (.badSelector n)) = ReqKind.slotQuery.code ∧
      requestCode (.restartAll (.badSelector n)) = ReqKind.restart.code ∧
      requestCode (.bayDefineClear (.badSelector n)) = ReqKind.bayDefine.code) ∧
    (State.reset.bcu.build = none ∧ State.reset.lsu.stage = .config ∧ run.lsu.stage ≠ .config) ∧
    (999 < 1000 ∧ 250000 < 250001 ∧ (∀ r, (.other 9 : Coded RunwayId) ≠ .known r)) ∧
    (¬ craneFits { set1 with front := 20001 } ∧ (∀ c : CraneId, 5 ≠ numVal c)) ∧
    ¬ slotFits { slotSet1 with slot := 1024 } ∧ ¬ bayFits { baySet1 with direction := 0 } ∧
    (∀ task c coil flags src dst, 1 ≤ task → submit0 ≠ submitOf task c coil flags src dst) ∧
    (1 ≤ submitFlags.task ∧ submitFlags.task ≤ 65535 ∧ submitFlags.coil ≤ 4294967295 ∧
      4 ≤ submitFlags.flags.toNat) ∧
    (config.Admits ⟨1, .slotQueryList (.fields 1024)⟩ inAny (taken config (.slotQueryList (.fields 1024)))) := by
  refine ⟨fun _ => ⟨rfl, rfl, rfl, rfl⟩, by decide +kernel, ⟨by decide, by decide, nofun⟩,
    ⟨by unfold craneFits; decide, fun c => by cases c <;> decide⟩, by unfold slotFits; decide,
    by unfold bayFits; decide, ?_, by decide, admitsConfig _ rfl⟩
  intro task c coil flags src dst h e
  have := congrArg TaskSubmit.task e
  simp [submit0, submitOf] at this
  omega

theorem test_meets_OtherRequestBreaksOffBuild :
    (building .load []).takeFrame ⟨1, .status (.fields ())⟩
      = some (taken (building .load []) (.status (.fields ()))) ∧
    breaksBuild (.status (.fields ())) = true ∧
    (∀ n, requestShape (.status (.fields ())) ≠ .badLength n) ∧
    (taken (building .load []) (.status (.fields ()))).bcu.build = some ⟨.n1, head .load, []⟩ :=
  ⟨by decide +kernel, rfl, fun n => by simp [requestShape], by decide +kernel⟩

def reply1 : Reply := ⟨1, 0x3C, .ack .empty⟩
def replying : State := State.reset.setHlu { State.reset.hlu with reply := some reply1 }
def quiet : State := State.reset.setFnu { State.reset.fnu with notices := [] }

theorem test_meets_TransmitterOrder :
    replying.hlu.reply = some reply1 ∧ State.reset.hlu.reply = none ∧
    State.reset.fnu.notices = [.faultRaised .powerUp none] ∧ quiet.hlu.reply = none ∧
    quiet.fnu.notices = [] := by
  decide +kernel

def timed : State := State.reset.setHlu { State.reset.hlu with silence := some 1000 }

theorem test_meets_HostSilenceBegins :
    State.reset.hlu.silence = none ∧ timed.hlu.silence = some 1000 := by
  decide +kernel

/-! ## Layout and stages -/

theorem test_meets_LayoutIsEdited :
    (config.Admits ⟨1, .runwayDefineSet (.fields ⟨.known .a, 1000⟩)⟩ inConfig
      (taken config (.runwayDefineSet (.fields ⟨.known .a, 1000⟩)))) ∧
    (set1.crane = numVal .n1 ∧ craneFits set1 ∧ set1.xRef ≤ 250000) ∧
    (slotFits slotSet1 ∧ (taken config (.slotDefineSet (.fields slotSet1))).slot? 1023 = none) ∧
    (slotFits slotSet2 ∧ ((taken config (.slotDefineSet (.fields slotSet2))).slot? 2).isSome) ∧
    (baySet1.bay = numVal .n1 ∧ bayFits baySet1) :=
  ⟨admitsConfig _ rfl, by unfold craneFits; decide, by unfold slotFits; decide +kernel,
    by unfold slotFits; decide +kernel, by unfold bayFits; decide⟩

theorem test_meets_ServiceSetWaitsAsShadow :
    let s0 := taken run (.craneDefineSet (.fields set1))
    run.Admits ⟨1, .craneDefineSet (.fields set1)⟩ committed s0 ∧ s0.links.get .n1 = some link1 ∧
    s0.lsu.active.get .n1 = some (params 1) ∧ s0.lsu.runways.get .a = some 100000 ∧
    set1.order = (params 1).order ∧ set1.xRef ≤ 100000 :=
  ⟨admitsRun _ rfl, by decide +kernel⟩

def pairs1 : List (Setting × SettingValue) := [(.gap, .number 0), (.faultLatch, .latch .realTime)]

theorem test_meets_SettingsAreTaken :
    1 ≤ pairs1.length ∧ pairs1.length ≤ 17 ∧ (pairs1.map (·.1)).Nodup ∧
    (∀ p ∈ pairs1, settingFits p.1 p.2 = true) := by
  decide

theorem test_meets_SettingChangesActAtOnce :
    run.lsu.settings.faultLatch = .latched ∧
    (run.putSettings pairs1).lsu.settings.faultLatch = .realTime ∧
    (run.putSettings [(.hostSilence, .silence .s20)]).lsu.settings.hostSilence
      ≠ run.lsu.settings.hostSilence := by
  decide +kernel

/-- Bay 1 and slot 0 of a yard whose runway is cleared. -/
def noRunway : State := config.setLsu { config.lsu with runways := .both none }

theorem test_meets_CommitFixesTheLayout :
    (taken config (.commitLayout (.fields ()))).layoutOffence = none ∧
    ((taken noRunway (.commitLayout (.fields ()))).layoutOffence).isSome = true := by
  decide +kernel

/-- The small yard with one thing wrong, and the offence reported: no crane (check 1), crane 1 off its runway
(2), two cranes of order 1 (3), slot 5 off the runway (4), a row that is not straight (5), a support in the
wrong tier (6), a support taken twice (7), a bay without extent (8), lines not assigned (9, 10). -/
theorem test_meets_CommitFixesTheLayout_checks :
    let lay (f : Lsu → Lsu) : State := config.setLsu (f config.lsu)
    let slot (i : Nat) (v : Slot) : State :=
      config.setSmu { config.smu with slots := Table.put i v config.smu.slots }
    let wire (f : InTable → InTable) : State := config.setDio { config.dio with inputs := f config.dio.inputs }
    Table.wf config.smu.slots ∧
    ([State.reset, noRunway, lay fun u => { u with active := u.active.set .n2 (some (params 1)) },
        slot 5 (slotAt 4 100001 5000 (.one 45000) .free), slot 1 (slotAt 1 10001 6000 (.one 45000) .free),
        slot 2 (slotAt 1 10000 5000 (.two 2 1) .free), slot 6 slot2,
        lay fun u => { u with bays := u.bays.set .n1 (some { geom with xLo := 55000 }) },
        wire fun w => { w with ref := w.ref.set .n2 ⟨1, false, .rising⟩ },
        wire fun w => { w with estop := w.estop.set .a ⟨0, false, .level⟩ }].map State.layoutOffence)
      = [5120, 9217, 12289, 18437, 22529, 26626, 30726, 35841, 37890, 40961].map some := by
  decide +kernel

def inventory : State := yard .inventory
def emptyRun : State := withBay (bay .empty none)

theorem test_meets_OpeningAndClosingTheYard :
    inventory.Admits ⟨1, .openYard (.fields ())⟩ inInventory (taken inventory (.openYard (.fields ()))) ∧
    (∀ c, (taken emptyRun (.closeYard (.fields ()))).tcu.queues.get c = []) ∧
    ((taken emptyRun (.closeYard (.fields ()))).bcu.bays = ⟨some (bay .empty none), none, none, none⟩) ∧
    ((withTask .queued none).tcu.queues.get .n1 ≠ [] ∧ ∀ d, ¬ numVal d < numVal .n1) ∧
    ((∀ c, run.tcu.queues.get c = []) ∧ run.bcu.bays.get .n1 = some (bay .secured none)) :=
  ⟨admits _ ⟨rfl, rfl, rfl, rfl⟩, fun c => by cases c <;> decide +kernel, by decide +kernel,
    ⟨by decide, fun d => by cases d <;> decide⟩, fun c => by cases c <;> rfl, by decide⟩

theorem test_meets_RestartAllIsPowerOn :
    run.Admits ⟨1, .restartAll (.fields ())⟩ inAny (taken run (.restartAll (.fields ()))) ∧
    (run.ports.get .n1).sending = none :=
  ⟨admitsRun _ rfl, by decide⟩

theorem test_meets_RestartYardKeepsTheCranes :
    run.Admits ⟨1, .restartYard (.fields ())⟩ committed (taken run (.restartYard (.fields ()))) ∧
    (run.ports.get .n1).sending = none ∧ run.linkActive .n1 = true ∧
    run.rcu.cranes.get .n1 = some record1 ∧ (run.links.get .n1).isSome = true ∧
    (run.links.get .n2).isSome = true ∧ run.linkActive .n2 = false ∧ run.links.get .n3 = none :=
  ⟨admitsRun _ rfl, by decide⟩

/-! ## The store -/

def add (slot : Nat) : CoilAdd := ⟨200, 2100, 2400, 45000, 255, some (-65000), slot⟩
/-- A coil that fits on coils 100 and 101. -/
def addOn : CoilAdd := ⟨200, 1500, 900, 1000, 0, none, 2⟩

theorem test_meets_CoilAddIsJudged :
    (∀ b ∈ coilAddChecks (add 3), b = true) ∧
    run.coil? 200 = none ∧ run.slot? 3 = some slot3 ∧
    run.smu.failingSupport slot3.geom = none ∧
    run.smu.fits ⟨2100, 2400, -65000, 255⟩ slot3.geom = true ∧
    (∀ b ∈ coilAddChecks addOn, b = true) ∧
    run.smu.failingSupport slot2.geom = none ∧
    run.smu.fits ⟨1500, 900, 1000, 0⟩ slot2.geom = true ∧
    run.smu.fits ⟨2100, 900, 1000, 0⟩ slot2.geom = false ∧
    run.smu.failingSupport { slot2.geom with tier := .two 3 1 } = some 3 := by
  decide +kernel

/-- One value just outside each range of COIL-ADD, with the fields before it in range. -/
theorem test_meets_CoilAddIsJudged_fields :
    [{ add 3 with coil := 0 }, { add 3 with width := 599 }, { add 3 with diameter := 2401 },
      { add 3 with declared := 999 }, { add 3 with group := 256 }, { add 3 with measured := some 66001 },
      add 1024].map (fun v => checkFrom 1 (coilAddChecks v))
    = [1, 2, 3, 4, 5, 6, 7].map fun n => .error ⟨.badValue, n⟩ := by
  decide +kernel

theorem test_meets_StoreIsKeptInStep :
    run.coil? 102 = some (coil 12000 3 (.slot 5)) ∧ run.smu.blockedAbove 5 = none ∧
    (run.slot? 3).map (·.state) = some .free ∧ (run.slot? 4).map (·.state) = some .blocked := by
  decide +kernel

theorem test_meets_ReservationTests :
    run.smu.slot? 5 = some (slot5) ∧
    run.smu.testSource 5 102 = none ∧ (run.smu.testSource 5 100).isSome ∧
    run.smu.slot? 2 = some slot2 ∧
    run.smu.supportOk 0 = true ∧ run.smu.supportOk 3 = false := by
  decide +kernel

/-- A slot that holds its reservation is released, one that holds another's is not. -/
theorem test_meets_ReservationTests_both :
    run.smu.testSource 5 102 = none ∧ run.smu.testSource 5 100 = some ⟨.locationMismatch, 0⟩ ∧
    run.smu.testBoth 7 102 .a ⟨1500, 1800, 12000, 3⟩ (.slot 5) (.place (.slot 3)) = none ∧
    slot2.geom.tier = .two 0 1 ∧ slot3.geom.tier = .one 45000 ∧
    ((run.smu.grantSource 7 (.slot 5)).slot? 5).map (·.resv) = some (.source 7) ∧
    (((run.smu.grantSource 7 (.slot 5)).releaseSource 7 (.slot 5)).slot? 5).map (·.resv) = some .none ∧
    (((run.smu.grantSource 7 (.slot 5)).releaseSource 8 (.slot 5)).slot? 5).map (·.resv)
      = some (.source 7) := by
  decide +kernel

theorem test_meets_CostTermsOfACandidate :
    run.smu.occupant? 0 = some (coil 20000 5 (.slot 0)) ∧
    run.smu.occupant? 1 = some (coil 21000 0 (.slot 1)) ∧
    run.smu.costOf 20 0 ⟨1500, 900, 1000, 0⟩ slot2.geom
      = ⟨10, 20, 100, 0⟩ ∧
    run.smu.costOf 20 0 ⟨1500, 900, 1000, 5⟩
      { slot3.geom with group := 4 } = ⟨20, 0, 0, 15⟩ := by
  decide +kernel

theorem test_meets_CheapestCandidateWins :
    Table.wf run.smu.slots ∧
    run.smu.select 20 .a 10000 ⟨1500, 900, 1000, 5⟩ = some (3, ⟨10, 0, 0, 0⟩) ∧
    run.smu.select 20 .b 10000 ⟨1500, 900, 1000, 5⟩ = none := by
  decide +kernel

theorem test_meets_SuggestionReservesNothing :
    run.links.get .n1 = some link1 ∧ link1.seenPos = some 10000 ∧ run.craneRunway .n1 = some .a ∧
    run.coil? 102 = some (coil 12000 3 (.slot 5)) ∧
    run.slot? 5 = some (slot5) := by
  decide +kernel

/-! ## The tasks -/

def onTrailer : State :=
  { withBay (bay .working (some (plan .unload .onTruck))) with
    smu := { store with coils := [(102, coil 12000 0 (.cradle .n1 1))] } }
def toTrailer : State := withBay (bay .secured (some (plan .load .pending)))

theorem test_meets_TaskIsAccepted :
    (0x03#8 : Byte).toNat < 4 ∧ (Place.slot 5).fits ∧ (Dest.place (.slot 3)).fits ∧
    run.task? 7 = none ∧ run.placeDefined (.slot 5) = true ∧ run.placeRunway (.slot 5) = some .a ∧
    run.smu.testBoth 7 102 .a (coil 12000 3 (.slot 5)).desc (.slot 5) (.place (.slot 3)) = none ∧
    onTrailer.entryIs .n1 1 102 .unload .onTruck = true ∧
    onTrailer.smu.testBoth 7 102 .a (coil 12000 0 (.cradle .n1 1)).desc (.cradle .n1 1) .auto = none ∧
    toTrailer.entryIs .n1 1 102 .load .pending = true ∧
    toTrailer.placeRunway (.cradle .n1 1) = some .a ∧
    toTrailer.smu.testBoth 7 102 .a (coil 12000 3 (.slot 5)).desc (.slot 5) (.place (.cradle .n1 1))
      = none :=
  ⟨by decide, by unfold Place.fits; decide, by unfold Dest.fits Place.fits; decide, by decide +kernel⟩

/-- What a TASK-SUBMIT of coil 102 as task 9 is answered. -/
def submitted9 (s : State) (c : CraneId) (src : Place) (dst : Dest) : Option Reply :=
  (after (exec (.taskSubmit 1 (.fields (submitOf 9 c 102 0 src dst))) s)).hlu.reply

def full : State := withQueue (List.replicate 8 (task .queued none))
def withCoil (k : Coil) : State := run.setSmu { run.smu with coils := Table.put 102 k run.smu.coils }
/-- Runway B beside the yard, with slot 6 and bay 2 on it. -/
def twoRunways : State :=
  { run with
    lsu := { run.lsu with
      runways := ⟨some 100000, some 90000⟩
      bays := run.lsu.bays.set .n2 (some { geom with runway := .b }) }
    smu := { run.smu with slots := Table.put 6 { slot3 with geom := { slot3.geom with runway := .b } } run.smu.slots }
    bcu := { run.bcu with bays := run.bcu.bays.set .n2 (some (bay .present none)) } }

/-- A case for each check of Table 4-4 from the second on, and for each place that checks 8 and 9 name. -/
theorem test_meets_TaskIsAccepted_refusals :
    [submitted9 run .n3 (.slot 5) .auto, submitted9 full .n1 (.slot 5) .auto,
      submitted9 (withQueue [{ task .queued none with id := 9 }]) .n1 (.slot 5) .auto,
      submitted9 (run.setSmu { run.smu with coils := [] }) .n1 (.slot 5) .auto,
      submitted9 (withCoil (coil 12000 3 (.hook .n2))) .n1 (.slot 5) .auto,
      submitted9 (withCoil { coil 12000 3 (.slot 5) with task := some 7 }) .n1 (.slot 5) .auto,
      submitted9 run .n1 (.slot 900) (.place (.slot 901)), submitted9 run .n1 (.slot 5) (.place (.slot 901)),
      submitted9 twoRunways .n1 (.slot 6) (.place (.cradle .n2 1)),
      submitted9 twoRunways .n1 (.slot 5) (.place (.cradle .n2 1)),
      submitted9 onTrailer .n1 (.cradle .n1 1) (.place (.cradle .n1 2)),
      submitted9 run .n1 (.cradle .n1 1) .auto, submitted9 run .n1 (.slot 5) (.place (.cradle .n1 1)),
      submitted9 run .n1 (.slot 3) .auto]
    = [(.stateConflict, 3), (.queueFull, 1), (.duplicate, 9), (.noSuchItem, 0), (.locationMismatch, 0),
        (.stateConflict, 7), (.noSuchItem, 900), (.noSuchItem, 901), (.badValue, 6), (.badValue, 2),
        (.badValue, 1), (.locationMismatch, 1), (.locationMismatch, 1),
        (.locationMismatch, 0)].map fun n => some ⟨1, 0x18, .nak ⟨n.1, n.2⟩⟩ := by
  decide +kernel

theorem test_meets_PriorityPlacement :
    placeTask { task .queued none with priority := true } [task .carrying none, task .queued none]
      = [task .carrying none, { task .queued none with priority := true }, task .queued none] := by
  decide +kernel

theorem test_meets_OrdersFollowTheTask :
    run.inFlight? .n1 = none ∧ (withTask .carrying none).inFlight? .n1 = some (task .carrying none) ∧
    (withTask .queued none).inFlight? .n1 = none := by
  decide +kernel

theorem test_meets_OrdersFollowTheTask_targets :
    run.slot? 5 = some slot5 ∧ run.target? (.slot 5) = some (24000, 5000) ∧
    toTrailer.bcu.bays.get .n1 = some (bay .secured (some (plan .load .pending))) ∧
    (head .load).cradles[2 - 1]? = some 9000 ∧ toTrailer.target? (.cradle .n1 2) = some (50000, 3000) := by
  decide +kernel

theorem test_meets_DispatchConditions :
    (withTask .queued none).tcu.queues.get .n1 = task .queued none :: [] ∧
    (withTask .queued none).mayDispatch .n1 (task .queued none) = true ∧
    (withTask .carrying none).mayDispatch .n1 (task .carrying none) = false := by
  decide +kernel

theorem test_uniqueTask : (withTask .queued none).TasksUnique := by
  unfold State.TasksUnique; decide +kernel

theorem test_meets_UnexpectedReportIsIgnored :
    (withTask .picking none).inFlight? .n1 = some (task .picking none) ∧
    ¬ (status1.task = 7 ∧ status1.phase = .lifted) := by
  decide +kernel

/-- A report of task 7 from a corrected position and y. -/
def report (p : PhaseReport) (y : Nat) : StatusRec := { status1 with task := 7, phase := p, y := y }

/-- Bay 1 with a LOAD plan: coil 101 for cradle 2 first, then coil 102 for cradle 1. -/
def ordered (first : EntryStatus) (kLim : Nat) : State :=
  withBay (bay .working (some ⟨{ head .load with kLim := kLim }, [⟨2, 101, first⟩, ⟨1, 102, .claimed⟩], false⟩))

def loading (p : Phase) (hold : Option HoldReason) : Machine.Task :=
  { task p hold with dest := .place (.cradle .n1 1), kind := .load }

def stableAt (kg : Int) : WeighResult := { (hoist1.form 1000 40 false) with stable := true, recorded := some kg }

theorem test_meets_PhaseReportsAreActedOn :
    ((withQueue [{ task .picking none with fresh := true }]).inFlight? .n1
        = some { task .picking none with fresh := true } ∧
      (withTask .dispatched none).inFlight? .n1 = some (task .dispatched none) ∧
      run.target? (.slot 5) = some (24000, 5000) ∧ run.lsu.settings.posTolerance = 50 ∧
      atTarget 50 24050 4950 (run.target? (.slot 5)) = true ∧
      atTarget 50 24051 4950 (run.target? (.slot 5)) = false) ∧
    ((withTask .picking none).inFlight? .n1 = some (task .picking none) ∧ run.zeroInDate .n1 = true ∧
      run.zeroInDate .n2 = false) ∧
    ((withTask .carrying none).inFlight? .n1 = some (task .carrying none) ∧
      (task .carrying none).dest = .place (.slot 3) ∧ run.placeAnswer (task .carrying none) = .pass ∧
      (ordered .placed 20000).placeAnswer (loading .carrying none) = .pass ∧
      (ordered .claimed 20000).placeAnswer (loading .carrying none) = .planOrder ∧
      (ordered .placed 3001).placeAnswer (loading .carrying none) = .axleLimit) ∧
    ((withTask .placing none).inFlight? .n1 = some (task .placing none) ∧
      (withTask .weighing none).inFlight? .n1 = some (task .weighing none) ∧
      (hoist1.form 1000 40 true).stable = false ∧ (stableAt 12360).stable = true ∧
      verifies 30 12360 12000 = true ∧ verifies 30 12370 12000 = false) ∧
    ((withTask .carrying (some .planOrder)).inFlight? .n1 = some (task .carrying (some .planOrder)) ∧
      (ordered .placed 20000).plan? .n1
        = some ⟨head .load, [⟨2, 101, .placed⟩, ⟨1, 102, .claimed⟩], false⟩) := by
  decide +kernel

/-- RELEASED at slot 3 puts the coil there and ends the task; LIFTED at slot 5 frees it. -/
theorem test_released :
    let t := (withTask .placing none).taskActs .n1 (report .released 5000) 20000 .absent
    t.tcu.queues.get .n1 = [] ∧ (t.coil? 102).map (·.location) = some (.slot 3) ∧
      (t.slot? 3).map (·.state) = some (.occupied 102) ∧ (t.hoists.get .n1).map (·.counter) = some 63 := by
  decide +kernel

theorem test_lifted :
    let t := (withTask .picking none).taskActs .n1 (report .lifted 5000) 24000 .absent
    (t.inFlight? .n1).map (·.phase) = some .weighing ∧ (t.slot? 5).map (·.state) = some .free ∧
      (t.coil? 102).map (·.location) = some (.hook .n1) := by
  decide +kernel

def autoTask : Machine.Task := { task .weighing none with dest := .auto }
def loadTask : Machine.Task := { task .weighing none with dest := .place (.cradle .n1 1), kind := .load }
/-- A plan whose kingpin limit is below any coil. -/
def tight : Plan := ⟨{ head .load with kLim := 3001 }, [⟨1, 102, .claimed⟩], false⟩

theorem test_meets_WeighingExit :
    run.selectFor .n1 102 = some (3, ⟨10, 0, 0, 0⟩) ∧ State.reset.selectFor .n1 102 = none ∧
    run.predicts (task .weighing none) = true ∧
    (withBay (bay .working (some tight))).predicts loadTask = false ∧
    run.settleDeadline? .n1 = none ∧
    (withQueue [{ autoTask with deadline := some 9 }]).settleDeadline? .n1
      = some ({ autoTask with deadline := some 9 }, 9) := by
  decide +kernel

/-- The coils on the trailer once task 7 has placed coil 102 behind coil 101: those of the prediction, and of
the check at placing once coil 101 is PLACED. -/
theorem test_meets_WeighingExit_coils :
    let s := ordered .placed 20000
    s.plan? .n1 = some ⟨head .load, [⟨2, 101, .placed⟩, ⟨1, 102, .claimed⟩], false⟩ ∧
    List.Forall₂
      (fun (e : Nat × Nat) (x : Int × Nat) => ∃ r, s.coil? e.1 = some r ∧ 1 ≤ e.2 ∧
        (head .load).cradles[e.2 - 1]? = some x.2 ∧ x.1 = r.measured.getD (r.declared : Int))
      [(101, 2), (102, 1)] [(21000, 9000), (12000, 4000)] ∧
    s.predicts (loading .weighing none) = true ∧ s.finalPasses (loading .carrying none) = true ∧
    (ordered .claimed 3001).predicts (loading .weighing none) = false ∧
    onTrailer.predicts { task .weighing none with dest := .place (.cradle .n1 1) } = true :=
  ⟨by decide +kernel,
    .cons ⟨coil 21000 0 (.slot 1), by decide +kernel, by decide, rfl, rfl⟩
      (.cons ⟨coil 12000 3 (.slot 5), by decide +kernel, by decide, rfl, rfl⟩ .nil),
    by decide +kernel⟩

theorem test_meets_HoldsAreResolved :
    (withTask .dispatched (some .positionMismatch)).task? 7
      = some (.n1, task .dispatched (some .positionMismatch)) ∧
    (withTask .weighing (some .noSlot)).selectFor .n1 102 = some (3, ⟨10, 0, 0, 0⟩) ∧
    (withTask .weighing (some .axleLimit)).predicts (task .weighing (some .axleLimit)) = true ∧
    (withTask .carrying (some .axleLimit)).finalPasses (task .carrying (some .axleLimit)) = true ∧
    (withBay (bay .working (some tight))).finalPasses loadTask = false ∧
    run.linkActive .n1 = true ∧ run.referenced .n1 = true ∧ run.referenced .n2 = false := by
  decide +kernel

theorem test_meets_TasksAreCancelledOrRedirected :
    ((withTask .queued none).task? 7 = some (.n1, task .queued none) ∧
      (withTask .dispatched none).task? 7 = some (.n1, task .dispatched none) ∧
      (withTask .picking none).task? 7 = some (.n1, task .picking none) ∧
      (withTask .weighing none).task? 7 = some (.n1, task .weighing none) ∧
      (∀ x ∈ (withTask .picking none).tcu.queues.get .n1, x.id ≠ 7 → x.phase = .queued) ∧
      (withTask .picking none).rcu.cranes.get .n1 = some record1) ∧
    ((Dest.place (.slot 2)).fits ∧ Dest.place (.slot 2) ≠ (task .queued none).dest ∧
      run.placeDefined (.slot 2) = true ∧ run.placeRunway (.slot 2) = run.craneRunway .n1 ∧
      run.coil? 102 = some (coil 12000 3 (.slot 5)) ∧ run.craneRunway .n1 = some .a ∧
      run.smu.testDest .a 2 (coil 12000 3 (.slot 5)).desc = none ∧
      toTrailer.entryIs .n1 1 102 .load .pending = true ∧
      toTrailer.placeRunway (.cradle .n1 1) = toTrailer.craneRunway .n1) ∧
    ((withTask .placing (some .linkLost)).task? 7 = some (.n1, task .placing (some .linkLost)) ∧
      (withTask .dispatched (some .linkLost)).task? 7 = some (.n1, task .dispatched (some .linkLost))) :=
  ⟨by decide +kernel, ⟨by unfold Dest.fits Place.fits; decide, by decide +kernel⟩, by decide +kernel⟩

/-- A task cancelled at PICKING leaves its crane without lower allowed, and its coil without a task. -/
theorem test_cancelled :
    let t := after (exec (.taskCancel 1 (.fields 7)) (withTask .picking none))
    t.tcu.queues.get .n1 = [] ∧ (t.rcu.cranes.get .n1).map (·.lower) = some false ∧
      (t.coil? 102).map (·.task) = some none := by
  decide +kernel

theorem test_meets_CranesAreHaltedAndDetached :
    (run.links.get .n1 = some link1 ∧ run.rcu.views.get .a = some ⟨100000, false⟩) ∧
    (run.craneRunway .n1 = some .a ∧ .n1 ∈ run.cranesOn .a ∧ run.rcu.cranes.get .n1 = some record1) ∧
    run.Admits ⟨1, .halt (.fields ⟨.all, .known .hard⟩)⟩ committed
      (taken run (.halt (.fields ⟨.all, .known .hard⟩))) ∧
    run.Admits ⟨1, .detach (.fields (numVal .n1))⟩ committed (taken run (.detach (.fields (numVal .n1)))) :=
  ⟨by decide +kernel, by decide +kernel, admitsRun _ rfl, admitsRun _ rfl⟩

/-! ## Cranes, weighing, collision -/

theorem test_meets_QueriesOnlyRead :
    run.coil? 100 = some (coil 20000 5 (.slot 0)) ∧ (run.slot? 0).isSome ∧ run.links.get .n1 = some link1 ∧
    run.hoists.get .n1 = some hoist1 ∧ run.lsu.active.get .n1 = some (params 1) ∧
    run.rcu.views.get .a = some ⟨100000, false⟩ ∧ run.bcu.bays.get .n1 = some (bay .secured none) ∧
    (withTask .queued none).task? 7 = some (.n1, task .queued none) := by
  decide +kernel

theorem test_meets_QueriesOnlyRead_reports :
    run.rcu.cranes.get .n1 = some record1 ∧ run.links.get .n3 = none ∧
    (run.runwayCrane .n1).map (·.swing) = some (some 300) ∧
    toTrailer.bcu.bays.get .n1 = some (bay .secured (some (plan .load .pending))) ∧
    toTrailer.entryReport .n1 (head .load) ⟨1, 102, .pending⟩ = ⟨⟨1, 102, .pending⟩, 4000, 45000⟩ := by
  decide +kernel

def optionalFields (t : Machine.Task) :
    Option HoldReason × Option Phase × Option Nat × Option Int × Option Bool :=
  let r := t.report .n1
  (r.hold, r.heldFrom, r.deadline, r.offered, r.fresh)

/-- The optional fields of a task's record, in six of its states (R84, Table 4-1). -/
theorem test_taskReport :
    optionalFields (task .queued none) = (none, none, none, none, none) ∧
    optionalFields (task .picking none) = (none, none, none, none, none) ∧
    optionalFields ((task .carrying none).working .dispatched true none) = (none, none, none, none, some true) ∧
    optionalFields ((task .carrying none).working .carrying false none) = (none, none, none, none, some false) ∧
    optionalFields ((task .picking none).working .weighing false (some 30)) = (none, none, some 30, none, none) ∧
    optionalFields ((task .weighing none).heldWith .weightMismatch .weighing (some 12860)) =
      (some .weightMismatch, some .weighing, none, some 12860, none) := by
  refine ⟨?_, ?_, ?_, ?_, ?_, ?_⟩ <;> decide +kernel

theorem test_meets_StatusRecordReception :
    statusBytes.length = 20 ∧ (run.feedPort .n1 [0x00]).good = none ∧
    (run.feedPort .n1 recordLine).good = some status1 ∧ State.reset.lsu.stage = .config ∧ run.links.get .n3 = none ∧
    run.lsu.stage ≠ .config ∧ run.links.get .n1 = some link1 ∧ run.lsu.active.get .n1 = some (params 1) ∧
    run.hoists.get .n1 = some hoist1 ∧ run.rcu.cranes.get .n1 = some record1 ∧ status1.v = 0 ∧
    run.inFlight? .n1 = none := by
  decide +kernel

def swapping : State := run.setLsu { run.lsu with shadow := ⟨some { params 1 with capacity := 30000 }, none, none, none⟩ }

/-- The record is taken, the pending swap with it, and the answer goes out. -/
theorem test_arrival :
    let t := after (exec (.statusRecord .n1 recordLine) swapping)
    t.lsu.shadow.get .n1 = none ∧ (t.lsu.active.get .n1).map (·.capacity) = some 30000 ∧
      (t.hoists.get .n1).map (·.window) = some [0, 0, 0, 0, 0, 0, 0, -200] ∧
      ((t.ports.get .n1).sending).map (·.fwd) = some .stop := by
  decide +kernel

/-- Crane 1 under a load that was LIGHT at its last sample. -/
def laden : State :=
  run.setHoists (run.hoists.set .n1 (some { hoist1 with loadClass := some .light }))

/-- The state of a link before a record, and what the record's arrival starts from at each unit. -/
theorem test_meets_RecordsAreJudged_arrival :
    (link1.link = .active 100 ∧ CraneLink.fresh.link = .silent ∧
      ({ link1 with link := .lost } : CraneLink).link = .lost) ∧
    (swapping.lsu.shadow.get .n1 = some { params 1 with capacity := 30000 } ∧
      swapping.inFlight? .n1 = none ∧ run.lsu.shadow.get .n1 = none) ∧
    (laden.lsu.active.get .n1 = some (params 1) ∧ laden.rcu.cranes.get .n1 = some record1 ∧
      laden.links.get .n1 = some link1 ∧
      laden.hoists.get .n1 = some { hoist1 with loadClass := some .light } ∧ 1 ≤ (params 1).order ∧
      (laden.below .n1).toList ++ (laden.above .n1).toList = [.n2] ∧
      ((laden.cranesOn .a).filter fun d => d != .n1) = [.n2]) := by
  decide +kernel

/-- The arrival sets the claim from the record, then evaluates crane 1 and its neighbour. -/
theorem test_collisionArrive :
    let t := laden.collisionArrive .n1 status1 10000 false
    ((t.rcu.cranes.get .n1).map fun k => (k.claim, k.seenRef, k.awaiting, k.availR)) =
        some (.live 11300 8700, true, false, 7200) ∧
      (t.ports.get .n1).sending.isSome = true := by
  decide +kernel

/-- Crane 2 referenced and 1,500 mm ahead of crane 1: the pair's envelopes meet. -/
def close : State :=
  run.modLink .n2 fun _ => { link1 with last := some ⟨status1, 11500, 0⟩, seenPos := some 11500 }
def saturating : Hoist := { hoist1 with window := [0, 0, 0, 0, 0, 0, 0, 8388607] }

theorem test_meets_RecordsAreJudged :
    ((run.feedPort .n1 recordLine).good = some status1 ∧ run.lsu.stage ≠ .config ∧
      run.links.get .n1 = some link1) ∧
    (CraneLink.fresh.period = false ∧ link1.period = true ∧ link1.last = some ⟨status1, 10000, 0⟩ ∧
      ((10500 : Int) - 10000).natAbs ≤ run.lsu.settings.jumpLimit ∧
      run.lsu.settings.jumpLimit < ((10501 : Int) - 10000).natAbs ∧ link1.referenced = true ∧
      CraneLink.fresh.referenced = false ∧ run.inFlight? .n1 = none ∧
      (withTask .carrying (some .linkLost)).inFlight? .n1 = some (task .carrying (some .linkLost)) ∧
      (withTask .carrying none).inFlight? .n1 = some (task .carrying none)) ∧
    (run.links.get .n2 = some CraneLink.fresh ∧ run.lsu.active.get .n2 = some (params 2) ∧
      run.below .n2 = some .n1 ∧ close.pairConflict .n1 .n2 = true ∧ run.pairConflict .n1 .n2 = false ∧
      close.orderConflict .n1 = false ∧ (close.testPairs .n2).orderConflict .n1 = true) ∧
    (run.compareSpeed .n1 (params 1) true = 0 ∧ (3 : Int) ≠ 0 ∧ (3 : Int).natAbs ≤ (3 : Int).natAbs ∧
      11 * run.compareSpeed .n1 (params 1) (decide ((0 : Int) < 3)) < 10 * (3 : Int).natAbs) ∧
    ((saturating.judge 1000 40000 false).saturated = true ∧ saturating.frozen = none ∧
      saturating.conds = ⟨false, false, false⟩ ∧ hoist1.judge 1000 40000 false = ⟨false, false, false⟩) := by
  decide +kernel

/-- A record 501 mm on from the last one costs a referenced crane its reference. -/
theorem test_jump :
    let t := run.jumpCheck .n1 link1 10501
    t.referenced .n1 = false ∧ t.fnu.isSet (.crane .positionJump .n1) = true := by
  decide +kernel

theorem test_meets_LinkIsLost :
    run.links.get .n2 = some CraneLink.fresh ∧ run.links.get .n1 = some link1 ∧ link1.link = .active 100 ∧
    run.lsu.active.get .n1 = some (params 1) ∧ run.rcu.cranes.get .n1 = some record1 ∧
    record1.motion = some ⟨10000, 0, 8000, true⟩ ∧ .n1 ∈ run.cranesOn .a ∧
    (withTask .carrying none).inFlight? .n1 = some (task .carrying none) := by
  decide +kernel

def sending (w : Option CommandRec) : State :=
  run.modPort .n1 fun p => { p with sending := some .stopRecord, waiting := w }

theorem test_meets_CommandRecordsOnAPort :
    (run.ports.get .n1).sending = none ∧
    ((sending none).ports.get .n1).sending = some .stopRecord ∧ ((sending none).ports.get .n1).waiting = none ∧
    ((sending (some .stopRecord)).ports.get .n1).waiting = some .stopRecord := by
  decide +kernel

theorem test_meets_WeighingArithmetic :
    2 * (5 - roundHalfAway 5 10 * 10).natAbs = 10 ∧ ([] : List Int).length < 8 ∧
    hoist1.window.length = 8 ∧ Hoist.fresh.window.length ≠ 8 ∧
    (hoist1.form 1000 40 false).valid = true ∧ (hoist1.form 1000 40 false).filtered = some 0 ∧
    (Hoist.fresh.form 1000 40 false).valid = false := by
  decide +kernel

/-- Crane 1 with its grab OPEN, over a hoist. -/
def weighed (h : Hoist) : State :=
  { run with
    links :=
      ⟨some { link1 with last := some ⟨{ status1 with grab := .opened }, 10000, 0⟩ }, none, none, none⟩
    hoists := ⟨some h, none, none, none⟩ }

def heavy : Hoist := { hoist1 with window := [900000, 900000, 900000, 900000, 900000, 900000, 900000, 900000] }
def uneven : Hoist := { hoist1 with window := [0, 0, 0, 0, 0, 0, 0, 900000] }

theorem test_meets_ZeroAndWeighReset :
    (weighed hoist1).grabOpen .n1 = true ∧ run.grabOpen .n1 = false ∧
    (hoist1.form 1000 40 true).steady = true ∧ (uneven.form 1000 40 true).steady = false ∧
    40000 * 2 / 100 < ((heavy.form 1000 40 true).filtered.getD 0).natAbs ∧
    ((hoist1.form 1000 40 true).filtered.getD 0).natAbs ≤ 40000 * 2 / 100 ∧
    hoist1.conds = ⟨false, false, false⟩ ∧ ({ hoist1 with conds := ⟨true, false, false⟩ } : Hoist).conds ≠
      ⟨false, false, false⟩ ∧
    hoist1.state = .zeroed ∧ Hoist.fresh.state ≠ .zeroed ∧ run.hoists.get .n1 = some hoist1 ∧
    run.lsu.active.get .n1 = some (params 1) ∧ hoist1.frozen = none ∧ hoist1.window.length = 8 ∧
    (∀ a ∈ hoist1.window.map (weightOf 0 1000), ∀ b ∈ hoist1.window.map (weightOf 0 1000), a - b ≤ 40) ∧
    (roundHalfAway (hoist1.window.map (weightOf 0 1000)).sum 8).natAbs ≤ 40000 * 2 / 100 ∧
    40000 * 2 / 100 < (roundHalfAway (heavy.window.map (weightOf 0 1000)).sum 8).natAbs := by
  decide +kernel

/-- The state and counter of crane 1's hoist. -/
def zeroing (s : State) : Option (WeighState × Nat) := (s.hoists.get .n1).map fun h => (h.state, h.counter)

/-- The counter's last step makes the hoist DUE; then a zero within the band loads the counter, one outside
it makes the hoist STALE, and an uneven window or a closed grab makes no attempt. -/
theorem test_automaticZero :
    let due (h : Hoist) : State := weighed { h with state := .due, counter := 0 }
    ({ hoist1 with counter := 1 }.countDown.state, { hoist1 with counter := 1 }.countDown.counter) = (.due, 0) ∧
    zeroing ((due hoist1).autoZero .n1 (params 1) true) = some (.zeroed, 64) ∧
    zeroing ((due heavy).autoZero .n1 (params 1) true) = some (.stale, 0) ∧
    zeroing ((due uneven).autoZero .n1 (params 1) true) = some (.due, 0) ∧
    zeroing ((due hoist1).autoZero .n1 (params 1) false) = some (.due, 0) := by
  decide +kernel

theorem test_meets_StoppingDistanceAndClaims : 1 ≤ (params 1).decel ∧ (params 1).ordered :=
  ⟨by decide, by unfold ParamSet.ordered; decide⟩

theorem test_meets_EvaluationOfACrane :
    run.lsu.active.get .n1 = some (params 1) ∧ record1.motion = some ⟨10000, 0, 8000, true⟩ ∧
    run.linkActive .n1 = true := by
  decide +kernel

/-- Crane 1 is ACTIVE with a position and a load, crane 2 is not; what the evaluation gives to each. -/
theorem test_meets_EvaluationOfACrane_distances :
    run.links.get .n1 = some link1 ∧ link1.link = .active 100 ∧ record1.load = some .light ∧
    run.rcu.views.get .a = some ⟨100000, false⟩ ∧ CraneLink.fresh.link = .silent ∧
    ((fun k : RcuCrane => (k.availF, k.availR, k.compF, k.compR)) (run.evaluated .n1 record1))
      = (0, 7200, .stop, .slow) ∧
    ((fun k : RcuCrane => (k.availF, k.compF, k.finalF)) (run.evaluated .n2 record1)) = (0, .full, .stop) ∧
    run.cranesOn .a = [.n1, .n2] ∧ (params 2).order ≤ 3 := by
  decide +kernel

/-- No cap in RUN, the STOP and CREEP caps by stage, and those of a crane never heard of. -/
theorem test_caps :
    (run.evaluated .n1 record1).caps = [] ∧ (config.evaluated .n1 record1).caps = [.stageConfig] ∧
    ((yard .inventory).evaluated .n1 { record1 with seenRef := false }).caps = [.stageInventory, .unreferenced] ∧
    ((run.setHalts [.n1] (some .soft)).evaluated .n1 { record1 with awaiting := true }).caps = [.awaiting, .halt] ∧
    (run.evaluated .n2 record1).caps = [.linkNotActive] := by
  decide +kernel

/-- Bay 1 closed and manned, a crane low beyond it, and a neighbour that is LOST. -/
theorem test_meets_AvailableDistances :
    run.above .n2 = none ∧ run.below .n1 = none ∧ run.above .n1 = some .n2 ∧ run.below .n2 = some .n1 ∧ run.claim .n2 = .none ∧
    run.claim .n1 = .live 11300 8700 ∧ (.n1, geom, ⟨false, false⟩) ∈ run.zonesOn .a ∧
    obstructs 8000 ⟨10000, 0, 7999, false⟩ ⟨true, true⟩ = true ∧
    obstructs 8000 ⟨10000, 0, 8000, false⟩ ⟨true, true⟩ = false := by
  decide +kernel

def fullRecord : CommandRec := { CommandRec.stopRecord with fwd := .full, rev := .full }
def busyLine : State := sending (some fullRecord)

theorem test_meets_DowngradesAreSentAtOnce :
    run.rcu.cranes.get .n1 = some record1 ∧ run.links.get .n1 = some link1 ∧ link1.link ≠ .silent ∧
    CraneLink.fresh.link = .silent ∧ (run.evaluated .n1 record1).downgrades .stopRecord = false ∧
    (run.ports.get .n1).lastSent = .stopRecord ∧
    (busyLine.ports.get .n1).waiting = some fullRecord ∧
    (busyLine.evaluated .n1 record1).finalF.rank < fullRecord.fwd.rank := by
  decide +kernel

/-- A HALT while a record with FULL waits behind a STOP record: the waiting record is replaced at once. -/
theorem test_haltOnBusyLine :
    let t := after (exec (.halt 1 (.fields ⟨.crane 1, .known .soft⟩)) busyLine)
    ((t.ports.get .n1).waiting.map fun r => (r.fwd, r.rev)) = some (.stop, .stop) ∧
      (t.ports.get .n1).sending = some .stopRecord := by
  decide +kernel

/-- Crane 1's port is busy with a record of task 7 that was the last one sent; another record waits. -/
def going : CommandRec := { fullRecord with order := .goPlace, task := 7, raise := true, lower := true }
def busyWithTask : State :=
  run.modPort .n1 fun p => { p with sending := some going, lastSent := going, waiting := some fullRecord }

theorem test_meets_RestartYardKeepsTheCranes_busy :
    busyWithTask.linkActive .n1 = true ∧ (busyWithTask.ports.get .n1).sending = some going := by
  decide +kernel

/-- After RESTART YARD the STOP record waits and is not the last sent one, nor does it become so where the
answer to a record replaces it. -/
theorem test_restartYardOnBusyLine :
    let sent (t : State) : Machine.Class × Order × Nat × Bool :=
      let r := (t.ports.get .n1).lastSent
      (r.fwd, r.order, r.task, r.lower)
    let t := after (exec (.restartYard 1 (.fields ())) busyWithTask)
    let u := after (exec (.statusRecord .n1 recordLine) t)
    sent t = (.stop, .goPlace, 7, false) ∧ ((t.ports.get .n1).waiting.map (·.order)) = some .none ∧
      sent u = sent t ∧ (u.ports.get .n1).sending = some going := by
  decide +kernel

/-! ## Bays, plans, lines, flags -/

theorem test_meets_TrailersComeAndGo :
    (bay .empty none).intrusion = (bay .empty none).intruded ∧
    (bay .working none).intrusion = (bay .working none).intruded ∧
    (bay .complete none).intrusion = (bay .complete none).intruded ∧
    ({ bay .working none with trail := some 5 } : Bay).trail = some 5 ∧
    (plan .load .placed).complete = true ∧ (plan .load .pending).complete = false := by
  decide +kernel

theorem test_meets_TrailersComeAndGo_plans :
    (plan .load .placed).head.kind = .load ∧ (plan .unload .removed).head.kind = .unload ∧
    (plan .unload .removed).complete = true ∧ (plan .unload .onTruck).complete = false ∧
    (onTrailer.smu.deleteBay .n1).coils = [] ∧ (onTrailer.smu.deleteBay .n2).coils = onTrailer.smu.coils ∧
    (bay .working none).secure = true ∧ ({ bay .working none with latch := true } : Bay).intruded = true := by
  decide +kernel

def curtained : Bay := { bay .secured none with live := ⟨true, false, true⟩, mode := .level }

/-- A bay at which task 7 works, and a yard without trail time. -/
def worked : Bay := { bay .working none with work := [7] }
def noTrail : State :=
  run.setLsu { run.lsu with settings := { run.lsu.settings with trailTime := 0 } }

theorem test_meets_BayRequestsAct :
    curtained.live.curtain = true ∧ curtained.mode = .level ∧ curtained.live ≠ curtained.snapshot ∧
    (bay .secured none).live = (bay .secured none).snapshot ∧
    run.Admits ⟨1, .bayClear (.fields (numVal .n1))⟩ inRun (taken run (.bayClear (.fields (numVal .n1)))) ∧
    (run.rcu.zones.get .n1 = some ⟨false, false⟩ ∧ run.lsu.bays.get .n1 = some geom ∧
      (bay .secured none).zone = ⟨false, false⟩ ∧ curtained.zone = ⟨true, true⟩) ∧
    ((bay .present none).secure = true ∧ ({ curtained with state := .present } : Bay).secure = false ∧
      curtained.state = .secured ∧ curtained.secure = false ∧ (bay .secured none).intrusion = false) ∧
    (7 ∉ (bay .secured none).work ∧ 7 ∈ worked.work ∧ (worked.work.filter fun k => k != 7) = [] ∧
      (({ worked with work := [7, 8] } : Bay).work.filter fun k => k != 7) ≠ [] ∧
      run.lsu.settings.trailTime ≠ 0 ∧ noTrail.lsu.settings.trailTime = 0 ∧
      (bay .empty none).state ≠ .present ∧ (bay .empty none).state ≠ .secured) :=
  ⟨by decide, by decide, by decide, by decide, admitsRun _ rfl, by decide +kernel, by decide +kernel,
    by decide +kernel⟩

/-- Work at a secured bay makes it WORKING; its end starts the trail timer of 10 s. -/
theorem test_workAtABay :
    let t := run.workStart .n1 7
    (t.bcu.bays.get .n1).map (·.state) = some .working ∧
      ((t.workStop .n1 7).bcu.bays.get .n1).map (·.trail) = some (some 10000) := by
  decide +kernel

def open1 : PlanOpen := ⟨1, .known .load, 10000, 3000, 4000, 20000, 30000, 50000, [500, 10000]⟩
def entry1 : PlanEntry := ⟨.known .load, 1, 102, 0, 0, 0⟩
theorem test_declaredWeights : Smu.declared store ⟨.n1, head .load, [(1, 102)]⟩ = [(12000, 4000)] := by decide +kernel

theorem test_meets_PlanIsBuilt :
    (∀ x ∈ open1.cradles, 500 ≤ x ∧ x ≤ open1.length ∧
      (geom.xLo : Int) ≤ (geom.kingpinX : Int) + geom.direction * (x : Int) ∧
      (geom.kingpinX : Int) + geom.direction * (x : Int) ≤ (geom.xHi : Int)) ∧
    (taken (building .load []) (.planEntry (.fields entry1))).lsu.stage = .run ∧
    (taken (building .load []) (.planEntry (.fields entry1))).bcu.build = some ⟨.n1, head .load, []⟩ ∧
    run.coil? 102 = some (coil 12000 3 (.slot 5)) ∧
    (head .load).failingPrefix (store.declared ⟨.n1, head .load, [(2, 101), (1, 102)]⟩) = none ∧
    ({ head .load with aLim := 22000 } : PlanHead).failingPrefix [(21000, 9000), (12000, 4000)] = some (1, 2) ∧
    run.coil? 300 = none ∧ run.smu.coils.length < 768 := by
  decide +kernel

/-- The declared weights of a plan's entries, in loading order. -/
theorem test_meets_PlanIsBuilt_declared :
    List.Forall₂
      (fun (e : Nat × Nat) (x : Int × Nat) => ∃ r, store.coil? e.2 = some r ∧ 1 ≤ e.1 ∧
        (head .load).cradles[e.1 - 1]? = some x.2 ∧ x.1 = (r.declared : Int))
      [(2, 101), (1, 102)] [(21000, 9000), (12000, 4000)] :=
  .cons ⟨coil 21000 0 (.slot 1), by decide +kernel, by decide, rfl, rfl⟩
    (.cons ⟨coil 12000 3 (.slot 5), by decide +kernel, by decide, rfl, rfl⟩ .nil)

/-- The work of a task that moves from one bay to another, and an entry claimed for it. -/
theorem test_meets_BayRequestsAct_tasks :
    (loading .queued none).references .n1 = true ∧ (loading .queued none).references .n2 = false ∧
    ({ worked with trail := some 5 } : Bay).trail = some 5 ∧
    ((toTrailer.entryAt (.cradle .n1 1) 102 .pending .claimed).plan? .n1).map (·.entries)
      = some [⟨1, 102, .claimed⟩] ∧
    ((run.moveWork (task .dispatched none) (loading .dispatched none)).bcu.bays.get .n1).map (·.work)
      = some [7] := by
  decide +kernel

theorem test_meets_PlanIsEnded :
    (∀ c, ∀ t ∈ run.tcu.queues.get c, t.references .n1 = false) ∧
    (∀ e ∈ (plan .load .pending).entries, e.status ≠ .placed) ∧
    (plan .load .placed).head.kind = .load ∧ (plan .unload .onTruck).head.kind = .unload :=
  ⟨fun c => by cases c <;> (intro t h; simp [run, yard, State.reset, State.fresh, Tcu.powerOn, Quad.get, Quad.all] at h),
    by decide, rfl, rfl⟩

theorem test_meets_AxleShares :
    (0 < (head .load).length ∧ (0 : Int) ≤ 1001 ∧ 5000 ≤ (head .load).length) ∧
    (((head .load).kLim : Int) < 20001 ∧ (20000 : Int) ≤ (head .load).kLim ∧
      ((head .load).aLim : Int) < 30001 ∧ (30000 : Int) ≤ (head .load).aLim ∧
      ((head .load).gLim : Int) < 50001) := by
  decide

def estopTable : InTable :=
  { InTable.powerOn with estop := ⟨⟨2, false, .level⟩, ⟨0, false, .level⟩⟩, ref := .all ⟨2, false, .rising⟩ }
/-- Line 0 drives ESTOP_A and the reference inputs; its raw level has risen. -/
def wired : State :=
  run.setDio { run.dio with inputs := estopTable, lines := run.dio.lines.set 0 ⟨true, false, some 10⟩ }

/-- Line 0 drives CURTAIN of bay 1, whose snapshot is as given. -/
def fenced (frozen : Bool) : State :=
  { withBay { bay .secured none with frozen := frozen } with
    dio :=
      { run.dio with
        inputs :=
          { InTable.powerOn with curtain := InTable.powerOn.curtain.set .n1 ⟨2, false, .level⟩ }
        lines := run.dio.lines.set 0 ⟨true, false, some 10⟩ } }

/-- What that line's rise to 1 hands to bay 1, and the bay before it. -/
theorem test_meets_InputLinesSettle_bays :
    (fenced false).lsu.stage ≠ .config ∧
    (fenced false).dio.bayInputs .n1 ≠ ((fenced false).dio.setLine 0 ⟨true, true, none⟩).bayInputs .n1 ∧
    (fenced false).dio.bayInputs .n2 = ((fenced false).dio.setLine 0 ⟨true, true, none⟩).bayInputs .n2 ∧
    ((fenced false).bcu.bays.get .n1).map (·.frozen) = some false ∧
    ((fenced true).bcu.bays.get .n1).map (·.frozen) = some true ∧
    (bay .secured none).live ≠ ((fenced false).dio.setLine 0 ⟨true, true, none⟩).bayInputs .n1 ∧
    (bay .secured none).live = ⟨false, false, true⟩ ∧
    ((fenced false).lineTakes 0 ⟨true, true, none⟩).fnu.notices.length < 32 := by
  decide +kernel

/-- The onset of CURTAIN latches in either case; only the unfrozen snapshot moves and is told. -/
theorem test_curtainOnset :
    let out (s : State) : Option (Bool × Bool × Bool) × List Notice :=
      let t := after (exec (.settlingEnd 0) s)
      ((t.bcu.bays.get .n1).map fun y => (y.latch, y.snapshot.curtain, y.frozen),
        t.fnu.notices.filter fun n => match n with | .bayInputs .n1 _ _ _ _ => true | _ => false)
    out (fenced false) = (some (true, true, true), [.bayInputs .n1 ⟨true, false, false⟩ true false true]) ∧
    out (fenced true) = (some (true, false, true), []) := by
  decide +kernel

theorem test_meets_InputLinesSettle :
    run.dio.lines[0].raw = false ∧ run.dio.lines[0].level = false ∧ run.lsu.settings.debounce ≠ 0 ∧
    wired.dio.lines[0].settling = some 10 ∧ wired.lsu.stage ≠ .config ∧
    wired.dio.fnLevel (.estop .a) ≠ (wired.dio.setLine 0 ⟨true, true, none⟩).fnLevel (.estop .a) ∧
    fires .rising (wired.dio.fnLevel (.ref .n1)) ((wired.dio.setLine 0 ⟨true, true, none⟩).fnLevel (.ref .n1))
      = true := by
  decide +kernel

/-- The end of the settling period references crane 1 and stops the runway. -/
theorem test_settlingEnd :
    let t := after (exec (.settlingEnd 0) wired)
    (t.links.get .n1).map (·.correction) = some (-8000) ∧
      (t.rcu.views.get .a).map (·.estop) = some true ∧ t.signal (.runEnable .n1) = false := by
  decide +kernel

theorem test_meets_LinesAndBeacons :
    modeFits (.ref .n1) .rising = true ∧ modeFits (.estop .a) .level = true ∧
    (∃ c, allSignals[(0 : Fin 14).val] = .runEnable c) ∧ (∀ c, allSignals[(13 : Fin 14).val] ≠ .runEnable c) ∧
    (run.dio.beacons.get .n1).stretch = none ∧
    ({ Beacon.powerOn with on := true, stretch := some 2000 } : Beacon).stretch = some 2000 :=
  ⟨rfl, rfl, ⟨.n1, by decide⟩, fun c => by cases c <;> decide, by decide +kernel⟩

theorem test_meets_FlagsAndNotices :
    (run.fnu.flag .hostSilent).count = none ∧ (run.fnu.flag .powerUp).count = some 1 ∧
    run.fnu.notices.length < 32 ∧
    32 ≤ (List.replicate 32 (Notice.craneLink .n1 true)).length := by
  decide +kernel

/-- A crane's flag raised turns its beacon on; the end of its condition under REAL_TIME turns it off. -/
theorem test_meets_FlagsAndNotices_beacons :
    let f : FlagId := .crane .overload .n1
    let live : State := (run.setLsu { run.lsu with settings := { run.lsu.settings with
      faultLatch := .realTime, beaconStretch := 0 } }).raise f
    run.fnu.isSet f = false ∧ (run.dio.beacons.get .n1).mode = .auto ∧ (run.dio.beacons.get .n1).on = false ∧
    live.fnu.isSet f = true ∧ (live.dio.beacons.get .n1).on = true ∧
    (live.fnu.endCond .realTime f).isSet f = false ∧ ((live.endCond f).dio.beacons.get .n1).on = false ∧
    ((live.fnu.endCond .latched f).isSet f = true ∧ ∀ k c, FlagId.hostSilent ≠ .crane k c) :=
  ⟨by decide +kernel, by decide +kernel, by decide +kernel, by decide +kernel, by decide +kernel,
    by decide +kernel, by decide +kernel, by decide +kernel, nofun⟩

theorem test_meets_FaultsAreReportedAndMasked :
    [FaultKind.powerUp, .overload].Nodup ∧ [FaultKind.powerUp, .overload].length ≤ 16 := by
  decide

theorem test_meets_RecordsSurviveTheirBytes :
    status1.inRange = true ∧ encodeStatus .n1 status1 = statusBytes ∧ hostFrame 0x3C 1 [] = statusLine ∧
    judgeFrame (statusLine.drop 1) = .good ⟨0x3C, 1, []⟩ ∧
    (List.replicate 240 (0 : Byte)).length ≤ 240 := by
  decide +kernel

/-- The three properties hold in the small yard, and a step there answers a next state. -/
theorem test_meets_StepKeeps : run.Keyed ∧ run.Bounded ∧ run.Staged ∧ ∃ t, step run = .next t := by
  refine ⟨⟨by decide +kernel, by decide +kernel, by decide +kernel, ?_⟩, ?_, ?_, _, rfl⟩
  · unfold State.TasksUnique; decide +kernel
  · refine ⟨by decide +kernel, by decide +kernel, by decide +kernel, ?_, ?_, ?_, ?_, ?_⟩
    · intro c; cases c <;> decide +kernel
    · intro c h hc
      cases c
      · have : h = hoist1 := by simpa [run, yard, Quad.get] using hc.symm
        subst this; decide
      · have : h = Hoist.fresh := by simpa [run, yard, Quad.get] using hc.symm
        subst this; decide
      · simp [run, yard, Quad.get] at hc
      · simp [run, yard, Quad.get] at hc
    · intro b y p hb hp
      cases b
      · have : y = bay .secured none := by simpa [run, yard, Quad.get] using hb.symm
        subst this; simp [bay, Bay.fresh] at hp
      all_goals simp [run, yard, Quad.get] at hb
    · intro u hu; simp [run, yard] at hu
    · refine ⟨by decide +kernel, by decide +kernel, by decide +kernel, by decide +kernel, ?_⟩
      intro c; cases c <;> decide +kernel
  · exact ⟨fun h => absurd h (by decide +kernel), fun h => absurd (by decide +kernel) h⟩

end Sys2Proof.Tests
end

section
/-! SUPPORT. Slot selection (03): the cost of a candidate term by term with its bounds, and which entry of
a list of costs is the cheapest. -/

namespace Sys2Proof.Machine

/-! ## The burial term (R44) -/

theorem departsEarlier_iff (occupant g : Nat) :
    departsEarlier occupant g = true ↔ occupant ≠ 0 ∧ (g = 0 ∨ occupant < g) := by
  simp [departsEarlier]

theorem Smu.burial_of_occupant {u : Smu} {i : Nat} {k : Coil} (h : u.occupant? i = some k) (g : Nat) :
    u.burial g i = if k.group ≠ 0 ∧ (g = 0 ∨ k.group < g) then 100 else 0 := by
  simp only [Smu.burial, h, departsEarlier_iff]

theorem Smu.burial_le (u : Smu) (g i : Nat) : u.burial g i ≤ 100 := by
  unfold Smu.burial
  split
  · omega
  · split <;> omega

/-! ## The four terms of a cost (R43, Table 3-2) -/

section Terms

variable (u : Smu) (penalty : Nat) (x : Int) (d : CoilDesc) {g : SlotGeom}

theorem Smu.costOf_tier_burial_of_one {m : Nat} (h : g.tier = .one m) :
    (u.costOf penalty x d g).tier = 0 ∧ (u.costOf penalty x d g).burial = 0 := by
  simp [Smu.costOf, h]

theorem Smu.costOf_tier_burial_of_two {l r : Nat} (h : g.tier = .two l r) :
    (u.costOf penalty x d g).tier = penalty ∧
      (u.costOf penalty x d g).burial = u.burial d.group l + u.burial d.group r := by
  simp [Smu.costOf, h]

theorem Smu.costOf_affinity_of_preferred (h : g.group = 0 ∨ g.group = d.group) :
    (u.costOf penalty x d g).affinity = 0 :=
  if_neg fun hne => h.elim hne.1 hne.2

theorem Smu.costOf_affinity_of_not_preferred (h0 : g.group ≠ 0) (hd : g.group ≠ d.group) :
    (u.costOf penalty x d g).affinity = 15 :=
  if_pos ⟨h0, hd⟩

variable (g)

theorem Smu.costOf_tier_le : (u.costOf penalty x d g).tier ≤ penalty := by
  cases h : g.tier with
  | one m => simp [u.costOf_tier_burial_of_one penalty x d h]
  | two l r => simp [u.costOf_tier_burial_of_two penalty x d h]

theorem Smu.costOf_burial_le : (u.costOf penalty x d g).burial ≤ 200 := by
  cases h : g.tier with
  | one m => simp [u.costOf_tier_burial_of_one penalty x d h]
  | two l r =>
    have hl := u.burial_le d.group l
    have hr := u.burial_le d.group r
    rw [(u.costOf_tier_burial_of_two penalty x d h).2]
    omega

theorem Smu.costOf_affinity_le : (u.costOf penalty x d g).affinity ≤ 15 := by
  simp only [Smu.costOf]
  split <;> omega

/-- Table 3-2's ranges add up: 512 of distance, 255 of tier, 200 of burial and 15 of affinity. -/
theorem Smu.costOf_total_le (hp : penalty ≤ 255) (hx : ((g.x : Int) - x).natAbs < 513000) :
    (u.costOf penalty x d g).total ≤ 982 := by
  have hdist : (u.costOf penalty x d g).distance ≤ 512 :=
    Nat.le_of_lt_succ (Nat.div_lt_of_lt_mul hx)
  have htier := u.costOf_tier_le penalty x d g
  have hburial := u.costOf_burial_le penalty x d g
  have haffinity := u.costOf_affinity_le penalty x d g
  unfold CostTerms.total
  omega

end Terms

/-! ## The cheapest of a list (R45) -/

@[simp] theorem cheapest_eq_none_iff {es : List (Nat × CostTerms)} : cheapest es = none ↔ es = [] := by
  cases es with
  | nil => simp [cheapest]
  | cons e rest =>
    unfold cheapest
    split
    · simp
    · split <;> simp

/-- The winner beats every entry before it and is beaten by none after it. -/
theorem cheapest_eq_some_split {es : List (Nat × CostTerms)} {w : Nat × CostTerms}
    (h : cheapest es = some w) :
    ∃ before after, es = before ++ w :: after ∧ (∀ e ∈ before, w.2.total < e.2.total) ∧
      ∀ e ∈ after, w.2.total ≤ e.2.total := by
  induction es generalizing w with
  | nil => simp [cheapest] at h
  | cons e rest ih =>
    unfold cheapest at h
    split at h
    next hnone =>
      obtain rfl : rest = [] := cheapest_eq_none_iff.1 hnone
      obtain rfl : e = w := Option.some.inj h
      exact ⟨[], [], by simp⟩
    next f hf =>
      split at h
      next hlt =>
        obtain rfl : f = w := Option.some.inj h
        obtain ⟨before, after, rfl, hbefore, hafter⟩ := ih hf
        exact ⟨e :: before, after, rfl, List.forall_mem_cons.2 ⟨hlt, hbefore⟩, hafter⟩
      next hge =>
        obtain rfl : e = w := Option.some.inj h
        obtain ⟨before, after, rfl, hbefore, hafter⟩ := ih hf
        refine ⟨[], before ++ f :: after, rfl, by simp, fun b hb => ?_⟩
        have hfb : f.2.total ≤ b.2.total := by
          rcases List.mem_append.1 hb with hb | hb
          · exact Nat.le_of_lt (hbefore b hb)
          · rcases List.mem_cons.1 hb with rfl | hb
            · exact Nat.le_refl _
            · exact hafter b hb
        omega

theorem cheapest_mem {es : List (Nat × CostTerms)} {w : Nat × CostTerms} (h : cheapest es = some w) :
    w ∈ es := by
  obtain ⟨before, after, rfl, -⟩ := cheapest_eq_some_split h
  simp

/-- Where the indices rise along the list, being first among equals is having the lowest index. -/
theorem cheapest_lt_or_index_le {es : List (Nat × CostTerms)} (hwf : Table.wf es)
    {w : Nat × CostTerms} (h : cheapest es = some w) {e : Nat × CostTerms} (he : e ∈ es) :
    w.2.total < e.2.total ∨ w.2.total = e.2.total ∧ w.1 ≤ e.1 := by
  obtain ⟨before, after, rfl, hbefore, hafter⟩ := cheapest_eq_some_split h
  rcases List.mem_append.1 he with he | he
  · exact .inl (hbefore e he)
  · rcases List.mem_cons.1 he with rfl | he
    · exact .inr ⟨rfl, Nat.le_refl _⟩
    · have hindex : w.1 < e.1 :=
        (List.pairwise_cons.1 (List.pairwise_append.1 (List.pairwise_map.1 hwf)).2.1).1 e he
      have htotal := hafter e he
      omega

/-! ## The candidates of a selection (R42) -/

section Candidates

variable {u : Smu} {penalty : Nat} {r : RunwayId} {x : Int} {d : CoilDesc}

theorem Smu.mem_candidates_iff {i : Nat} {c : CostTerms} :
    (i, c) ∈ u.candidates penalty r x d ↔
      ∃ t, (i, t) ∈ u.slots ∧ u.isCandidate r d t = true ∧ c = u.costOf penalty x d t.geom := by
  unfold Smu.candidates
  constructor
  · intro h
    obtain ⟨⟨j, t⟩, hmem, heq⟩ := List.mem_map.1 h
    obtain ⟨hslot, hcand⟩ := List.mem_filter.1 hmem
    obtain ⟨rfl, rfl⟩ := Prod.mk.inj heq
    exact ⟨t, hslot, hcand, rfl⟩
  · rintro ⟨t, hslot, hcand, rfl⟩
    exact List.mem_map.2 ⟨(i, t), List.mem_filter.2 ⟨hslot, hcand⟩, rfl⟩

theorem Smu.candidates_eq_nil_iff :
    u.candidates penalty r x d = [] ↔ ∀ e ∈ u.slots, u.isCandidate r d e.2 = false := by
  simp [Smu.candidates, List.filter_eq_nil_iff]

/-- The candidates keep the ascending indices of the slot table. -/
theorem Smu.candidates_wf (h : Table.wf u.slots) : Table.wf (u.candidates penalty r x d) := by
  have hkeys : (u.candidates penalty r x d).map (·.1) =
      (u.slots.filter fun e => u.isCandidate r d e.2).map (·.1) := by
    simp [Smu.candidates]
  unfold Table.wf
  rw [hkeys]
  exact h.sublist (List.filter_sublist.map _)

theorem Smu.select_eq_none_iff :
    u.select penalty r x d = none ↔ ∀ e ∈ u.slots, u.isCandidate r d e.2 = false :=
  cheapest_eq_none_iff.trans Smu.candidates_eq_nil_iff

end Candidates

end Sys2Proof.Machine
end

section
/-! SUPPORT. The statements about slot selection, settled. -/

namespace Sys2Proof

open Machine

/-- Settles O23, one term of Table 3-2 at a time. -/
theorem costTermsOfACandidate : Obligations.CostTermsOfACandidate := by
  intro u penalty x d g
  refine ⟨rfl, rfl, u.costOf_affinity_of_preferred penalty x d,
    u.costOf_affinity_of_not_preferred penalty x d,
    fun m => u.costOf_tier_burial_of_one penalty x d, ?_, u.costOf_total_le penalty x d g⟩
  intro l r a b htier hl hr
  obtain ⟨hpenalty, hburial⟩ := u.costOf_tier_burial_of_two penalty x d htier
  rw [Smu.burial_of_occupant hl, Smu.burial_of_occupant hr] at hburial
  exact ⟨hpenalty, hburial⟩

/-- Settles O24: the selector takes the first of the cheapest candidates, and they stand in ascending
index. -/
theorem cheapestCandidateWins : Obligations.CheapestCandidateWins := by
  intro u penalty r x d hwf
  refine ⟨Smu.select_eq_none_iff, fun i c hwin => ⟨?_, fun e he hcand => ?_⟩⟩
  · exact Smu.mem_candidates_iff.1 (cheapest_mem hwin)
  · have hmem : (e.1, u.costOf penalty x d e.2.geom) ∈ u.candidates penalty r x d :=
      Smu.mem_candidates_iff.2 ⟨e.2, he, hcand, rfl⟩
    exact cheapest_lt_or_index_le (Smu.candidates_wf hwf) hwin hmem

end Sys2Proof
end

section
/-! SUPPORT. Weighing (06): the rounding of a weight, and what each part of a result, the load class and
verification say. -/

namespace Sys2Proof.Machine

/-! ## Rounding (00_scope.md §6.3) -/

theorem natAbs_roundHalfAway (n : Int) (d : Nat) :
    (roundHalfAway n d).natAbs = (2 * n.natAbs + d) / (2 * d) := by
  unfold roundHalfAway
  split
  case isTrue hneg => rw [Int.natAbs_neg, Int.natAbs_natCast]
  case isFalse hpos => exact Int.natAbs_natCast _

/-- Rounding keeps the sign, so its error is that of the magnitudes. -/
theorem natAbs_sub_roundHalfAway_mul (n : Int) (d : Nat) :
    (n - roundHalfAway n d * (d : Int)).natAbs =
      ((n.natAbs : Int) - ((roundHalfAway n d).natAbs * d : Nat)).natAbs := by
  rw [natAbs_roundHalfAway, Nat.cast_mul]
  unfold roundHalfAway
  split
  case isTrue hneg => rw [neg_mul]; omega
  case isFalse hpos => rw [Int.natAbs_of_nonneg (not_lt.1 hpos)]

/-- The rounded magnitude lies between a half below the quotient, excluded, and a half above it, included. -/
theorem roundHalfAway_magnitude_bounds (n : Int) {d : Nat} (hd : 0 < d) :
    2 * ((roundHalfAway n d).natAbs * d) ≤ 2 * n.natAbs + d ∧
      2 * n.natAbs < 2 * ((roundHalfAway n d).natAbs * d) + d := by
  rw [natAbs_roundHalfAway]
  have hle := Nat.div_mul_le_self (2 * n.natAbs + d) (2 * d)
  have hlt := Nat.lt_div_mul_add (a := 2 * n.natAbs + d) (b := 2 * d) (by omega)
  rw [mul_left_comm] at hle hlt
  omega

theorem roundHalfAway_error_le (n : Int) {d : Nat} (hd : 0 < d) :
    2 * (n - roundHalfAway n d * (d : Int)).natAbs ≤ d := by
  have hbounds := roundHalfAway_magnitude_bounds n hd
  rw [natAbs_sub_roundHalfAway_mul]
  omega

theorem natAbs_lt_roundHalfAway_of_tie (n : Int) {d : Nat} (hd : 0 < d)
    (htie : 2 * (n - roundHalfAway n d * (d : Int)).natAbs = d) :
    n.natAbs < (roundHalfAway n d).natAbs * d := by
  have hbounds := roundHalfAway_magnitude_bounds n hd
  rw [natAbs_sub_roundHalfAway_mul] at htie
  omega

/-! ## The window (R104) -/

theorem joinWindow_of_lt {w : List Int} (h : w.length < 8) (r : Int) : joinWindow w r = w ++ [r] := by
  have hkeep : w.length + 1 - Config.windowMax = 0 := Nat.sub_eq_zero_of_le h
  rw [joinWindow, hkeep, List.drop_zero]

theorem joinWindow_of_full {w : List Int} (h : w.length = 8) (r : Int) :
    joinWindow w r = w.tail ++ [r] := by
  have hdrop : w.length + 1 - Config.windowMax = 1 := by rw [h]; rfl
  rw [joinWindow, hdrop, List.drop_one, List.tail_append_of_ne_nil (by rintro rfl; simp at h)]

theorem Hoist.full_iff (h : Hoist) : h.full = true ↔ h.window.length = 8 :=
  beq_iff_eq

/-! ## The result of a window (R106) -/

theorem steadyOf_iff (band : Nat) (ws : List Int) :
    steadyOf band ws = true ↔ ∀ a ∈ ws, ∀ b ∈ ws, a - b ≤ (band : Int) := by
  simp [steadyOf]

theorem WeighState.zeroInDate_iff (w : WeighState) : w.zeroInDate = true ↔ w = .zeroed ∨ w = .due := by
  cases w <;> simp [WeighState.zeroInDate]

section Form

variable {h : Hoist} (gain band : Nat) (grabOpen : Bool)

@[simp] theorem Hoist.form_count : (h.form gain band grabOpen).count = h.window.length := rfl

theorem Hoist.form_of_not_full (hlen : h.window.length ≠ 8) :
    h.form gain band grabOpen = { WeighResult.absent with count := h.window.length } := by
  have hfull : h.full = false := Bool.eq_false_iff.2 fun hf => hlen (h.full_iff.1 hf)
  simp [Hoist.form, WeighResult.absent, hfull]

theorem Hoist.form_filtered_of_full (hlen : h.window.length = 8) :
    (h.form gain band grabOpen).filtered = some (filteredOf (h.weights gain)) :=
  if_pos (h.full_iff.2 hlen)

theorem Hoist.form_recorded_of_full (hlen : h.window.length = 8) :
    (h.form gain band grabOpen).recorded = some (recordedOf (filteredOf (h.weights gain))) :=
  congrArg (Option.map recordedOf) (form_filtered_of_full gain band grabOpen hlen)

theorem Hoist.form_steady_iff : (h.form gain band grabOpen).steady = true ↔
    h.window.length = 8 ∧ ∀ a ∈ h.weights gain, ∀ b ∈ h.weights gain, a - b ≤ (band : Int) := by
  rw [← h.full_iff, ← steadyOf_iff, ← Bool.and_eq_true]
  rfl

theorem Hoist.form_valid_iff : (h.form gain band grabOpen).valid = true ↔
    h.window.length = 8 ∧ (h.state = .zeroed ∨ h.state = .due) ∧ h.frozen = none := by
  rw [← h.full_iff, ← WeighState.zeroInDate_iff, ← Option.isNone_iff_eq_none]
  simp [Hoist.form, and_assoc]

theorem Hoist.form_stable_iff : (h.form gain band grabOpen).stable = true ↔
    (h.form gain band grabOpen).valid = true ∧ (h.form gain band grabOpen).steady = true ∧
      grabOpen = false := by
  rw [← Bool.not_eq_true', ← Bool.and_eq_true, ← Bool.and_eq_true, ← Bool.and_assoc]
  rfl

end Form

/-! ## Load class and verification (R117, R118) -/

@[simp] theorem loadClassOf_open (w : WeighResult) : loadClassOf true w = .empty := rfl

theorem loadClassOf_of_not_valid {w : WeighResult} (hvalid : w.valid = false) :
    loadClassOf false w = .heavy := by
  simp [loadClassOf, hvalid]

theorem loadClassOf_of_valid {w : WeighResult} {kg : Int} (hvalid : w.valid = true)
    (hkg : w.filtered = some kg) :
    loadClassOf false w = if kg < 10000 then .light else if kg < 25000 then .medium else .heavy := by
  simp [loadClassOf, hvalid, hkg]

theorem verifies_iff (tolerance declared : Nat) (w : Int) :
    verifies tolerance w declared = true ↔
      (w - (declared : Int)).natAbs ≤ max (declared * tolerance / 1000) 100 :=
  decide_eq_true_iff

end Sys2Proof.Machine
end

section
/-! SUPPORT. The statement about weights and results, settled. -/

namespace Sys2Proof

open Machine

/-- Settles O41, one rule of the weighing unit at a time: rounding, the weight, the window, the result, the
load class and verification. -/
theorem weighingArithmetic : Obligations.WeighingArithmetic := by
  refine ⟨fun n d hd => ⟨roundHalfAway_error_le n hd, natAbs_lt_roundHalfAway_of_tie n hd⟩,
    fun _ _ _ => rfl, fun w r => ⟨fun h => joinWindow_of_lt h r, fun h => joinWindow_of_full h r⟩,
    fun h gain band grabOpen => ⟨rfl, fun hlen => ?notFull, fun hlen => ?full⟩,
    fun grabOpen w kg => ⟨?opened, ?notValid, ?valid⟩,
    fun tolerance declared w => verifies_iff tolerance declared w⟩
  case notFull =>
    rw [Hoist.form_of_not_full gain band grabOpen hlen]
    exact ⟨rfl, rfl, rfl, rfl, rfl⟩
  case full =>
    refine ⟨Hoist.form_filtered_of_full gain band grabOpen hlen,
      Hoist.form_recorded_of_full gain band grabOpen hlen, ?_, ?_,
      Hoist.form_stable_iff gain band grabOpen⟩
    · exact (Hoist.form_steady_iff gain band grabOpen).trans (and_iff_right hlen)
    · exact (Hoist.form_valid_iff gain band grabOpen).trans (and_iff_right hlen)
  case opened =>
    rintro rfl
    exact loadClassOf_open w
  case notValid =>
    rintro rfl hvalid
    exact loadClassOf_of_not_valid hvalid
  case valid =>
    rintro rfl hvalid hkg
    rw [loadClassOf_of_valid hvalid hkg]
    refine ⟨fun hlight => if_pos hlight, fun hlo hhi => ?_, fun hheavy => ?_⟩
    · rw [if_neg (by omega), if_pos hhi]
    · rw [if_neg (by omega), if_neg (by omega)]

end Sys2Proof
end

section
/-! SUPPORT. Axle arithmetic (08 §8.6): the rear share of a coil, the totals of a set of coils, and the
limits they are held against. -/

namespace Sys2Proof.Machine

/-! ## The rear share (R158) -/

section RearShare

variable {m : Int} {c length : Nat}

/-- The error of the floor in R158's formula: the share is at most a half above the quotient, and less than
a half below it. -/
theorem rearShare_bounds (m : Int) (c : Nat) (hlen : 0 < length) :
    2 * m * (c : Int) - (length : Int) < 2 * (length : Int) * rearShare m c length ∧
      2 * (length : Int) * rearShare m c length ≤ 2 * m * (c : Int) + (length : Int) := by
  have hpos : (0 : Int) < 2 * (length : Int) := by omega
  have hle := Int.mul_ediv_self_le (x := 2 * m * (c : Int) + length) hpos.ne'
  have hlt := Int.lt_mul_ediv_self_add (x := 2 * m * (c : Int) + length) hpos
  unfold rearShare
  omega

theorem rearShare_nonneg (hm : 0 ≤ m) : 0 ≤ rearShare m c length := by
  unfold rearShare
  positivity

/-- At a position on the trailer m × c is at most m × L, so the numerator stays below (m + 1) × 2L. -/
theorem rearShare_le (hlen : 0 < length) (hm : 0 ≤ m) (hc : c ≤ length) : rearShare m c length ≤ m := by
  have hmc : m * (c : Int) ≤ m * (length : Int) := mul_le_mul_of_nonneg_left (Int.ofNat_le.2 hc) hm
  refine Int.lt_add_one_iff.1 (Int.ediv_lt_of_lt_mul (by omega) ?_)
  calc 2 * m * (c : Int) + length
      < 2 * (m * (length : Int)) + 2 * length := by rw [mul_assoc]; omega
    _ = (m + 1) * (2 * (length : Int)) := by ring

end RearShare

/-! ## The totals of a set of coils (R158) -/

namespace PlanHead

/-- What one coil adds to the totals. -/
def addCoil (h : PlanHead) (t : Totals) (e : Int × Nat) : Totals :=
  ⟨t.k + (e.1 - rearShare e.1 e.2 h.length), t.a + rearShare e.1 e.2 h.length, t.gross + e.1⟩

theorem totals_eq_foldl (h : PlanHead) (coils : List (Int × Nat)) :
    h.totals coils = coils.foldl h.addCoil ⟨(h.eK : Int), (h.eA : Int), (h.eK : Int) + (h.eA : Int)⟩ :=
  rfl

theorem foldl_addCoil (h : PlanHead) (coils : List (Int × Nat)) (t : Totals) :
    coils.foldl h.addCoil t =
      { k := t.k + (coils.map fun e => e.1 - rearShare e.1 e.2 h.length).sum
        a := t.a + (coils.map fun e => rearShare e.1 e.2 h.length).sum
        gross := t.gross + (coils.map (·.1)).sum } := by
  induction coils generalizing t with
  | nil => simp
  | cons e rest ih => simp [ih, addCoil, add_assoc]

theorem totals_eq (h : PlanHead) (coils : List (Int × Nat)) :
    h.totals coils =
      { k := (h.eK : Int) + (coils.map fun e => e.1 - rearShare e.1 e.2 h.length).sum
        a := (h.eA : Int) + (coils.map fun e => rearShare e.1 e.2 h.length).sum
        gross := (h.eK : Int) + (h.eA : Int) + (coils.map (·.1)).sum } := by
  rw [totals_eq_foldl, foldl_addCoil]

/-- Each weight is its front share and its rear share, so the sum of the weights is that of the shares. -/
theorem totals_gross (h : PlanHead) (coils : List (Int × Nat)) :
    (h.totals coils).gross = (h.totals coils).k + (h.totals coils).a := by
  have hshares : (coils.map (·.1)).sum =
      (coils.map fun e => e.1 - rearShare e.1 e.2 h.length).sum +
        (coils.map fun e => rearShare e.1 e.2 h.length).sum := by
    simp [← List.sum_map_add]
  rw [totals_eq, hshares]
  exact add_add_add_comm _ _ _ _

/-! ## The limits (R157, R158) -/

section Limits

variable {h : PlanHead} {t : Totals}

theorem limitPassed_of_k (hk : (h.kLim : Int) < t.k) : h.limitPassed t = some 1 :=
  if_pos hk

theorem limitPassed_of_a (hk : t.k ≤ (h.kLim : Int)) (ha : (h.aLim : Int) < t.a) :
    h.limitPassed t = some 2 := by
  rw [limitPassed, if_neg hk.not_gt, if_pos ha]

theorem limitPassed_of_gross (hk : t.k ≤ (h.kLim : Int)) (ha : t.a ≤ (h.aLim : Int))
    (hg : (h.gLim : Int) < t.gross) : h.limitPassed t = some 3 := by
  rw [limitPassed, if_neg hk.not_gt, if_neg ha.not_gt, if_pos hg]

theorem limitPassed_of_within (hk : t.k ≤ (h.kLim : Int)) (ha : t.a ≤ (h.aLim : Int))
    (hg : t.gross ≤ (h.gLim : Int)) : h.limitPassed t = none := by
  rw [limitPassed, if_neg hk.not_gt, if_neg ha.not_gt, if_neg hg.not_gt]

theorem limitPassed_eq_none_iff : h.limitPassed t = none ↔
    t.k ≤ (h.kLim : Int) ∧ t.a ≤ (h.aLim : Int) ∧ t.gross ≤ (h.gLim : Int) := by
  refine ⟨fun hnone => ?_, fun ⟨hk, ha, hg⟩ => limitPassed_of_within hk ha hg⟩
  have hk : t.k ≤ (h.kLim : Int) := by
    by_contra hk
    simp [limitPassed_of_k (not_le.1 hk)] at hnone
  have ha : t.a ≤ (h.aLim : Int) := by
    by_contra ha
    simp [limitPassed_of_a hk (not_le.1 ha)] at hnone
  refine ⟨hk, ha, ?_⟩
  by_contra hg
  simp [limitPassed_of_gross hk ha (not_le.1 hg)] at hnone

theorem within_iff {coils : List (Int × Nat)} : h.within coils = true ↔
    (h.totals coils).k ≤ (h.kLim : Int) ∧ (h.totals coils).a ≤ (h.aLim : Int) ∧
      (h.totals coils).gross ≤ (h.gLim : Int) :=
  Option.isNone_iff_eq_none.trans limitPassed_eq_none_iff

end Limits

end PlanHead

end Sys2Proof.Machine
end

section
/-! SUPPORT. The statement about axle shares, totals and limits, settled. -/

namespace Sys2Proof

open Machine

/-- Settles O51: the share's rounding and range, the totals as sums, and the limits in their order. -/
theorem axleShares : Obligations.AxleShares := by
  refine ⟨fun m c length hlen => ?share, fun h coils => ⟨h.totals_eq coils, h.totals_gross coils⟩,
    fun h coils => PlanHead.within_iff, fun h t => ⟨PlanHead.limitPassed_eq_none_iff,
      PlanHead.limitPassed_of_k, PlanHead.limitPassed_of_a, PlanHead.limitPassed_of_gross⟩⟩
  case share =>
    obtain ⟨hlower, hupper⟩ := rearShare_bounds m c hlen
    exact ⟨hlower, hupper, fun hm hc => ⟨rearShare_nonneg hm, rearShare_le hlen hm hc⟩⟩

end Sys2Proof
end

section
/-! SUPPORT. What the three invariants read of each unit, and what an update may do to it: the update keeps
the stage, the keys of the slot table and the ids in the queues, adds no record, and stays within the limits. -/

namespace Sys2Proof.Machine

/-! ## What an update keeps of each piece -/

/-- No record appears where there was none. -/
def Quad.NoneKept {α : Type} (q r : Quad (Option α)) : Prop := ∀ i, q.get i = none → r.get i = none

def Duo.NoneKept {α : Type} (q r : Duo (Option α)) : Prop := ∀ i, q.get i = none → r.get i = none

namespace Quad.NoneKept

variable {α : Type} {q r s : Quad (Option α)}

theorem refl (q : Quad (Option α)) : q.NoneKept q := fun _ h => h

theorem trans (hqr : q.NoneKept r) (hrs : r.NoneKept s) : q.NoneKept s := fun i h => hrs i (hqr i h)

theorem modify (q : Quad (Option α)) (i : Num4) (f : α → α) : q.NoneKept (q.modify i (Option.map f)) := by
  intro j hj
  rw [Quad.modify, Quad.get_set]
  split
  next h => subst h; simp [hj]
  next => exact hj

theorem set_none (q : Quad (Option α)) (i : Num4) : q.NoneKept (q.set i none) := by
  intro j hj
  rw [Quad.get_set]
  split
  next => rfl
  next => exact hj

theorem set_of_some {i : Num4} {v : α} (h : q.get i = some v) (w : Option α) : q.NoneKept (q.set i w) := by
  intro j hj
  rw [Quad.get_set_ne q w (fun e => by simp [e, h] at hj)]
  exact hj

end Quad.NoneKept

namespace Duo.NoneKept

variable {α : Type} {q r s : Duo (Option α)}

theorem refl (q : Duo (Option α)) : q.NoneKept q := fun _ h => h

theorem trans (hqr : q.NoneKept r) (hrs : r.NoneKept s) : q.NoneKept s := fun i h => hrs i (hqr i h)

theorem set_of_some {i : RunwayId} {v : α} (h : q.get i = some v) (w : Option α) :
    q.NoneKept (q.set i w) := by
  intro j hj
  rw [Duo.get_set_ne q w (fun e => by simp [e, h] at hj)]
  exact hj

end Duo.NoneKept

/-- The window of a hoist, where there is one, holds no more than eight samples (R104). -/
def WindowFits (o : Option Hoist) : Prop := ∀ h, o = some h → h.window.length ≤ Config.windowMax

/-- The plan of a bay, where it has one, holds no more than six entries (R152). -/
def Bay.PlanFits (y : Bay) : Prop := ∀ p, y.plan = some p → p.entries.length ≤ Config.planMax

/-! ## What an update keeps of each unit -/

structure Lsu.Kept (u v : Lsu) : Prop where
  stage : v.stage = u.stage
  shadow : u.shadow.NoneKept v.shadow

structure Smu.Kept (u v : Smu) : Prop where
  slots : v.slots.map (·.1) = u.slots.map (·.1)
  coils : (v.coils.map (·.1)).Sublist (u.coils.map (·.1))

structure Tcu.Kept (u v : Tcu) : Prop where
  queues : ∀ c, ((v.queues.get c).map (·.id)).Sublist ((u.queues.get c).map (·.id))
  mismatches : u.mismatches ≤ Config.counterMax → v.mismatches ≤ Config.counterMax

def PortsKept (p q : Quad Port) : Prop :=
  ∀ c, (p.get c).errors ≤ Config.counterMax → (q.get c).errors ≤ Config.counterMax

structure HoistsKept (q r : Quad (Option Hoist)) : Prop where
  none : q.NoneKept r
  window : ∀ c, WindowFits (q.get c) → WindowFits (r.get c)

structure Rcu.Kept (u v : Rcu) : Prop where
  cranes : u.cranes.NoneKept v.cranes
  views : u.views.NoneKept v.views
  zones : u.zones.NoneKept v.zones

structure Bcu.Kept (u v : Bcu) : Prop where
  bays : u.bays.NoneKept v.bays
  plans : (∀ b y, u.bays.get b = some y → y.PlanFits) → ∀ b y, v.bays.get b = some y → y.PlanFits
  build : v.build = u.build ∨ v.build = none

structure Fnu.Kept (u v : Fnu) : Prop where
  notices : u.notices.length ≤ Config.noticeMax → v.notices.length ≤ Config.noticeMax
  lost : u.lost ≤ Config.counterMax → v.lost ≤ Config.counterMax

structure Hlu.Kept (u v : Hlu) : Prop where
  inbound : u.inbound.length ≤ Config.inboundMax → v.inbound.length ≤ Config.inboundMax
  frameErrors : u.frameErrors ≤ Config.counterMax → v.frameErrors ≤ Config.counterMax
  overruns : u.overruns ≤ Config.counterMax → v.overruns ≤ Config.counterMax

theorem Lsu.Kept.refl (u : Lsu) : u.Kept u := ⟨rfl, .refl _⟩
theorem Lsu.Kept.trans {u v w : Lsu} (h : u.Kept v) (h' : v.Kept w) : u.Kept w :=
  ⟨h'.stage.trans h.stage, h.shadow.trans h'.shadow⟩

theorem Smu.Kept.refl (u : Smu) : u.Kept u := ⟨rfl, List.Sublist.refl _⟩
theorem Smu.Kept.trans {u v w : Smu} (h : u.Kept v) (h' : v.Kept w) : u.Kept w :=
  ⟨h'.slots.trans h.slots, h'.coils.trans h.coils⟩

theorem Tcu.Kept.refl (u : Tcu) : u.Kept u := ⟨fun _ => List.Sublist.refl _, id⟩
theorem Tcu.Kept.trans {u v w : Tcu} (h : u.Kept v) (h' : v.Kept w) : u.Kept w :=
  ⟨fun c => (h'.queues c).trans (h.queues c), h'.mismatches ∘ h.mismatches⟩

theorem PortsKept.refl (p : Quad Port) : PortsKept p p := fun _ h => h
theorem PortsKept.trans {p q r : Quad Port} (h : PortsKept p q) (h' : PortsKept q r) : PortsKept p r :=
  fun c => h' c ∘ h c

theorem HoistsKept.refl (q : Quad (Option Hoist)) : HoistsKept q q := ⟨.refl _, fun _ h => h⟩
theorem HoistsKept.trans {q r s : Quad (Option Hoist)} (h : HoistsKept q r) (h' : HoistsKept r s) :
    HoistsKept q s :=
  ⟨h.none.trans h'.none, fun c => h'.window c ∘ h.window c⟩

theorem Rcu.Kept.refl (u : Rcu) : u.Kept u := ⟨.refl _, .refl _, .refl _⟩
theorem Rcu.Kept.trans {u v w : Rcu} (h : u.Kept v) (h' : v.Kept w) : u.Kept w :=
  ⟨h.cranes.trans h'.cranes, h.views.trans h'.views, h.zones.trans h'.zones⟩

theorem Bcu.Kept.refl (u : Bcu) : u.Kept u := ⟨.refl _, id, .inl rfl⟩
theorem Bcu.Kept.trans {u v w : Bcu} (h : u.Kept v) (h' : v.Kept w) : u.Kept w where
  bays := h.bays.trans h'.bays
  plans := h'.plans ∘ h.plans
  build := h'.build.elim (fun e => e ▸ h.build) .inr

theorem Fnu.Kept.refl (u : Fnu) : u.Kept u := ⟨id, id⟩
theorem Fnu.Kept.trans {u v w : Fnu} (h : u.Kept v) (h' : v.Kept w) : u.Kept w :=
  ⟨h'.notices ∘ h.notices, h'.lost ∘ h.lost⟩

theorem Hlu.Kept.refl (u : Hlu) : u.Kept u := ⟨id, id, id⟩
theorem Hlu.Kept.trans {u v w : Hlu} (h : u.Kept v) (h' : v.Kept w) : u.Kept w :=
  ⟨h'.inbound ∘ h.inbound, h'.frameErrors ∘ h.frameErrors, h'.overruns ∘ h.overruns⟩

/-! ## What an update keeps of the state -/

/-- An update that keeps what the three invariants read of every unit. -/
structure State.Mild (s t : State) : Prop where
  lsu : s.lsu.Kept t.lsu
  smu : s.smu.Kept t.smu
  tcu : s.tcu.Kept t.tcu
  links : s.links.NoneKept t.links
  ports : PortsKept s.ports t.ports
  hoists : HoistsKept s.hoists t.hoists
  rcu : s.rcu.Kept t.rcu
  bcu : s.bcu.Kept t.bcu
  fnu : s.fnu.Kept t.fnu
  hlu : s.hlu.Kept t.hlu

namespace State.Mild

theorem refl (s : State) : s.Mild s :=
  ⟨.refl _, .refl _, .refl _, .refl _, .refl _, .refl _, .refl _, .refl _, .refl _, .refl _⟩

theorem trans {s t u : State} (h : s.Mild t) (h' : t.Mild u) : s.Mild u :=
  ⟨h.lsu.trans h'.lsu, h.smu.trans h'.smu, h.tcu.trans h'.tcu, h.links.trans h'.links,
    h.ports.trans h'.ports, h.hoists.trans h'.hoists, h.rcu.trans h'.rcu, h.bcu.trans h'.bcu,
    h.fnu.trans h'.fnu, h.hlu.trans h'.hlu⟩

theorem foldl {α : Type} {f : State → α → State} (h : ∀ (s : State) a, s.Mild (f s a)) (l : List α) (s : State) :
    s.Mild (l.foldl f s) := by
  induction l generalizing s with
  | nil => exact .refl s
  | cons a l ih => exact (h s a).trans (ih _)

end State.Mild

/-! ## The writes of one part -/

section Writes

variable (s : State)

theorem State.setNow_mild (n : Nat) : s.Mild (s.setNow n) := { State.Mild.refl s with }
theorem State.reach_mild (n : Nat) : s.Mild (s.reach n) := s.setNow_mild _
theorem State.setPending_mild (q : List Instr) : s.Mild (s.setPending q) := { State.Mild.refl s with }
theorem State.setDio_mild (u : Dio) : s.Mild (s.setDio u) := { State.Mild.refl s with }

variable {s}

theorem State.setLsu_mild {u : Lsu} (h : s.lsu.Kept u) : s.Mild (s.setLsu u) :=
  { State.Mild.refl s with lsu := h }
theorem State.setSmu_mild {u : Smu} (h : s.smu.Kept u) : s.Mild (s.setSmu u) :=
  { State.Mild.refl s with smu := h }
theorem State.setTcu_mild {u : Tcu} (h : s.tcu.Kept u) : s.Mild (s.setTcu u) :=
  { State.Mild.refl s with tcu := h }
theorem State.setPorts_mild {u : Quad Port} (h : PortsKept s.ports u) : s.Mild (s.setPorts u) :=
  { State.Mild.refl s with ports := h }
theorem State.setRcu_mild {u : Rcu} (h : s.rcu.Kept u) : s.Mild (s.setRcu u) :=
  { State.Mild.refl s with rcu := h }
theorem State.setBcu_mild {u : Bcu} (h : s.bcu.Kept u) : s.Mild (s.setBcu u) :=
  { State.Mild.refl s with bcu := h }
theorem State.setFnu_mild {u : Fnu} (h : s.fnu.Kept u) : s.Mild (s.setFnu u) :=
  { State.Mild.refl s with fnu := h }
theorem State.setHlu_mild {u : Hlu} (h : s.hlu.Kept u) : s.Mild (s.setHlu u) :=
  { State.Mild.refl s with hlu := h }

theorem State.modLink_mild (c : CraneId) (f : CraneLink → CraneLink) : s.Mild (s.modLink c f) :=
  { State.Mild.refl s with links := .modify _ _ _ }

theorem State.modCrane_mild (c : CraneId) (f : RcuCrane → RcuCrane) : s.Mild (s.modCrane c f) :=
  State.setRcu_mild ⟨.modify _ _ _, .refl _, .refl _⟩

theorem State.modHoist_mild (c : CraneId) {f : Hoist → Hoist}
    (hf : ∀ h, h.window.length ≤ Config.windowMax → (f h).window.length ≤ Config.windowMax) :
    s.Mild (s.modHoist c f) := by
  refine { State.Mild.refl s with hoists := ⟨.modify _ _ _, fun d hd => ?_⟩ }
  simp only [State.hoists_modHoist, Quad.modify, Quad.get_set]
  split
  next hdc =>
    intro h' hh'
    obtain ⟨h, hh, rfl⟩ := Option.map_eq_some_iff.1 hh'
    exact hf h (hd h (hdc ▸ hh))
  next => exact hd

/-- A bay's record changed, its plan still within its capacity. -/
theorem State.modBay_mild (b : BayId) {f : Bay → Bay}
    (hf : ∀ y, s.bcu.bays.get b = some y → y.PlanFits → (f y).PlanFits) : s.Mild (s.modBay b f) := by
  refine State.setBcu_mild ⟨.modify _ _ _, fun hp d y' hy' => ?_, .inl rfl⟩
  simp only [Quad.modify, Quad.get_set] at hy'
  split at hy'
  next =>
    obtain ⟨y, hy, rfl⟩ := Option.map_eq_some_iff.1 hy'
    exact hf y hy (hp b y hy)
  next => exact hp d y' hy'

theorem State.modPort_mild (c : CraneId) {f : Port → Port}
    (hf : ∀ p, p.errors ≤ Config.counterMax → (f p).errors ≤ Config.counterMax) : s.Mild (s.modPort c f) := by
  refine State.setPorts_mild fun d hd => ?_
  simp only [Quad.modify, Quad.get_set]
  split
  next hdc => exact hf _ (hdc ▸ hd)
  next => exact hd

theorem State.setQueue_mild (c : CraneId) {q : List Task}
    (hq : (q.map (·.id)).Sublist ((s.tcu.queues.get c).map (·.id))) : s.Mild (s.setQueue c q) := by
  refine State.setTcu_mild ⟨fun d => ?_, id⟩
  simp only [Quad.get_set]
  split
  next hdc => exact hdc ▸ hq
  next => exact List.Sublist.refl _

end Writes

end Sys2Proof.Machine
end

section
/-! SUPPORT. The shared operations of the units are such updates: one lemma each, in the order of the
definitions. -/

namespace Sys2Proof.Machine

/-! ## Limits and tables -/

theorem bump_le (n : Nat) : bump n ≤ Config.counterMax := by
  rw [bump_eq_min]
  exact Nat.min_le_right _ _

theorem bumpBy_le (n k : Nat) : bumpBy n k ≤ Config.counterMax := Nat.min_le_right _ _

theorem joinWindow_length_le (w : List Int) (r : Int) : (joinWindow w r).length ≤ Config.windowMax := by
  simp only [joinWindow, List.length_drop, List.length_append, List.length_singleton]
  omega

theorem Table.keys_modify {α : Type} (k : Nat) (f : α → α) (t : List (Nat × α)) :
    (Table.modify k f t).map (·.1) = t.map (·.1) := by
  rw [Table.modify, List.map_map]
  refine List.map_congr_left fun e _ => ?_
  simp only [Function.comp_apply]
  split <;> rfl

/-! ## Flags and notices -/

theorem Fnu.offer_kept (u : Fnu) (n : Notice) : u.Kept (u.offer n) := by
  unfold Fnu.offer
  split
  next h => exact ⟨fun _ => by simpa using h, id⟩
  next => exact ⟨id, fun _ => bump_le _⟩

theorem Fnu.setFlag_kept (u : Fnu) (f : FlagId) (v : Flag) : u.Kept (u.setFlag f v) := ⟨id, id⟩

theorem Fnu.raise_kept (u : Fnu) (f : FlagId) : u.Kept (u.raise f) := by
  unfold Fnu.raise
  split
  · exact u.setFlag_kept f _
  · exact (u.setFlag_kept f _).trans (Fnu.offer_kept _ _)

theorem Fnu.endCond_kept (u : Fnu) (m : LatchMode) (f : FlagId) : u.Kept (u.endCond m f) := by
  cases m <;> exact u.setFlag_kept f _

section Flags

variable (s : State)

theorem State.notify_mild (n : Notice) : s.Mild (s.notify n) := State.setFnu_mild (s.fnu.offer_kept n)

theorem State.raise_mild (f : FlagId) : s.Mild (s.raise f) :=
  (State.setFnu_mild (s.fnu.raise_kept f)).trans (State.setDio_mild _ _)

theorem State.endCond_mild (f : FlagId) : s.Mild (s.endCond f) :=
  (State.setFnu_mild (s.fnu.endCond_kept _ f)).trans (State.setDio_mild _ _)

theorem State.clearFlag_mild (f : FlagId) : s.Mild (s.clearFlag f) :=
  (State.setFnu_mild (s.fnu.setFlag_kept f _)).trans (State.setDio_mild _ _)

theorem State.report_mild (f : FlagId) (was is : Bool) : s.Mild (s.report f was is) := by
  unfold State.report
  split
  · exact s.raise_mild f
  · split
    · exact s.endCond_mild f
    · exact .refl s

/-! ## Records and evaluations -/

theorem Port.send_errors (p : Port) (now : Nat) (r : CommandRec) : (p.send now r).errors = p.errors := by
  unfold Port.send
  split <;> rfl

theorem Port.finish_errors (p : Port) (now : Nat) : (p.finish now).errors = p.errors := by
  unfold Port.finish
  split <;> rfl

theorem State.sendRecord_mild (c : CraneId) (r : CommandRec) : s.Mild (s.sendRecord c r) :=
  State.modPort_mild c fun p h => by rwa [p.send_errors]

theorem State.evalCrane_mild (c : CraneId) : s.Mild (s.evalCrane c) := State.modCrane_mild c _

theorem State.sendDowngrade_mild (c : CraneId) : s.Mild (s.sendDowngrade c) := by
  unfold State.sendDowngrade
  split
  · exact .refl s
  · dsimp only
    split
    · exact s.sendRecord_mild c _
    · exact .refl s

theorem State.evaluate_mild (c : CraneId) : s.Mild (s.evaluate c) :=
  (s.evalCrane_mild c).trans (State.sendDowngrade_mild _ c)

theorem State.evaluateAll_mild (cs : List CraneId) : s.Mild (s.evaluateAll cs) :=
  .foldl State.evaluate_mild cs s

theorem State.evaluateRunway_mild (r : RunwayId) : s.Mild (s.evaluateRunway r) := s.evaluateAll_mild _

theorem State.evaluateYard_mild : s.Mild s.evaluateYard :=
  (s.evaluateRunway_mild .a).trans (State.evaluateRunway_mild _ .b)

/-! ## Bays and plans -/

theorem State.followIntrusion_mild (b : BayId) : s.Mild (s.followIntrusion b) := by
  unfold State.followIntrusion
  split
  · exact .refl s
  · refine .trans ?_ (State.report_mild _ _ _ _)
    exact State.modBay_mild b fun _ _ h => h

theorem State.setBayState_mild (b : BayId) (v : BayState) : s.Mild (s.setBayState b v) := by
  unfold State.setBayState
  split
  · exact .refl s
  · split
    · exact .refl s
    · refine .trans (.trans ?_ (State.notify_mild _ _)) (State.followIntrusion_mild _ b)
      exact State.modBay_mild b fun _ _ h => h

theorem State.followSecure_mild (b : BayId) : s.Mild (s.followSecure b) := by
  unfold State.followSecure
  split
  · exact .refl s
  · split
    · split
      · exact s.setBayState_mild b _
      · exact .refl s
    · split
      · exact .refl s
      · exact s.setBayState_mild b _
    · exact s.followIntrusion_mild b
    · exact .refl s
    · exact .refl s

theorem State.reportZone_mild (b : BayId) : s.Mild (s.reportZone b) := by
  unfold State.reportZone
  split
  next hz _ =>
    split
    · exact .refl s
    · refine .trans ?_ (State.evaluateRunway_mild _ _)
      exact State.setRcu_mild ⟨.refl _, .refl _, .set_of_some hz _⟩
  next => exact .refl s

theorem State.bayDerived_mild (b : BayId) : s.Mild (s.bayDerived b) :=
  (s.reportZone_mild b).trans (State.followSecure_mild _ b)

theorem State.notifyInputs_mild (b : BayId) (y : Bay) : s.Mild (s.notifyInputs b y) := s.notify_mild _

theorem State.bayEvent_mild (b : BayId) (i : BayInputs) : s.Mild (s.bayEvent b i) := by
  unfold State.bayEvent
  split
  · exact .refl s
  next y hy =>
    have hset : s.Mild (s.modBay b fun _ => (y.atInputs i).1) := by
      refine State.modBay_mild b fun x hx hfit => ?_
      obtain rfl : y = x := Option.some.inj (hy.symm.trans hx)
      exact hfit
    dsimp only
    split
    · exact (hset.trans (State.notifyInputs_mild _ b _)).trans (State.bayDerived_mild _ b)
    · exact hset.trans (State.bayDerived_mild _ b)

theorem State.trailExpire_mild (b : BayId) : s.Mild (s.trailExpire b) := by
  have hset : s.Mild (s.modBay b fun y => { y with trail := none }) := State.modBay_mild b fun _ _ h => h
  unfold State.trailExpire
  dsimp only
  split
  · exact hset
  · split_ifs
    · exact hset
    all_goals exact hset.trans (State.setBayState_mild _ b _)

theorem State.workStart_mild (b : BayId) (id : Nat) : s.Mild (s.workStart b id) := by
  unfold State.workStart
  split
  · exact .refl s
  · split
    · exact .refl s
    · have hset : s.Mild (s.modBay b fun y => { y with work := y.work ++ [id], trail := none }) :=
        State.modBay_mild b fun _ _ h => h
      dsimp only
      split
      · exact hset.trans (State.setBayState_mild _ b _)
      · exact hset.trans (State.setBayState_mild _ b _)
      · exact hset
      · exact hset
      · exact hset

theorem State.workStop_mild (b : BayId) (id : Nat) : s.Mild (s.workStop b id) := by
  unfold State.workStop
  split
  · exact .refl s
  next y _ =>
    split
    · exact .refl s
    · have hset : s.Mild (s.modBay b fun z => { z with work := y.work.filter (· != id) }) :=
        State.modBay_mild b fun _ _ h => h
      dsimp only
      split
      · exact hset
      · split
        · exact hset.trans (State.trailExpire_mild _ b)
        · exact hset.trans (State.modBay_mild b fun _ _ h => h)

theorem State.workStartAll_mild (t : Task) : s.Mild (s.workStartAll t) :=
  .foldl (fun u b => u.workStart_mild b t.id) _ s

theorem State.workStopAll_mild (t : Task) : s.Mild (s.workStopAll t) :=
  .foldl (fun u b => u.workStop_mild b t.id) _ s

/-- A plan changed without more entries. -/
theorem State.modPlan_mild (b : BayId) {f : Plan → Plan} (hf : ∀ p, (f p).entries.length ≤ p.entries.length) :
    s.Mild (s.modPlan b f) := by
  refine State.modBay_mild b fun y _ hfit p' hp' => ?_
  obtain ⟨p, hp, rfl⟩ := Option.map_eq_some_iff.1 hp'
  exact (hf p).trans (hfit p hp)

theorem State.entryAt_mild (p : Place) (k : Nat) (x y : EntryStatus) : s.Mild (s.entryAt p k x y) := by
  cases p with
  | slot i => exact .refl s
  | cradle b n => exact s.modPlan_mild b fun p => by simp [Plan.change]

theorem State.entryTo_mild (d : Dest) (k : Nat) (x y : EntryStatus) : s.Mild (s.entryTo d k x y) := by
  cases d with
  | auto => exact .refl s
  | place p => exact s.entryAt_mild p k x y

theorem Smu.kept_of_filter (u : Smu) (f : Nat × Coil → Bool) :
    u.Kept { u with coils := u.coils.filter f } := ⟨rfl, List.filter_sublist.map _⟩

theorem State.discardBuild_mild : s.Mild s.discardBuild := by
  unfold State.discardBuild
  split
  · exact .refl s
  · exact (State.setSmu_mild (s.smu.kept_of_filter _)).trans (State.setBcu_mild ⟨.refl _, id, .inr rfl⟩)

/-! ## Weighing -/

theorem State.reportConds_mild (c : CraneId) (x y : FreezeConds) : s.Mild (s.reportConds c x y) :=
  ((s.report_mild _ _ _).trans (State.report_mild _ _ _ _)).trans (State.report_mild _ _ _ _)

theorem State.weighFreeze_mild (c : CraneId) (p : ParamSet) (g : Bool) : s.Mild (s.weighFreeze c p g) := by
  unfold State.weighFreeze
  split
  · exact .refl s
  · extract_lets conds onsets cold frozen freezes s1 s2
    have hset : s.Mild s2 := by
      refine .trans ?_ (State.reportConds_mild _ c _ _)
      exact State.modHoist_mild c fun _ h => h
    split
    · exact hset.trans (State.notify_mild _ _)
    · exact hset

theorem State.takeZero_mild (c : CraneId) (h : Hoist) (x : ZeroCause) : s.Mild (s.takeZero c h x) := by
  refine .trans ?_ (State.notify_mild _ _)
  exact State.modHoist_mild c fun _ h => h

theorem State.autoZero_mild (c : CraneId) (p : ParamSet) (g : Bool) : s.Mild (s.autoZero c p g) := by
  unfold State.autoZero
  split
  · exact .refl s
  · dsimp only
    split
    · split
      · exact s.takeZero_mild c _ _
      · refine .trans ?_ (State.raise_mild _ _)
        exact State.modHoist_mild c fun _ h => h
    · exact .refl s

theorem State.weighArrive_mild (c : CraneId) (r : StatusRec) : s.Mild (s.weighArrive c r) := by
  unfold State.weighArrive
  split
  · exact .refl s
  · have hjoin : s.Mild (s.modHoist c fun h => { h with window := joinWindow h.window r.count }) :=
      State.modHoist_mild c fun _ _ => joinWindow_length_le _ _
    exact ((hjoin.trans (State.weighFreeze_mild _ c _ _)).trans (State.autoZero_mild _ c _ _)).trans
      (State.modHoist_mild c fun _ h => h)

theorem State.emptyWindow_mild (c : CraneId) : s.Mild (s.emptyWindow c) := by
  unfold State.emptyWindow
  split
  · exact .refl s
  · exact (State.modHoist_mild c fun _ _ => Nat.zero_le _).trans (State.reportConds_mild _ c _ _)

/-! ## Tasks -/

/-- A task that is written over keeps its id, so the ids of its queue stay. -/
theorem State.modTask_mild (c : CraneId) (id : Nat) {f : Task → Task} (hf : ∀ u, u.id = id → (f u).id = id) :
    s.Mild (s.modTask c id f) := by
  refine State.setQueue_mild c ?_
  have hids : ((s.tcu.queues.get c).map fun t => if t.id = id then f t else t).map (·.id) =
      (s.tcu.queues.get c).map (·.id) := by
    rw [List.map_map]
    refine List.map_congr_left fun u _ => ?_
    simp only [Function.comp_apply]
    split
    next h => rw [hf u h, h]
    next => rfl
  rw [hids]

theorem State.putTask_mild (c : CraneId) (t : Task) : s.Mild (s.putTask c t) :=
  s.modTask_mild c t.id fun _ _ => rfl

theorem State.advance_mild (c : CraneId) (t : Task) : s.Mild (s.advance c t) :=
  (s.putTask_mild c t).trans (State.notify_mild _ _)

theorem State.holdTask_mild (c : CraneId) (t : Task) (w : HoldReason) (p : Phase) (o : Option Int) :
    s.Mild (s.holdTask c t w p o) := s.advance_mild c _

theorem State.holdInFlight_mild (c : CraneId) (w : HoldReason) : s.Mild (s.holdInFlight c w) := by
  unfold State.holdInFlight
  split
  · exact .refl s
  · split
    · exact .refl s
    · exact s.holdTask_mild c _ _ _ _

theorem State.exitCarry_mild (c : CraneId) (t : Task) : s.Mild (s.exitCarry c t) := s.advance_mild c _

theorem State.exitPredict_mild (c : CraneId) (t : Task) : s.Mild (s.exitPredict c t) := by
  unfold State.exitPredict
  split
  · exact s.exitCarry_mild c t
  · exact s.holdTask_mild c t _ _ _

end Flags

namespace Smu

variable (u : Smu)

theorem kept_of_modifySlot (i : Nat) (f : Slot → Slot) :
    u.Kept { u with slots := Table.modify i f u.slots } :=
  ⟨Table.keys_modify i f u.slots, List.Sublist.refl _⟩

theorem modCoil_kept (id : Nat) (f : Coil → Coil) : u.Kept (u.modCoil id f) :=
  ⟨rfl, by rw [Smu.modCoil, Table.keys_modify]⟩

theorem grantSource_kept (task : Nat) (p : Place) : u.Kept (u.grantSource task p) := by
  cases p with
  | slot i => exact u.kept_of_modifySlot i _
  | cradle b n => exact .refl u

theorem grantDest_kept (task : Nat) (d : Dest) : u.Kept (u.grantDest task d) := by
  rcases d with _ | ⟨i⟩ | ⟨b, n⟩
  · exact .refl u
  · exact u.kept_of_modifySlot i _
  · exact .refl u

theorem releaseSource_kept (task : Nat) (p : Place) : u.Kept (u.releaseSource task p) := by
  cases p with
  | slot i => exact u.kept_of_modifySlot i _
  | cradle b n => exact .refl u

theorem releaseDest_kept (task : Nat) (d : Dest) : u.Kept (u.releaseDest task d) := by
  rcases d with _ | ⟨i⟩ | ⟨b, n⟩
  · exact .refl u
  · exact u.kept_of_modifySlot i _
  · exact .refl u

theorem lift_kept (t : Task) (c : CraneId) : u.Kept (u.lift t c) := by
  have hcoil := u.modCoil_kept t.coil fun k => { k with location := .hook c }
  unfold Smu.lift
  split
  · exact hcoil.trans (kept_of_modifySlot _ _ _)
  · exact hcoil

theorem putDown_kept (t : Task) : u.Kept (u.putDown t) := by
  unfold Smu.putDown
  refine .trans (.trans ?_ (releaseSource_kept _ _ _)) (releaseDest_kept _ _ _)
  split
  · exact (u.modCoil_kept t.coil _).trans (kept_of_modifySlot _ _ _)
  · exact u.modCoil_kept t.coil _
  · exact u.modCoil_kept t.coil _

theorem setPlan_kept (ids : List Nat) (p : Option BayId) : u.Kept (u.setPlan ids p) := by
  refine ⟨rfl, ?_⟩
  have hkeys : (u.setPlan ids p).coils.map (·.1) = u.coils.map (·.1) := by
    rw [Smu.setPlan, List.map_map]
    refine List.map_congr_left fun e _ => ?_
    simp only [Function.comp_apply]
    split <;> rfl
  rw [hkeys]

end Smu

section Tasks

variable (s : State) (c : CraneId) (t : Task)

theorem State.grantChoice_mild (i : Nat) : s.Mild (s.grantChoice c t i) :=
  (State.setSmu_mild (s.smu.grantDest_kept _ _)).trans (State.exitPredict_mild _ c _)

theorem State.exitSelect_mild : s.Mild (s.exitSelect c t) := by
  unfold State.exitSelect
  split
  · exact s.exitPredict_mild c t
  · split
    · exact s.grantChoice_mild c t _
    · exact s.holdTask_mild c t _ _ _

theorem State.weighExit_mild (w : Option Int) : s.Mild (s.weighExit c t w) :=
  (State.setSmu_mild (s.smu.modCoil_kept _ _)).trans (State.exitSelect_mild _ c t)

theorem State.arrivedPick_mild (r : StatusRec) (x : Int) : s.Mild (s.arrivedPick c t r x) := by
  unfold State.arrivedPick
  split
  · exact s.advance_mild c _
  · exact s.holdTask_mild c t _ _ _

theorem State.lifted_mild : s.Mild (s.lifted c t) := by
  have hlift : s.Mild ((s.setSmu (s.smu.lift t c)).entryAt t.source t.coil .onTruck .removed) :=
    (State.setSmu_mild (s.smu.lift_kept t c)).trans (State.entryAt_mild _ _ _ _ _)
  unfold State.lifted
  dsimp only
  split
  · exact hlift.trans (State.weighExit_mild _ c t _)
  · exact hlift.trans (State.advance_mild _ c _)

theorem State.arrivedPlace_mild (r : StatusRec) (x : Int) : s.Mild (s.arrivedPlace c t r x) := by
  unfold State.arrivedPlace
  dsimp only
  split_ifs
  · exact s.holdTask_mild c t _ _ _
  · split
    · exact s.advance_mild c _
    · exact s.holdTask_mild c t _ _ _
    · exact s.holdTask_mild c t _ _ _

theorem State.recheckOrder_mild : s.Mild (s.recheckOrder c t) := by
  unfold State.recheckOrder
  split
  · exact s.advance_mild c _
  · exact .refl s
  · exact s.holdTask_mild c t _ _ _

theorem State.removeTask_mild (id : Nat) : s.Mild (s.removeTask c id) :=
  State.setQueue_mild c (List.filter_sublist.map _)

theorem Hoist.countDown_window (h : Hoist) : h.countDown.window = h.window := by
  unfold Hoist.countDown
  split <;> rfl

theorem State.released_mild : s.Mild (s.released c t) := by
  have hdown : s.Mild ((s.setSmu (s.smu.putDown t)).entryTo t.dest t.coil .claimed .placed) :=
    (State.setSmu_mild (s.smu.putDown_kept t)).trans (State.entryTo_mild _ _ _ _ _)
  have hcount : s.Mild ((((s.setSmu (s.smu.putDown t)).entryTo t.dest t.coil .claimed .placed).entryTo
      t.dest t.coil .removed .onTruck).modHoist c Hoist.countDown) :=
    (hdown.trans (State.entryTo_mild _ _ _ _ _)).trans
      (State.modHoist_mild c fun h hh => by rwa [h.countDown_window])
  exact ((hcount.trans (State.removeTask_mild _ c t.id)).trans (State.notify_mild _ _)).trans
    (State.workStopAll_mild _ t)

theorem State.actOnPhase_mild (r : StatusRec) (x : Int) : s.Mild (s.actOnPhase c t r x) := by
  unfold State.actOnPhase
  split
  · exact s.arrivedPick_mild c t r x
  · exact s.lifted_mild c t
  · exact s.arrivedPlace_mild c t r x
  · exact s.released_mild c t
  · exact .refl s
  · exact .refl s

theorem State.matchPhase_mild (r : StatusRec) (x : Int) : s.Mild (s.matchPhase c t r x) := by
  unfold State.matchPhase
  split
  · exact .refl s
  · exact s.putTask_mild c _
  · exact s.actOnPhase_mild c t r x
  · exact .refl s

theorem State.judgeWeight_mild (w : WeighResult) : s.Mild (s.judgeWeight c t w) := by
  unfold State.judgeWeight
  split
  · split
    · exact s.weighExit_mild c t _
    · exact s.holdTask_mild c t _ _ _
  · exact .refl s

theorem State.countMismatch_mild (r : StatusRec) : s.Mild (s.countMismatch t r) := by
  refine State.setTcu_mild ⟨fun _ => List.Sublist.refl _, fun h => ?_⟩
  dsimp only
  split
  · exact bump_le _
  · exact h

theorem State.taskActs_mild (r : StatusRec) (x : Int) (w : WeighResult) : s.Mild (s.taskActs c r x w) := by
  unfold State.taskActs
  split
  · exact .refl s
  next u _ =>
    have hcount := s.countMismatch_mild u r
    dsimp only
    split
    · split
      · exact hcount.trans (State.recheckOrder_mild _ c u)
      · exact hcount
    · split
      · exact hcount.trans (State.judgeWeight_mild _ c u w)
      · exact hcount.trans (State.matchPhase_mild _ c u r x)

theorem State.dispatch_mild : s.Mild (s.dispatch c) := by
  unfold State.dispatch
  split
  · exact .refl s
  · split
    · exact ((s.putTask_mild c _).trans (State.workStartAll_mild _ _)).trans (State.notify_mild _ _)
    · exact .refl s

theorem State.taskArrive_mild (r : StatusRec) (x : Int) (w : WeighResult) : s.Mild (s.taskArrive c r x w) :=
  (s.taskActs_mild c r x w).trans (State.dispatch_mild _ c)

theorem State.settleExpire_mild : s.Mild (s.settleExpire c t) := by
  unfold State.settleExpire
  split
  · exact s.weighExit_mild c t _
  · exact s.holdTask_mild c t _ _ _

end Tasks

/-! ## The crane link unit -/

section Links

variable (s : State) (c : CraneId)

theorem State.formPair_mild : s.Mild (s.formPair c) := s.modLink_mild c _

theorem State.testPairs_mild : s.Mild (s.testPairs c) := by
  unfold State.testPairs
  refine .trans ?_ (.foldl (fun u k => u.report_mild _ _ _) _ _)
  split
  · exact (s.formPair_mild c).trans (State.formPair_mild _ _)
  · exact s.formPair_mild c

theorem State.judgeOverspeed_mild (l : CraneLink) (v : Int) (b : Option Int) :
    s.Mild (s.judgeOverspeed c l v b) := by
  unfold State.judgeOverspeed
  split
  · exact .refl s
  · exact (s.modLink_mild c _).trans (State.report_mild _ _ _ _)

theorem State.linkArrive_mild (l : CraneLink) : s.Mild (s.linkArrive c l) := by
  unfold State.linkArrive
  dsimp only
  split
  · exact s.modLink_mild c _
  · exact (s.modLink_mild c _).trans (State.notify_mild _ _)
  · exact ((s.modLink_mild c _).trans (State.endCond_mild _ _)).trans (State.notify_mild _ _)

theorem State.swapArrive_mild (v : Int) : s.Mild (s.swapArrive c v) := by
  unfold State.swapArrive
  split
  · exact .refl s
  · split
    · refine .trans ?_ (State.notify_mild _ _)
      exact State.setLsu_mild ⟨rfl, .set_none _ _⟩
    · exact .refl s

theorem State.unreference_mild : s.Mild (s.unreference c) :=
  ((s.modLink_mild c _).trans (State.holdInFlight_mild _ c _)).trans (State.testPairs_mild _ c)

theorem State.jumpCheck_mild (l : CraneLink) (x : Int) : s.Mild (s.jumpCheck c l x) := by
  unfold State.jumpCheck
  split
  · split
    · dsimp only
      split
      · exact (s.raise_mild _).trans (State.unreference_mild _ c)
      · exact s.raise_mild _
    · exact .refl s
  · exact .refl s

theorem State.judgeDrive_mild (x y : Bool) : s.Mild (s.judgeDrive c x y) :=
  (s.modLink_mild c _).trans (State.report_mild _ _ _ _)

theorem State.trackArrive_mild (l : CraneLink) (r : StatusRec) : s.Mild (s.trackArrive c l r) := by
  unfold State.trackArrive
  refine .trans (.trans (.trans ?_ (State.modLink_mild c _)) (State.testPairs_mild _ c))
    (State.judgeDrive_mild _ c _ _)
  refine .trans (.trans ?_ (State.jumpCheck_mild _ c l _)) (State.judgeOverspeed_mild _ c l _ _)
  exact (s.linkArrive_mild c l).trans (State.swapArrive_mild _ c _)

theorem State.takeMotion_mild (r : StatusRec) (x : Int) : s.Mild (s.takeMotion c r x) := by
  unfold State.takeMotion
  split
  · exact .refl s
  · exact State.modCrane_mild c _

theorem State.answer_mild : s.Mild (s.answer c) := by
  unfold State.answer
  split
  · exact s.sendRecord_mild c _
  · exact .refl s

theorem State.collisionArrive_mild (r : StatusRec) (x : Int) (b : Bool) :
    s.Mild (s.collisionArrive c r x b) :=
  (((s.takeMotion_mild c r x).trans (State.evalCrane_mild _ c)).trans (State.evaluateAll_mild _ _)).trans
    (State.answer_mild _ c)

theorem State.arrive_mild (l : CraneLink) (r : StatusRec) : s.Mild (s.arrive c l r) :=
  (((s.trackArrive_mild c l r).trans (State.weighArrive_mild _ c r)).trans
    (State.taskArrive_mild _ c r _ _)).trans (State.collisionArrive_mild _ c r _ _)

theorem State.validRecord_mild (r : StatusRec) : s.Mild (s.validRecord c r) := by
  unfold State.validRecord
  split
  · exact s.sendRecord_mild c _
  · exact s.arrive_mild c _ r
  · exact s.arrive_mild c _ r
  · exact s.sendRecord_mild c _
  · exact s.sendRecord_mild c _

theorem State.freezeClaim_mild : s.Mild (s.freezeClaim c) := by
  unfold State.freezeClaim
  split
  · exact .refl s
  · exact State.modCrane_mild c _

theorem State.evaluateOf_mild : s.Mild (s.evaluateOf c) := by
  unfold State.evaluateOf
  split
  · exact s.evaluateRunway_mild _
  · exact .refl s

theorem State.loseLink_mild : s.Mild (s.loseLink c) := by
  unfold State.loseLink
  refine .trans (.trans (.trans (.trans (.trans ?_ (State.emptyWindow_mild _ c))
    (State.holdInFlight_mild _ c _)) (State.freezeClaim_mild _ c)) (State.evaluateOf_mild _ c))
    (State.notify_mild _ _)
  exact ((s.modLink_mild c _).trans (State.raise_mild _ _)).trans (State.testPairs_mild _ c)

theorem State.refEvent_mild : s.Mild (s.refEvent c) := by
  unfold State.refEvent
  split
  · split
    · dsimp only
      split
      · exact ((s.modLink_mild c _).trans (State.raise_mild _ _)).trans (State.notify_mild _ _)
      · exact (s.modLink_mild c _).trans (State.notify_mild _ _)
    · exact .refl s
  · exact .refl s

theorem State.estopEvent_mild (r : RunwayId) (v : Bool) : s.Mild (s.estopEvent r v) := by
  unfold State.estopEvent
  split
  · exact .refl s
  next hv =>
    refine .trans (.trans ?_ (State.report_mild _ _ _ _)) (State.evaluateRunway_mild _ r)
    exact State.setRcu_mild ⟨.refl _, .set_of_some hv _, .refl _⟩

theorem State.deliver_mild (old : Dio) : s.Mild (State.deliver old s) := by
  have href : ∀ (u : State) d, u.Mild (State.deliverRef old u d) := fun u d => by
    unfold State.deliverRef
    split
    · exact u.refEvent_mild d
    · exact .refl u
  have hestop : ∀ (u : State) r, u.Mild (State.deliverEstop old u r) := fun u r => by
    unfold State.deliverEstop
    split
    · exact .refl u
    · exact u.estopEvent_mild r _
  have hbay : ∀ (u : State) b, u.Mild (State.deliverBay old u b) := fun u b => by
    unfold State.deliverBay
    split
    · exact .refl u
    · exact u.bayEvent_mild b _
  unfold State.deliver
  split
  · exact .refl s
  · exact ((State.Mild.foldl href _ s).trans (.foldl hestop _ _)).trans (.foldl hbay _ _)

theorem State.lineTakes_mild (k : Fin 32) (l : Line) : s.Mild (s.lineTakes k l) :=
  (s.setDio_mild _).trans (State.deliver_mild _ _)

end Links

/-! ## The host link -/

section Host

variable (s : State)

theorem State.restartSilence_mild : s.Mild s.restartSilence := State.setHlu_mild ⟨id, id, id⟩

theorem State.endSilence_mild : s.Mild s.endSilence := by
  unfold State.endSilence
  split
  · refine .trans ?_ (State.endCond_mild _ _)
    exact State.setHlu_mild ⟨id, id, id⟩
  · exact .refl s

theorem State.validFrame_mild : s.Mild s.validFrame := s.endSilence_mild.trans (State.restartSilence_mild _)

theorem State.replyWith_mild (tag kind : Byte) (a : Answer) : s.Mild (s.replyWith tag kind a) :=
  State.setHlu_mild ⟨id, id, id⟩

theorem State.ackWhole_mild (r : Reply) : s.Mild (s.ackWhole r) := State.setHlu_mild ⟨id, id, id⟩

theorem State.takeFrame_mild {s s0 : State} {f : Frame} (h : s.takeFrame f = some s0) : s.Mild s0 := by
  unfold State.takeFrame at h
  split at h
  · simp at h
  · obtain rfl := Option.some.inj h
    exact s.validFrame_mild.trans (State.setHlu_mild ⟨id, id, id⟩)
  next hin =>
    split at h
    · obtain rfl := Option.some.inj h
      refine State.setHlu_mild ⟨fun hl => ?_, id, id⟩
      rw [hin] at hl
      exact (Nat.le_succ _).trans hl
    · simp at h

theorem Hlu.hear_kept (u : Hlu) (f : Fed RawFrame) : u.Kept (u.hear f) := ⟨id, fun _ => bumpBy_le _ _, id⟩

theorem Hlu.enqueue_kept (u : Hlu) (f : Frame) : u.Kept (u.enqueue f) := by
  unfold Hlu.enqueue
  split
  next h => exact ⟨fun _ => by simpa using h, id, id⟩
  next => exact ⟨id, id, fun _ => bump_le _⟩

theorem State.hearFrame_mild (f : Frame) (heard : Fed RawFrame) : s.Mild (s.hearFrame f heard) := by
  unfold State.hearFrame
  split
  · exact State.setHlu_mild (Hlu.hear_kept _ _)
  · split
    · exact s.validFrame_mild.trans (State.setHlu_mild ((Hlu.enqueue_kept _ _).trans (Hlu.hear_kept _ _)))
    · exact .refl s

theorem State.hearNoFrame_mild (heard : Fed RawFrame) : s.Mild (s.hearNoFrame heard) := by
  unfold State.hearNoFrame
  split
  · exact .refl s
  · exact State.setHlu_mild (Hlu.hear_kept _ _)

theorem State.startFrame_mild : s.Mild s.startFrame := by
  unfold State.startFrame
  split
  · exact State.setHlu_mild ⟨id, id, id⟩
  next hn =>
    refine .trans ?_ (State.setFnu_mild ⟨fun hl => ?_, id⟩)
    · exact State.setHlu_mild ⟨id, id, id⟩
    · rw [State.fnu_setHlu, hn] at hl
      exact (Nat.le_succ _).trans hl
  · exact .refl s

theorem Hlu.endFrame_kept (u : Hlu) : u.Kept u.endFrame := by
  unfold Hlu.endFrame
  split <;> exact ⟨id, id, id⟩

theorem State.hear_mild (c : CraneId) (heard : Fed StatusRec) : s.Mild (s.modPort c fun p => p.hear heard) :=
  State.modPort_mild c fun _ _ => bumpBy_le _ _

theorem State.hearNoRecord_mild (c : CraneId) (heard : Fed StatusRec) : s.Mild (s.hearNoRecord c heard) := by
  unfold State.hearNoRecord
  split
  · exact .refl s
  · exact s.hear_mild c heard

/-! ## The owners' operations -/

theorem State.clearFlags_mild (fs : List FlagId) : s.Mild (s.clearFlags fs) :=
  (State.Mild.foldl State.clearFlag_mild fs s).trans (State.evaluateAll_mild _ _)

theorem State.putSettings_mild (v : List (Setting × SettingValue)) : s.Mild (s.putSettings v) := by
  have hset : s.Mild (s.setLsu { s.lsu with
      settings := v.foldl (fun t p => t.put p.1 p.2) s.lsu.settings }) :=
    State.setLsu_mild ⟨rfl, .refl _⟩
  have hsilence : s.Mild (if s.lsu.settings.hostSilence =
      (v.foldl (fun t p => t.put p.1 p.2) s.lsu.settings).hostSilence then
        s.setLsu { s.lsu with settings := v.foldl (fun t p => t.put p.1 p.2) s.lsu.settings }
      else (s.setLsu { s.lsu with
        settings := v.foldl (fun t p => t.put p.1 p.2) s.lsu.settings }).restartSilence) := by
    split
    · exact hset
    · exact hset.trans (State.restartSilence_mild _)
  unfold State.putSettings
  dsimp only
  split
  · exact hsilence.trans (State.clearFlags_mild _ _)
  · exact hsilence

theorem State.cancelTask_mild (c : CraneId) (t : Task) : s.Mild (s.cancelTask c t) := by
  have hsmu : s.smu.Kept (((s.smu.releaseSource t.id t.source).releaseDest t.id t.dest).modCoil t.coil
      fun k => { k with task := none }) :=
    ((Smu.releaseSource_kept _ _ _).trans (Smu.releaseDest_kept _ _ _)).trans (Smu.modCoil_kept _ _ _)
  have htold := ((((State.setSmu_mild hsmu).trans
    (State.entryTo_mild _ t.dest t.coil .claimed .pending)).trans (State.removeTask_mild _ c t.id)).trans
    (State.notify_mild _ ({ t with hold := none }.notice c .cancelled)))
  unfold State.cancelTask
  dsimp only
  split_ifs
  · exact (htold.trans (State.workStopAll_mild _ t)).trans (State.evaluate_mild _ c)
  · exact htold.trans (State.evaluate_mild _ c)
  · exact htold.trans (State.workStopAll_mild _ t)
  · exact htold

theorem State.moveWork_mild (x y : Task) : s.Mild (s.moveWork x y) :=
  (State.Mild.foldl (fun u b => u.workStop_mild b x.id) _ s).trans
    (.foldl (fun u b => u.workStart_mild b y.id) _ _)

theorem State.redirect_mild (c : CraneId) (t : Task) (d : Dest) : s.Mild (s.redirect c t d) := by
  have hput := ((((State.setSmu_mild ((Smu.releaseDest_kept s.smu t.id t.dest).trans
    (Smu.grantDest_kept _ t.id d))).trans (State.entryTo_mild _ t.dest t.coil .claimed .pending)).trans
    (State.entryTo_mild _ d t.coil .pending .claimed)).trans (State.putTask_mild _ c (t.redirected d)))
  unfold State.redirect
  dsimp only
  split
  · exact hput.trans (State.moveWork_mild _ _ _)
  · exact hput

theorem State.returnTask_mild (c : CraneId) (t : Task) : s.Mild (s.returnTask c t) :=
  (((State.setSmu_mild (Smu.releaseDest_kept _ _ _)).trans (State.entryTo_mild _ _ _ _ _)).trans
    (State.moveWork_mild _ _ _)).trans (State.exitCarry_mild _ c _)

theorem State.retry_mild {s u : State} {c : CraneId} {t : Task} {why : HoldReason}
    (h : s.retry c t why = some u) : s.Mild u := by
  cases why <;> simp only [State.retry, Option.map_eq_some_iff, Option.ite_none_right_eq_some,
    Option.some.injEq, reduceCtorEq] at h
  case positionMismatch => exact h ▸ s.advance_mild c _
  case weighTimeout => exact h ▸ s.advance_mild c _
  case noSlot =>
    obtain ⟨e, -, rfl⟩ := h
    exact s.grantChoice_mild c t _
  case axleLimit =>
    split at h
    · simp only [Option.ite_none_right_eq_some, Option.some.injEq] at h
      exact h.2 ▸ s.exitCarry_mild c t
    · simp only [Option.ite_none_right_eq_some, Option.some.injEq] at h
      exact h.2 ▸ s.advance_mild c _
  case linkLost => exact h.2 ▸ s.advance_mild c _
  case referenceLost => exact h.2 ▸ s.advance_mild c _

theorem State.setHalts_mild (cs : List CraneId) (m : Option HaltMode) : s.Mild (s.setHalts cs m) := by
  refine .trans ?_ (.foldl State.evaluateRunway_mild _ _)
  exact State.setTcu_mild ⟨fun _ => List.Sublist.refl _, id⟩

theorem State.setDetached_mild (c : CraneId) (v : Bool) : s.Mild (s.setDetached c v) :=
  State.setTcu_mild ⟨fun _ => List.Sublist.refl _, id⟩

theorem State.reform_mild (c : CraneId) (p : ParamSet) : s.Mild (s.reform c p) :=
  State.modHoist_mild c fun _ h => h

end Host

end Sys2Proof.Machine
end

section
/-! SUPPORT. What one command can do: a chain of mild updates and of the few changes that add a record, move
the stage, or open a plan. -/

namespace Sys2Proof.Machine

/-- The changes of the state that the three invariants have to look at. -/
inductive State.Change : State → State → Prop
  | mild {s t : State} (h : s.Mild t) : s.Change t
  | powerOn {s : State} (start : FlagId) (straps : Straps) (lines : BitVec 32) (now : Nat) (q : List Instr) :
      s.Change (.fresh start straps lines now q)
  | defineSlot {s : State} {i : Nat} (v : Slot) (hi : i < Config.slotCount) :
      s.Change (s.setSlots (Table.put i v s.smu.slots))
  | undefineSlot {s : State} (i : Nat) : s.Change (s.setSlots (Table.drop i s.smu.slots))
  | shadowSet {s : State} (c : CraneId) (p : ParamSet) (hg : s.lsu.stage ≠ .config) :
      s.Change (s.setLsu { s.lsu with shadow := s.lsu.shadow.set c (some p) })
  | commit {s : State} (hg : s.lsu.stage = .config) : s.Change s.committedYard
  | openYard {s : State} : s.Change (s.setLsu { s.lsu with stage := .run })
  | closeYard {s : State} (hb : s.bcu.build = none) (hq : s.yardBusy = none) :
      s.Change (s.setLsu { s.lsu with stage := .inventory })
  | clear {s : State} : s.Change s.cleared
  | addCoil {s : State} (id : Nat) (k : Coil) (hg : s.lsu.stage ≠ .config)
      (hl : s.smu.coils.length < Config.coilMax) : s.Change (s.setCoils (Table.put id k s.smu.coils))
  | queueTask {s : State} {c : CraneId} {t : Task} (hg : s.lsu.stage = .run)
      (hl : (s.tcu.queues.get c).length < Config.queueMax) (hid : s.task? t.id = none) :
      s.Change (s.setQueue c (placeTask t (s.tcu.queues.get c)))
  | build {s : State} (u : Build) (hg : s.lsu.stage = .run) (hl : u.entries.length < u.head.cradles.length)
      (hm : s.Bounded → u.head.cradles.length ≤ Config.planMax) :
      s.Change (s.setBcu { s.bcu with build := some u })
  | install {s : State} (b : BayId) (p : Plan) (hm : s.Bounded → p.entries.length ≤ Config.planMax) :
      s.Change (s.modBay b fun y => { y with plan := some p })

/-- A chain of changes. -/
abbrev State.Reaches : State → State → Prop := Relation.ReflTransGen State.Change

theorem State.Mild.reaches {s t : State} (h : s.Mild t) : s.Reaches t := .single (.mild h)

/-! ## What an owner's verdict can give -/

/-- Every state that an owner answers with has the property. -/
def Verdict.Gives (v : Verdict) (P : State → Prop) : Prop := ∀ t a, v = .ok (t, a) → P t

namespace Verdict.Gives

variable {P : State → Prop}

theorem ok {t : State} (a : Ack) (h : P t) : Verdict.Gives (.ok (t, a)) P := by
  intro u b hub
  obtain ⟨rfl, -⟩ := Prod.mk.inj (Except.ok.inj hub)
  exact h

theorem mild {s t : State} (a : Ack) (h : s.Mild t) : Verdict.Gives (.ok (t, a)) s.Reaches :=
  ok a h.reaches

theorem error (n : Nak) : Verdict.Gives (.error n) P := fun _ _ h => nomatch h

/-- A check before an answer. -/
theorem bind {α : Type} {x : Except Nak α} {f : α → Verdict} (h : ∀ a, x = .ok a → Verdict.Gives (f a) P) :
    Verdict.Gives (x >>= f) P := by
  cases x with
  | error n => exact error n
  | ok a => exact h a rfl

end Verdict.Gives

theorem require_ok {ok : Bool} {code : RefusalCode} {detail : Nat} {u : Unit}
    (h : require ok code detail = .ok u) : ok = true := by
  cases ok with
  | true => rfl
  | false => exact nomatch h

theorem requireSome_ok {α : Type} {v : Option α} {code : RefusalCode} {detail : Nat} {a : α}
    (h : requireSome v code detail = .ok a) : v = some a := by
  cases v with
  | none => exact nomatch h
  | some b => exact congrArg some (Except.ok.inj h)

/-- The checks of a list of fields pass only where every test does. -/
theorem checkFrom_ok {k : Nat} {l : List Bool} {u : Unit} (h : checkFrom k l = .ok u) : ∀ b ∈ l, b = true := by
  intro b hb
  cases b with
  | true => rfl
  | false =>
    obtain ⟨n, -, -, hn⟩ := checkFrom_fails k l hb
    exact nomatch hn.symm.trans h

/-! ## The owners -/

section Owners

variable (s : State)

theorem ownRunwaySet_reaches (v : RunwaySet) : (ownRunwaySet s v).Gives s.Reaches :=
  .bind fun _ _ => .bind fun _ _ => .mild _ (State.setLsu_mild ⟨rfl, .refl _⟩)

theorem ownRunwayClear_reaches (v : Coded RunwayId) : (ownRunwayClear s v).Gives s.Reaches :=
  .bind fun _ _ => .bind fun _ _ => .mild _ (State.setLsu_mild ⟨rfl, .refl _⟩)

theorem ownCraneConfig_reaches (v : CraneSet) : (ownCraneConfig s v).Gives s.Reaches :=
  .bind fun _ _ => .bind fun _ _ => .bind fun _ _ => .mild _ (State.setLsu_mild ⟨rfl, .refl _⟩)

theorem ownCraneService_reaches (v : CraneSet) (hg : s.lsu.stage ≠ .config) :
    (ownCraneService s v).Gives s.Reaches :=
  .bind fun _ _ => .bind fun _ _ => .bind fun _ _ => .bind fun _ _ => .ok _ (.single (.shadowSet _ _ hg))

theorem ownCraneSet_reaches (v : CraneSet) : (ownCraneSet s v).Gives s.Reaches := by
  unfold ownCraneSet
  split
  next => exact ownCraneConfig_reaches s v
  next h => exact ownCraneService_reaches s v (by simp [h])
  next h => exact ownCraneService_reaches s v (by simp [h])

theorem ownCraneClear_reaches (v : Nat) : (ownCraneClear s v).Gives s.Reaches :=
  .bind fun _ _ => .bind fun _ _ => .mild _ (State.setLsu_mild ⟨rfl, .refl _⟩)

theorem ownSlotSet_reaches (v : SlotSet) : (ownSlotSet s v).Gives s.Reaches :=
  .bind fun _ hc => .bind fun _ _ => .ok _ <| .single <| .defineSlot _ <| by
    have hslot : slotOk v.slot = true := checkFrom_ok hc _ (by simp [slotSetChecks])
    simpa [slotOk] using hslot

theorem ownSlotClear_reaches (v : Nat) : (ownSlotClear s v).Gives s.Reaches :=
  .bind fun _ _ => .bind fun _ _ => .ok _ (.single (.undefineSlot v))

theorem ownBaySet_reaches (v : BaySet) : (ownBaySet s v).Gives s.Reaches :=
  .bind fun _ _ => .bind fun _ _ => .bind fun _ _ => .mild _ (State.setLsu_mild ⟨rfl, .refl _⟩)

theorem ownBayUndefine_reaches (v : Nat) : (ownBayUndefine s v).Gives s.Reaches :=
  .bind fun _ _ => .bind fun _ _ => .mild _ (State.setLsu_mild ⟨rfl, .refl _⟩)

theorem ownConfigSet_reaches (v : List SettingPair) : (ownConfigSet s v).Gives s.Reaches :=
  .bind fun _ _ => .bind fun _ _ => .mild _ (s.putSettings_mild _)

/-- A change of stage: the stage is written, then every runway evaluated and the notice queued. -/
theorem State.enterStage_mild (g : Stage) (x : StageCause) :
    (s.setLsu { s.lsu with stage := g }).Mild (s.enterStage g x) :=
  (State.evaluateYard_mild _).trans (State.notify_mild _ _)

theorem ownCommit_reaches (v : Unit) (hg : s.lsu.stage = .config) : (ownCommit s v).Gives s.Reaches := by
  unfold ownCommit
  split
  next => exact .error _
  next => exact .ok _ (.tail (.single (.commit hg)) (.mild (s.committedYard.enterStage_mild _ _)))

theorem ownOpen_reaches (v : Unit) : (ownOpen s v).Gives s.Reaches :=
  .ok _ (.tail (.single .openYard) (.mild (s.enterStage_mild _ _)))

theorem ownClose_reaches (v : Unit) (hb : s.bcu.build = none) : (ownClose s v).Gives s.Reaches := by
  unfold ownClose
  split
  next => exact .error _
  next hq => exact .ok _ (.tail (.single (.closeYard hb hq)) (.mild (s.enterStage_mild _ _)))

theorem ownCoilAdd_reaches (v : CoilAdd) (hg : s.lsu.stage ≠ .config) : (ownCoilAdd s v).Gives s.Reaches :=
  .bind fun _ _ => .bind fun _ _ => .bind fun _ _ => .bind fun _ _ => .bind fun _ _ => .bind fun _ _ =>
    .bind fun _ _ => .bind fun _ hl => .ok _ <|
      .tail (.single (.addCoil _ _ hg (by simpa using require_ok hl)))
        (.mild (State.setSmu_mild (Smu.kept_of_modifySlot _ _ _)))

theorem ownCoilRemove_reaches (id : Nat) : (ownCoilRemove s id).Gives s.Reaches :=
  .bind fun _ _ => .bind fun _ _ => .bind fun _ _ => .bind fun _ _ => .bind fun _ _ =>
    .mild _ <| State.setSmu_mild <| (s.smu.kept_of_filter _).trans (Smu.kept_of_modifySlot _ _ _)

theorem ownSlotBlock_reaches (i : Nat) : (ownSlotBlock s i).Gives s.Reaches :=
  .bind fun _ _ => .bind fun _ _ => .bind fun _ _ => .mild _ <|
    State.setSmu_mild (Smu.kept_of_modifySlot _ _ _)

theorem ownSlotUnblock_reaches (i : Nat) : (ownSlotUnblock s i).Gives s.Reaches :=
  .bind fun _ _ => .bind fun _ _ => .mild _ <|
    State.setSmu_mild ((Smu.kept_of_modifySlot _ _ _).trans (Smu.kept_of_modifySlot _ _ _))

theorem ownSlotSuggest_reaches (v : SlotSuggest) : (ownSlotSuggest s v).Gives s.Reaches :=
  .bind fun _ _ => .bind fun _ _ => .bind fun _ _ => .bind fun _ _ => .bind fun _ _ => .bind fun _ _ =>
    .ok _ .refl

/-- The marks of an accepted task, and its task in the queue: everything but the queue is mild. -/
theorem State.accept_reaches {s : State} {c : CraneId} {t : Task} (hg : s.lsu.stage = .run)
    (hl : (s.tcu.queues.get c).length < Config.queueMax) (hid : s.task? t.id = none) :
    s.Reaches (s.accept c t) := by
  have hmarks : s.Mild ((s.setSmu (((s.smu.grantSource t.id t.source).grantDest t.id t.dest).modCoil t.coil
      fun k => { k with task := some t.id })).entryTo t.dest t.coil .pending .claimed) :=
    (State.setSmu_mild (((Smu.grantSource_kept _ _ _).trans (Smu.grantDest_kept _ _ _)).trans
      (Smu.modCoil_kept _ _ _))).trans (State.entryTo_mild _ _ _ _ _)
  have hqueue := State.Change.queueTask (c := c) (t := t)
    (s := (s.setSmu (((s.smu.grantSource t.id t.source).grantDest t.id t.dest).modCoil t.coil
      fun k => { k with task := some t.id })).entryTo t.dest t.coil .pending .claimed)
    (by simpa using hg) (by simpa using hl) (by simpa [State.task?] using hid)
  rw [(State.entryTo_keeps _ _ _ _ _).2.2.2.1] at hqueue
  exact (hmarks.reaches.tail hqueue).tail (.mild (State.notify_mild _ _))

theorem ownTaskSubmit_reaches (v : TaskSubmit) (hg : s.lsu.stage = .run) :
    (ownTaskSubmit s v).Gives s.Reaches :=
  .bind fun _ _ => .bind fun _ _ => .bind fun _ _ => .bind fun _ _ => .bind fun _ _ => .bind fun _ _ =>
    .bind fun _ hl => .bind fun _ hid => .bind fun _ _ => .bind fun _ _ => .bind fun _ _ =>
    .bind fun _ _ => .bind fun _ _ => .bind fun _ _ => .bind fun _ _ => .bind fun _ _ => .bind fun _ _ =>
    .bind fun _ _ => .bind fun _ _ => .ok _ <|
      State.accept_reaches hg (by simpa using require_ok hl) (by simpa [submitted] using require_ok hid)

theorem ownTaskCancel_reaches (id : Nat) : (ownTaskCancel s id).Gives s.Reaches :=
  .bind fun _ _ => .bind fun _ _ => .mild _ (s.cancelTask_mild _ _)

theorem ownRetry_reaches (id : Nat) : (ownRetry s id).Gives s.Reaches :=
  .bind fun _ _ => .bind fun _ _ => .bind fun _ _ => .bind fun _ h => .mild _ (State.retry_mild (requireSome_ok h))

theorem ownAcceptWeight_reaches (id : Nat) : (ownAcceptWeight s id).Gives s.Reaches :=
  .bind fun _ _ => .bind fun _ _ => .mild _ (s.weighExit_mild _ _ _)

theorem ownRedirect_reaches (v : Redirect) : (ownRedirect s v).Gives s.Reaches :=
  .bind fun x _ => .bind fun _ _ => .bind fun _ _ => .bind fun d _ => .bind fun _ _ => .ok _ <| by
    split
    · exact ((s.redirect_mild x.1 x.2 d).trans (State.exitSelect_mild _ _ _)).reaches
    · exact (s.redirect_mild x.1 x.2 d).reaches

theorem ownReturn_reaches (id : Nat) : (ownReturn s id).Gives s.Reaches :=
  .bind fun _ _ => .bind fun _ _ => .mild _ (s.returnTask_mild _ _)

theorem ownHalt_reaches (v : HaltReq) : (ownHalt s v).Gives s.Reaches :=
  .bind fun _ _ => .bind fun _ _ => .bind fun _ _ => .mild _ (s.setHalts_mild _ _)

theorem ownResume_reaches (v : HaltTarget) : (ownResume s v).Gives s.Reaches :=
  .bind fun _ _ => .mild _ (s.setHalts_mild _ _)

theorem ownDetach_reaches (n : Nat) : (ownDetach s n).Gives s.Reaches :=
  .bind fun _ _ => .bind fun _ _ => .mild _ (s.setDetached_mild _ _)

theorem ownAttach_reaches (n : Nat) : (ownAttach s n).Gives s.Reaches :=
  .bind fun _ _ => .mild _ (s.setDetached_mild _ _)

theorem ownZero_reaches (v : ZeroReq) : (ownZero s v).Gives s.Reaches :=
  .bind fun _ _ => .bind fun _ _ => .bind fun _ _ => .bind fun _ _ => .bind fun _ _ => .bind fun _ _ =>
    .bind fun _ _ => .bind fun _ _ => .mild _ ((s.takeZero_mild _ _ _).trans (State.reform_mild _ _ _))

theorem ownWeighReset_reaches (n : Nat) : (ownWeighReset s n).Gives s.Reaches :=
  .bind fun c _ => .bind fun _ _ => .bind fun _ _ => .mild _ <| by
    refine .trans (s.emptyWindow_mild c) ?_
    exact State.modHoist_mild c fun _ h => h

theorem ownTruckArrive_reaches (n : Nat) : (ownTruckArrive s n).Gives s.Reaches :=
  .bind fun _ _ => .bind fun _ _ => .mild _ (s.setBayState_mild _ _)

theorem Bay.planFits_none (y : Bay) : ({ y with plan := none } : Bay).PlanFits := fun _ h => nomatch h

theorem ownTruckDepart_reaches (n : Nat) : (ownTruckDepart s n).Gives s.Reaches :=
  .bind fun x _ => .bind fun _ _ => .bind fun _ _ => .mild _ <| by
    have hregister : s.Mild (s.setSmu (s.smu.deleteBay x.1)) := State.setSmu_mild (s.smu.kept_of_filter _)
    refine .trans (hregister.trans ?_) (State.setBayState_mild _ _ _)
    exact State.modBay_mild x.1 fun y _ _ => y.planFits_none

theorem ownBayMode_reaches (v : BayModeReq) : (ownBayMode s v).Gives s.Reaches :=
  .bind fun b _ => .bind fun _ _ => .bind fun _ _ => .mild _ <| by
    refine .trans ?_ (State.bayDerived_mild _ b)
    exact State.modBay_mild b fun _ _ h => h

theorem ownBayClear_reaches (n : Nat) : (ownBayClear s n).Gives s.Reaches :=
  .bind fun x _ => .bind fun _ _ => .mild _ <| by
    refine .trans ?_ (State.bayDerived_mild _ x.1)
    exact State.modBay_mild x.1 fun _ _ h => h

/-- A bay that a request names has its record. -/
theorem State.readBay_ok {s : State} {n : Nat} {x : BayId × Bay} (h : s.readBay n = .ok x) :
    s.bcu.bays.get x.1 = some x.2 := by
  unfold State.readBay at h
  cases hb : readNum n 0 with
  | error e => simp [hb] at h
  | ok b =>
    cases hy : s.bcu.bays.get b with
    | none => simp [hb, hy] at h
    | some y =>
      simp only [hb, hy, except_ok_bind, requireSome_some, Except.ok.injEq] at h
      exact h ▸ hy

theorem ownBayAck_reaches (n : Nat) : (ownBayAck s n).Gives s.Reaches := by
  refine .bind fun ⟨b, y⟩ hb => ?_
  dsimp only
  split
  · exact .mild _ (State.modBay_mild b fun _ _ h => h)
  · refine .ok _ (State.Mild.reaches (.trans ?_ (State.notifyInputs_mild _ b _)))
    refine State.modBay_mild b fun x hx hfit => ?_
    obtain rfl : y = x := Option.some.inj ((State.readBay_ok hb).symm.trans hx)
    exact hfit

theorem ownPlanOpen_reaches (v : PlanOpen) (hg : s.lsu.stage = .run) : (ownPlanOpen s v).Gives s.Reaches :=
  .bind fun _ hc => .bind fun _ _ => .bind fun _ _ => .bind fun _ _ => .bind fun _ _ => .bind fun _ _ =>
    .bind fun _ _ => .bind fun _ _ => .bind fun _ _ => .ok _ <| by
      have hn : within 1 Config.planMax v.cradles.length = true :=
        checkFrom_ok hc _ (by simp [planOpenChecks])
      simp only [within, Bool.and_eq_true, decide_eq_true_eq] at hn
      exact .single (.build _ hg hn.1 fun _ => hn.2)

theorem ownPlanCancel_reaches (n : Nat) : (ownPlanCancel s n).Gives s.Reaches :=
  .bind fun x _ => .bind fun p _ => .bind fun _ _ => .bind fun _ _ => .mild _ <| by
    have hregister : s.smu.Kept (match p.head.kind with
        | .load => s.smu.setPlan (p.entries.map (·.coil)) none
        | .unload => s.smu.deleteOnTruck x.1 (p.entries.map (·.coil))) := by
      split
      · exact s.smu.setPlan_kept _ _
      · exact s.smu.kept_of_filter _
    have hcleared := (State.setSmu_mild hregister).trans
      (State.modBay_mild x.1 fun y _ _ => y.planFits_none)
    split
    · exact hcleared.trans (State.setBayState_mild _ _ _)
    · exact hcleared

theorem ownLoadClose_reaches (n : Nat) : (ownLoadClose s n).Gives s.Reaches := by
  refine .bind fun ⟨b, y⟩ hb => .bind fun p hp => .bind fun _ _ => .ok _ (State.Mild.reaches ?_)
  have hplan : y.plan = some p := by
    have := requireSome_ok hp
    simp only [Bay.loadPlan?, Option.filter_eq_some_iff] at this
    exact this.1
  have hclosed : s.Mild ((s.setSmu (s.smu.setPlan ((p.entries.filter fun e => e.status != .placed).map
      (·.coil)) none)).modPlan b fun q =>
        { q with entries := p.entries.filter fun e => e.status == .placed, closed := true }) := by
    have hregister : s.Mild (s.setSmu (s.smu.setPlan ((p.entries.filter fun e => e.status != .placed).map
        (·.coil)) none)) := State.setSmu_mild (s.smu.setPlan_kept _ _)
    refine hregister.trans (State.modBay_mild b fun x hx hfit q hq => ?_)
    obtain rfl : y = x := Option.some.inj ((State.readBay_ok hb).symm.trans hx)
    obtain ⟨q', hq', rfl⟩ := Option.map_eq_some_iff.1 hq
    exact (List.length_filter_le _ _).trans (hfit p hplan)
  split
  · exact hclosed.trans (State.setBayState_mild _ _ _)
  · exact hclosed

theorem ownInputAssign_reaches (v : InputAssign) : (ownInputAssign s v).Gives s.Reaches :=
  .bind fun _ _ => .bind fun _ _ => .bind fun _ _ => .bind fun _ _ => .bind fun _ _ => .mild _ (s.setDio_mild _)

theorem ownOutputAssign_reaches (v : OutputAssign) : (ownOutputAssign s v).Gives s.Reaches :=
  .bind fun _ _ => .bind fun _ _ => .bind fun _ _ => .bind fun _ _ => .mild _ (s.setDio_mild _)

theorem ownBeaconSet_reaches (v : BeaconSet) : (ownBeaconSet s v).Gives s.Reaches :=
  .bind fun _ _ => .bind fun m _ => by
    cases m with
    | auto => exact .mild _ (s.setDio_mild _)
    | host => exact .bind fun _ _ => .mild _ (s.setDio_mild _)

theorem ownFaultReport_reaches (v : Unit) : (ownFaultReport s v).Gives s.Reaches :=
  .mild _ (s.clearFlags_mild _)

theorem ownFaultMask_reaches (v : List (Coded FaultKind)) : (ownFaultMask s v).Gives s.Reaches :=
  .bind fun _ _ => .bind fun _ _ => .mild _ (State.setFnu_mild ⟨id, id⟩)

theorem ownCoilQueryOne_reaches (id : Nat) : (ownCoilQueryOne s id).Gives s.Reaches :=
  .bind fun _ _ => .ok _ .refl

theorem ownSlotQueryOne_reaches (i : Nat) : (ownSlotQueryOne s i).Gives s.Reaches :=
  .bind fun _ _ => .bind fun _ _ => .ok _ .refl

theorem ownSlotQueryList_reaches (i : Nat) : (ownSlotQueryList s i).Gives s.Reaches :=
  .bind fun _ _ => .ok _ .refl

theorem ownTaskQueryOne_reaches (id : Nat) : (ownTaskQueryOne s id).Gives s.Reaches :=
  .bind fun _ _ => .ok _ .refl

theorem ownTaskQueryCrane_reaches (n : Nat) : (ownTaskQueryCrane s n).Gives s.Reaches :=
  .bind fun _ _ => .ok _ .refl

theorem ownCraneQuery_reaches (n : Nat) : (ownCraneQuery s n).Gives s.Reaches :=
  .bind fun _ _ => .bind fun _ _ => .ok _ .refl

theorem ownWeighQuery_reaches (n : Nat) : (ownWeighQuery s n).Gives s.Reaches :=
  .bind fun _ _ => .bind fun _ _ => .bind fun _ _ => .ok _ .refl

theorem ownRunwayQuery_reaches (v : Coded RunwayId) : (ownRunwayQuery s v).Gives s.Reaches :=
  .bind fun _ _ => .bind fun _ _ => .ok _ .refl

theorem ownBayQuery_reaches (n : Nat) : (ownBayQuery s n).Gives s.Reaches :=
  .bind fun _ _ => .ok _ .refl

end Owners

end Sys2Proof.Machine
end

section
/-! SUPPORT. Every command reaches its state by changes. -/

namespace Sys2Proof.Machine

/-! ## PLAN-ENTRY -/

/-- An entry that passes its checks leaves room in the register for the record it creates. -/
theorem State.entryTest_room {s : State} {u : Build} {v : PlanEntry} {w : Unit}
    (h : s.entryTest u v = .ok w) (hk : u.head.kind = .unload) : s.smu.coils.length < Config.coilMax := by
  suffices hgives : ∀ w, s.entryTest u v = .ok w → s.smu.coils.length < Config.coilMax from hgives w h
  intro w h
  simp only [State.entryTest, hk, State.unloadEntryTest] at h
  cases h1 : require (planEntryOk v u.head.cradles.length) .badValue 0 <;> simp [h1] at h
  cases h2 : require (v.kind == .known .unload) .badValue 0 <;> simp [h2] at h
  cases h3 : require (!(u.entries.any fun e => e.1 == v.cradle)) .duplicate v.cradle <;> simp [h3] at h
  cases h4 : require (s.coil? v.coil).isNone .duplicate 0 <;> simp [h4] at h
  simpa using require_ok h

/-- The entry of a build that is not its last: the record it creates, and the longer build. -/
theorem State.addEntry_reaches {s : State} {u : Build} {v : PlanEntry} (hg : s.lsu.stage = .run)
    (hu : s.bcu.build = some u) (hroom : u.head.kind = .unload → s.smu.coils.length < Config.coilMax)
    (hl : u.entries.length + 1 < u.head.cradles.length) : s.Reaches (s.addEntry u v) := by
  have hbounds : ∀ t : State, t.bcu = s.bcu → t.Bounded → u.head.cradles.length ≤ Config.planMax := by
    rintro t ht ⟨-, -, -, -, -, -, hbuild, -⟩
    exact (hbuild u (ht ▸ hu)).2
  unfold State.addEntry
  split
  next => exact .single (.build _ hg (by simpa using hl) (hbounds s rfl))
  next hk =>
    exact .tail (.single (.addCoil _ _ (by simp [hg]) (hroom hk)))
      (.build _ hg (by simpa using hl) (hbounds (s.setCoils _) rfl))

/-- The last entry of a build: the record it creates, the plan at the bay, and no build left. -/
theorem State.install_reaches {s : State} {u : Build} {v : PlanEntry} (hg : s.lsu.stage = .run)
    (hu : s.bcu.build = some u) (hroom : u.head.kind = .unload → s.smu.coils.length < Config.coilMax) :
    s.Reaches ((s.addEntry u v).install { u with entries := u.entries ++ [(v.cradle, v.coil)] }) := by
  have hbounds : ∀ t : State, t.bcu = s.bcu → t.Bounded →
      ({ u with entries := u.entries ++ [(v.cradle, v.coil)] } : Build).plan.entries.length ≤
        Config.planMax := by
    rintro t ht ⟨-, -, -, -, -, -, hbuild, -⟩
    obtain ⟨hl, hm⟩ := hbuild u (ht ▸ hu)
    simp only [Build.plan, List.length_map, List.length_append, List.length_singleton]
    omega
  have hclosed : ∀ t : State, t.Mild (t.setBcu { t.bcu with build := none }) := fun t =>
    State.setBcu_mild ⟨.refl _, id, .inr rfl⟩
  unfold State.install State.addEntry
  cases hk : u.head.kind with
  | load =>
    refine .tail (.tail (.single (.mild (State.setSmu_mild (s.smu.setPlan_kept _ _))))
      (.install u.bay _ (hbounds (s.setSmu _) rfl))) (.mild (hclosed _))
  | unload =>
    exact .tail (.tail (.single (.addCoil v.coil (trailerCoil u.bay v) (by simp [hg]) (hroom hk)))
      (.install u.bay _ (hbounds (s.setCoils _) rfl))) (.mild (hclosed _))

theorem ownPlanEntry_reaches {s : State} {u : Build} (v : PlanEntry) (hg : s.lsu.stage = .run)
    (hu : s.bcu.build = some u) : (ownPlanEntry s u v).Gives s.Reaches := by
  refine .bind fun _ htest => ?_
  dsimp only
  split
  next hl => exact .ok _ (State.addEntry_reaches hg hu (State.entryTest_room htest) (by simpa using hl))
  next => exact .bind fun _ _ => .ok _ (State.install_reaches hg hu (State.entryTest_room htest))

/-! ## Judging and serving -/

theorem Verdict.settle_reaches {v : Verdict} {s t : State} (hv : v.Gives s.Reaches) (ht : s.Reaches t) :
    s.Reaches (v.settle t).1 := by
  cases v with
  | ok x => exact hv x.1 x.2 rfl
  | error n => exact ht

theorem State.judgeEntry_reaches (s : State) (b : Body PlanEntry) : s.Reaches (s.judgeEntry b).1 := by
  unfold State.judgeEntry
  split
  · exact .refl
  · exact .refl
  · split
    · exact .refl
    next hg =>
      split
      · exact .refl
      next hu =>
        exact Verdict.settle_reaches (ownPlanEntry_reaches _ (not_not.1 hg) hu) s.discardBuild_mild.reaches

theorem State.judge_reaches {α : Type} {s : State} {stages : Stage → Bool} {own : State → α → Verdict}
    (b : Body α) (sel : Selector) (hown : ∀ v, stages s.lsu.stage = true → s.bcu.build = none →
      (own s v).Gives s.Reaches) : s.Reaches (s.judge b stages sel own).1 := by
  unfold State.judge
  split
  · exact .refl
  · split
    · exact s.discardBuild_mild.reaches
    · split <;> exact .refl
  · split
    · exact s.discardBuild_mild.reaches
    next hb =>
      split
      next hg => exact Verdict.settle_reaches (hown _ hg hb) .refl
      next => exact .refl

theorem State.serve_reaches {α : Type} {stages : Stage → Bool} {own : State → α → Verdict} (s : State)
    (tag : Byte) (r : Request) (b : Body α) (sel : Selector)
    (hown : ∀ (u : State) v, stages u.lsu.stage = true → u.bcu.build = none → (own u v).Gives u.Reaches) :
    s.Reaches (s.serve tag r b stages sel own) := by
  unfold State.serve
  split
  · exact .refl
  next u hu =>
    exact ((State.takeFrame_mild hu).reaches.trans (u.judge_reaches b sel (hown u))).tail
      (.mild (State.replyWith_mild _ _ _ _))

theorem stage_run_of {g : Stage} (h : inRun g = true) : g = .run := by simpa [inRun] using h

theorem stage_config_of {g : Stage} (h : inConfig g = true) : g = .config := by simpa [inConfig] using h

theorem stage_ne_config_of {g : Stage} (h : committed g = true) : g ≠ .config := by
  simpa [committed] using h

/-! ## The restarts -/

theorem execRestartAll_reaches {s t : State} {tag : Byte} {b : Body Unit} {straps : Straps}
    (h : execRestartAll tag b straps s = .next t) : s.Reaches t := by
  unfold execRestartAll at h
  split at h
  · cases h; exact .refl
  next u hu =>
    have htake := (State.takeFrame_mild hu).reaches
    have hjudge := u.judge_reaches (stages := inAny) (own := fun s _ => .ok (s, .empty)) b rowSelector
      fun v _ _ => .ok _ .refl
    split at h
    next u' n hv =>
      cases h
      rw [hv] at hjudge
      exact (htake.trans hjudge).tail (.mild (State.replyWith_mild _ _ _ _))
    next u' a hv =>
      cases h
      rw [hv] at hjudge
      refine ((htake.trans hjudge).tail
        (.powerOn .restarted straps u'.dio.rawLevels u'.now u'.pending)).tail (.mild ?_)
      refine .trans (State.setPorts_mild fun c _ => ?_) (State.setHlu_mild ⟨id, id, id⟩)
      simp [Port.send_errors, State.ackWhole, Port.powerOn]

theorem State.restartYard_reaches (s : State) : s.Reaches s.restartYard := by
  have hstop : ∀ (u : State) c, u.Mild (u.stopCrane c) := fun u c => by
    unfold State.stopCrane
    split
    · refine State.modPort_mild c fun p hp => ?_
      unfold Port.stop
      dsimp only
      split
      · rwa [Port.send_errors]
      · exact hp
    · exact .refl u
  have hagain : ∀ (u : State) f, u.Mild (u.raiseAgain f) := fun u f => by
    unfold State.raiseAgain
    split
    · exact u.raise_mild f
    · exact .refl u
  have hcaps : ∀ (u : State) c, u.Mild (u.recap c) := fun u c => State.modCrane_mild c _
  have hbeacon : ∀ (u : State) c, u.Mild (u.judgeBeacon c) := fun u c => u.setDio_mild _
  have hrest := ((((State.Mild.foldl hstop allNum4 s.cleared).trans (.foldl hcaps allNum4 _)).trans
    (State.raise_mild _ .restarted)).trans (.foldl hagain allFlags _)).trans (.foldl hbeacon allNum4 _)
  unfold State.restartYard
  dsimp only
  split
  · exact (Relation.ReflTransGen.single .clear).tail (.mild (hrest.trans (State.notify_mild _ _)))
  · exact (Relation.ReflTransGen.single .clear).tail (.mild hrest)

theorem execRestartYard_reaches {s t : State} {tag : Byte} {b : Body Unit}
    (h : execRestartYard tag b s = .next t) : s.Reaches t := by
  unfold execRestartYard at h
  split at h
  · cases h; exact .refl
  next u hu =>
    have htake := (State.takeFrame_mild hu).reaches
    have hjudge := u.judge_reaches (stages := committed) (own := fun s _ => .ok (s, .empty)) b rowSelector
      fun v _ _ => .ok _ .refl
    split at h
    next u' n hv =>
      cases h
      rw [hv] at hjudge
      exact (htake.trans hjudge).tail (.mild (State.replyWith_mild _ _ _ _))
    next u' a hv =>
      cases h
      rw [hv] at hjudge
      exact ((htake.trans hjudge).tail (.mild (State.ackWhole_mild _ _))).trans (State.restartYard_reaches _)

/-! ## The other commands that are not served in the common way -/

theorem execPlanEntry_reaches {s t : State} {tag : Byte} {b : Body PlanEntry}
    (h : execPlanEntry tag b s = .next t) : s.Reaches t := by
  unfold execPlanEntry at h
  split at h
  · cases h; exact .refl
  next u hu =>
    cases h
    exact ((State.takeFrame_mild hu).reaches.trans (u.judgeEntry_reaches b)).tail
      (.mild (State.replyWith_mild _ _ _ _))

theorem execUnknownRequest_reaches {s t : State} {tag kind : Byte}
    (h : execUnknownRequest tag kind s = .next t) : s.Reaches t := by
  unfold execUnknownRequest at h
  split at h
  · cases h; exact .refl
  next u hu =>
    cases h
    exact ((State.takeFrame_mild hu).trans (State.replyWith_mild _ _ _ _)).reaches

theorem execHostSilenceExpiry_reaches {s t : State} (h : execHostSilenceExpiry s = .next t) :
    s.Reaches t := by
  unfold execHostSilenceExpiry at h
  split at h
  · cases h; exact .refl
  next d _ =>
    cases h
    refine State.Mild.reaches (.trans (.trans (s.reach_mild d) ?_) (State.discardBuild_mild _))
    refine .trans ?_ (State.report_mild _ _ _ _)
    exact State.setHlu_mild ⟨id, id, id⟩

theorem execFrameByteError_reaches {s t : State} {e : FrameError} (h : execFrameByteError e s = .next t) :
    s.Reaches t := by
  unfold execFrameByteError at h
  split at h <;> cases h <;> exact (s.hearNoFrame_mild _).reaches

theorem execStatusRecord_reaches {s t : State} {c : CraneId} {bytes : List Byte}
    (h : execStatusRecord c bytes s = .next t) : s.Reaches t := by
  have hheard := s.hear_mild c (s.feedPort c bytes)
  unfold execStatusRecord at h
  dsimp only at h
  split at h
  · cases h; exact hheard.reaches
  · cases h; exact (hheard.trans (State.validRecord_mild _ c _)).reaches

theorem execLinkWatchdogExpiry_reaches {s t : State} {c : CraneId}
    (h : execLinkWatchdogExpiry c s = .next t) : s.Reaches t := by
  unfold execLinkWatchdogExpiry at h
  split at h
  · cases h; exact .refl
  · split at h <;> cases h
    · exact ((s.reach_mild _).trans (State.loseLink_mild _ c)).reaches
    · exact .refl
    · exact .refl

theorem execSettleDeadlineExpiry_reaches {s t : State} {c : CraneId}
    (h : execSettleDeadlineExpiry c s = .next t) : s.Reaches t := by
  unfold execSettleDeadlineExpiry at h
  split at h <;> cases h
  · exact .refl
  · exact ((s.reach_mild _).trans (State.settleExpire_mild _ c _)).reaches

theorem execTrailExpiry_reaches {s t : State} {b : BayId} (h : execTrailExpiry b s = .next t) :
    s.Reaches t := by
  unfold execTrailExpiry at h
  split at h <;> cases h
  · exact .refl
  · exact ((s.reach_mild _).trans (State.trailExpire_mild _ b)).reaches

theorem execStretchExpiry_reaches {s t : State} {c : CraneId} (h : execStretchExpiry c s = .next t) :
    s.Reaches t := by
  unfold execStretchExpiry at h
  split at h <;> cases h
  · exact .refl
  · exact ((s.reach_mild _).trans (State.setDio_mild _ _)).reaches

theorem execRawLineChange_reaches {s t : State} {k : Fin 32} {high : Bool}
    (h : execRawLineChange k high s = .next t) : s.Reaches t := by
  unfold execRawLineChange at h
  dsimp only at h
  split_ifs at h <;> cases h
  · exact .refl
  · exact (s.setDio_mild _).reaches
  · exact (s.lineTakes_mild k _).reaches
  · exact (s.setDio_mild _).reaches

theorem execSettlingEnd_reaches {s t : State} {k : Fin 32} (h : execSettlingEnd k s = .next t) :
    s.Reaches t := by
  unfold execSettlingEnd at h
  dsimp only at h
  split at h <;> cases h
  · exact .refl
  · exact ((s.reach_mild _).trans (State.lineTakes_mild _ k _)).reaches

/-- A served request whose owner is let through in any stage. -/
theorem State.serve_reaches_any {α : Type} {stages : Stage → Bool} {own : State → α → Verdict} {s t : State}
    {tag : Byte} {r : Request} {b : Body α} {sel : Selector}
    (h : (.next (s.serve tag r b stages sel own) : Host.Outcome State Fault Refusal) = .next t)
    (hown : ∀ (u : State) v, (own u v).Gives u.Reaches) : s.Reaches t := by
  cases h
  exact s.serve_reaches tag r b sel fun u v _ _ => hown u v

/-- Whatever a command does to the state is a chain of changes. -/
theorem exec_reaches {i : Instr} {s t : State} (h : exec i s = .next t) : s.Reaches t := by
  cases i with
  | powerOn straps lines => cases h; exact .single (.powerOn _ _ _ _ _)
  | runwayDefineSet tag b => exact State.serve_reaches_any h ownRunwaySet_reaches
  | runwayDefineClear tag b => exact State.serve_reaches_any h ownRunwayClear_reaches
  | craneDefineSet tag b => exact State.serve_reaches_any h ownCraneSet_reaches
  | craneDefineClear tag b => exact State.serve_reaches_any h ownCraneClear_reaches
  | slotDefineSet tag b => exact State.serve_reaches_any h ownSlotSet_reaches
  | slotDefineClear tag b => exact State.serve_reaches_any h ownSlotClear_reaches
  | bayDefineSet tag b => exact State.serve_reaches_any h ownBaySet_reaches
  | bayDefineClear tag b => exact State.serve_reaches_any h ownBayUndefine_reaches
  | configSet tag b => exact State.serve_reaches_any h ownConfigSet_reaches
  | commitLayout tag b =>
    cases h
    exact s.serve_reaches tag _ b _ fun u v hg _ => ownCommit_reaches u v (stage_config_of hg)
  | openYard tag b => exact State.serve_reaches_any h ownOpen_reaches
  | closeYard tag b =>
    cases h
    exact s.serve_reaches tag _ b _ fun u v _ hb => ownClose_reaches u v hb
  | restartAll tag b straps => exact execRestartAll_reaches h
  | restartYard tag b => exact execRestartYard_reaches h
  | coilAdd tag b =>
    cases h
    exact s.serve_reaches tag _ b _ fun u v hg _ => ownCoilAdd_reaches u v (stage_ne_config_of hg)
  | coilRemove tag b => exact State.serve_reaches_any h ownCoilRemove_reaches
  | coilQueryOne tag b => exact State.serve_reaches_any h ownCoilQueryOne_reaches
  | coilQueryList tag b => exact State.serve_reaches_any h fun _ _ => .ok _ .refl
  | slotQueryOne tag b => exact State.serve_reaches_any h ownSlotQueryOne_reaches
  | slotQueryList tag b => exact State.serve_reaches_any h ownSlotQueryList_reaches
  | slotBlock tag b => exact State.serve_reaches_any h ownSlotBlock_reaches
  | slotUnblock tag b => exact State.serve_reaches_any h ownSlotUnblock_reaches
  | slotSuggest tag b => exact State.serve_reaches_any h ownSlotSuggest_reaches
  | taskSubmit tag b =>
    cases h
    exact s.serve_reaches tag _ b _ fun u v hg _ => ownTaskSubmit_reaches u v (stage_run_of hg)
  | taskCancel tag b => exact State.serve_reaches_any h ownTaskCancel_reaches
  | retry tag b => exact State.serve_reaches_any h ownRetry_reaches
  | acceptWeight tag b => exact State.serve_reaches_any h ownAcceptWeight_reaches
  | redirect tag b => exact State.serve_reaches_any h ownRedirect_reaches
  | taskReturn tag b => exact State.serve_reaches_any h ownReturn_reaches
  | taskQueryOne tag b => exact State.serve_reaches_any h ownTaskQueryOne_reaches
  | taskQueryCrane tag b => exact State.serve_reaches_any h ownTaskQueryCrane_reaches
  | halt tag b => exact State.serve_reaches_any h ownHalt_reaches
  | resume tag b => exact State.serve_reaches_any h ownResume_reaches
  | detach tag b => exact State.serve_reaches_any h ownDetach_reaches
  | attach tag b => exact State.serve_reaches_any h ownAttach_reaches
  | craneQuery tag b => exact State.serve_reaches_any h ownCraneQuery_reaches
  | zero tag b => exact State.serve_reaches_any h ownZero_reaches
  | weighReset tag b => exact State.serve_reaches_any h ownWeighReset_reaches
  | weighQuery tag b => exact State.serve_reaches_any h ownWeighQuery_reaches
  | runwayQuery tag b => exact State.serve_reaches_any h ownRunwayQuery_reaches
  | truckArrive tag b => exact State.serve_reaches_any h ownTruckArrive_reaches
  | truckDepart tag b => exact State.serve_reaches_any h ownTruckDepart_reaches
  | bayMode tag b => exact State.serve_reaches_any h ownBayMode_reaches
  | bayClear tag b => exact State.serve_reaches_any h ownBayClear_reaches
  | bayAck tag b => exact State.serve_reaches_any h ownBayAck_reaches
  | planOpen tag b =>
    cases h
    exact s.serve_reaches tag _ b _ fun u v hg _ => ownPlanOpen_reaches u v (stage_run_of hg)
  | planEntry tag b => exact execPlanEntry_reaches h
  | planCancel tag b => exact State.serve_reaches_any h ownPlanCancel_reaches
  | loadClose tag b => exact State.serve_reaches_any h ownLoadClose_reaches
  | bayQuery tag b => exact State.serve_reaches_any h ownBayQuery_reaches
  | inputAssign tag b => exact State.serve_reaches_any h ownInputAssign_reaches
  | outputAssign tag b => exact State.serve_reaches_any h ownOutputAssign_reaches
  | beaconSet tag b => exact State.serve_reaches_any h ownBeaconSet_reaches
  | ioQuery tag b => exact State.serve_reaches_any h fun _ _ => .ok _ .refl
  | status tag b => exact State.serve_reaches_any h fun _ _ => .ok _ .refl
  | faultReport tag b => exact State.serve_reaches_any h ownFaultReport_reaches
  | faultMask tag b => exact State.serve_reaches_any h ownFaultMask_reaches
  | unknownRequest tag kind => exact execUnknownRequest_reaches h
  | hostFrameReceived tag r bytes => cases h; exact (s.hearFrame_mild _ _).reaches
  | hostByteGap g => cases h; exact (s.hearNoFrame_mild _).reaches
  | hostFrameSent =>
    cases h
    exact ((State.setHlu_mild s.hlu.endFrame_kept).trans (State.startFrame_mild _)).reaches
  | hostSilenceExpiry => exact execHostSilenceExpiry_reaches h
  | statusRecord port bytes => exact execStatusRecord_reaches h
  | craneRecordGap port g => cases h; exact (s.hearNoRecord_mild _ _).reaches
  | commandRecordSent port =>
    cases h
    exact (State.modPort_mild port fun p hp => by rwa [p.finish_errors]).reaches
  | linkWatchdogExpiry c => exact execLinkWatchdogExpiry_reaches h
  | settleDeadlineExpiry c => exact execSettleDeadlineExpiry_reaches h
  | trailExpiry b => exact execTrailExpiry_reaches h
  | stretchExpiry c => exact execStretchExpiry_reaches h
  | rawLineChange line high => exact execRawLineChange_reaches h
  | settlingEnd line => exact execSettlingEnd_reaches h
  | frameByteError e => exact execFrameByteError_reaches h
  | recordByteError e => cases h; exact (s.hearNoRecord_mild _ _).reaches

theorem step_reaches {s t : State} (h : step s = .next t) : s.Reaches t := by
  unfold step at h
  split at h
  · cases h; exact (s.setNow_mild _).reaches
  · exact (State.setPending_mild s _).reaches.trans (exec_reaches h)

end Sys2Proof.Machine
end

section
/-! SUPPORT. The three invariants are kept by each change, so by each step. -/

namespace Sys2Proof.Machine

/-! ## Tables and queues -/

theorem Table.length_put_le {α : Type} (k : Nat) (v : α) (t : List (Nat × α)) :
    (Table.put k v t).length ≤ t.length + 1 := by
  induction t with
  | nil => simp [Table.put]
  | cons e t ih =>
    unfold Table.put
    split
    · simp
    · split
      · simp
      · simpa using ih

/-- An accepted task is put into its queue, and nothing else moves but the places after it. -/
theorem placeTask_perm (t : Task) (q : List Task) : (placeTask t q).Perm (t :: q) := by
  unfold placeTask
  split
  next =>
    have hcut := List.prefix_iff_eq_append.1 (List.takeWhile_prefix (l := q) fun u => u.inFlight || u.priority)
    dsimp only
    conv_rhs => rw [← hcut]
    exact List.perm_middle
  next => exact List.perm_append_singleton t q

/-- All live tasks, by crane and queue order. -/
def Quad.tasks (q : Quad (List Task)) : List Task := allNum4.flatMap fun c => q.get c

theorem Quad.tasks_eq (q : Quad (List Task)) : q.tasks = q.at1 ++ (q.at2 ++ (q.at3 ++ q.at4)) := by
  simp [Quad.tasks, allNum4, Quad.get]

theorem Quad.tasks_set_perm {q : Quad (List Task)} {c : CraneId} {t : Task} {l : List Task}
    (h : l.Perm (t :: q.get c)) : (q.set c l).tasks.Perm (t :: q.tasks) := by
  refine List.perm_iff_count.2 fun x => ?_
  have hcount := List.perm_iff_count.1 h x
  rw [Quad.tasks_eq, Quad.tasks_eq]
  cases c <;>
  · simp only [Quad.set, Quad.get, List.count_cons, List.count_append] at hcount ⊢
    omega

theorem Quad.tasks_ids_sublist {q r : Quad (List Task)}
    (h : ∀ c, ((r.get c).map (·.id)).Sublist ((q.get c).map (·.id))) :
    (r.tasks.map (·.id)).Sublist (q.tasks.map (·.id)) := by
  simp only [Quad.tasks_eq, List.map_append]
  exact (h .n1).append ((h .n2).append ((h .n3).append (h .n4)))

theorem State.task?_eq_none {s : State} {id : Nat} (h : s.task? id = none) :
    id ∉ s.tcu.queues.tasks.map (·.id) := by
  intro hmem
  obtain ⟨t, ht, rfl⟩ := List.mem_map.1 hmem
  obtain ⟨c, hc, hq⟩ := List.mem_flatMap.1 ht
  have hfind := List.findSome?_eq_none_iff.1 h c hc
  rw [Option.map_eq_none_iff, List.find?_eq_none] at hfind
  exact hfind t hq (by simp)

/-! ## Canonical tables and unique ids -/

theorem slots_lt_iff {t : List (Nat × Slot)} :
    (∀ e ∈ t, e.1 < Config.slotCount) ↔ ∀ k ∈ t.map (·.1), k < Config.slotCount := by
  simp

theorem State.Mild.keyed {s t : State} (h : s.Mild t) (hs : s.Keyed) : t.Keyed := by
  obtain ⟨hslots, hcoils, hlt, hids⟩ := hs
  refine ⟨?_, List.Pairwise.sublist h.smu.coils hcoils, ?_, ?_⟩
  · unfold Table.wf
    rwa [h.smu.slots]
  · rw [slots_lt_iff] at hlt ⊢
    rwa [h.smu.slots]
  · exact hids.sublist (Quad.tasks_ids_sublist h.tcu.queues)

theorem Smu.keys_emptied (u : Smu) : u.emptied.slots.map (·.1) = u.slots.map (·.1) := by
  simp [Smu.emptied]

theorem State.tasksUnique_of_empty {s : State} (hq : s.tcu.queues = .all []) : s.TasksUnique := by
  unfold State.TasksUnique
  rw [hq]
  exact List.nodup_nil

/-- A state whose tables are the emptied ones and whose queues are empty. -/
theorem State.keyed_of_emptied {s t : State} (hs : s.Keyed) (hsmu : t.smu = s.smu.emptied)
    (hq : t.tcu.queues = .all []) : t.Keyed := by
  obtain ⟨hslots, -, hlt, -⟩ := hs
  refine ⟨?_, ?_, ?_, ?_⟩
  · rw [Table.wf, hsmu, Smu.keys_emptied]
    exact hslots
  · rw [hsmu]
    exact List.Pairwise.nil
  · rw [slots_lt_iff] at hlt ⊢
    rwa [hsmu, Smu.keys_emptied]
  · exact State.tasksUnique_of_empty hq

theorem State.keyed_fresh (start : FlagId) (straps : Straps) (lines : BitVec 32) (now : Nat)
    (q : List Instr) : (State.fresh start straps lines now q).Keyed :=
  ⟨List.Pairwise.nil, List.Pairwise.nil, fun _ h => (nomatch h), State.tasksUnique_of_empty rfl⟩

theorem State.Change.keyed {s t : State} (h : s.Change t) (hs : s.Keyed) : t.Keyed := by
  have hs' := hs
  obtain ⟨hslots, hcoils, hlt, hids⟩ := hs'
  cases h with
  | mild h => exact h.keyed hs
  | powerOn start straps lines now q => exact State.keyed_fresh start straps lines now q
  | @defineSlot i v hi =>
    refine ⟨Table.wf_put i v hslots, hcoils, fun e he => ?_, hids⟩
    rcases Table.mem_put he with rfl | he
    · exact hi
    · exact hlt e he
  | undefineSlot i =>
    exact ⟨Table.wf_drop i hslots, hcoils, fun e he => hlt e (List.mem_filter.1 he).1, hids⟩
  | shadowSet c p hg => exact hs
  | commit hg => exact State.keyed_of_emptied hs rfl rfl
  | openYard => exact hs
  | closeYard hb hq => exact hs
  | clear => exact State.keyed_of_emptied hs rfl rfl
  | addCoil id k hg hl => exact ⟨hslots, Table.wf_put id k hcoils, hlt, hids⟩
  | @queueTask c t hg hl hid =>
    refine ⟨hslots, hcoils, hlt, ?_⟩
    have hperm := (Quad.tasks_set_perm (c := c) (placeTask_perm t (s.tcu.queues.get c))).map (·.id)
    exact hperm.nodup_iff.2 (List.nodup_cons.2 ⟨State.task?_eq_none hid, hids⟩)
  | build u hg hl hm => exact hs
  | install b p hm => exact hs

/-! ## Capacities and counters -/

theorem State.Mild.bounded {s t : State} (h : s.Mild t) (hs : s.Bounded) : t.Bounded := by
  obtain ⟨hnotices, hinbound, hcoils, hqueues, hwindows, hplans, hbuild, hlost, hframe, hover, hmis,
    hports⟩ := hs
  refine ⟨h.fnu.notices hnotices, h.hlu.inbound hinbound, ?_, fun c => ?_, fun c => ?_, fun b y p hy => ?_,
    fun u hu => ?_, h.fnu.lost hlost, h.hlu.frameErrors hframe, h.hlu.overruns hover,
    h.tcu.mismatches hmis, fun c => h.ports c (hports c)⟩
  · have hle := h.smu.coils.length_le
    simp only [List.length_map] at hle
    exact hle.trans hcoils
  · have hle := (h.tcu.queues c).length_le
    simp only [List.length_map] at hle
    exact hle.trans (hqueues c)
  · exact h.hoists.window c (hwindows c)
  · exact h.bcu.plans (fun b y hy p => hplans b y p hy) b y hy p
  · rcases h.bcu.build with hb | hb
    · exact hbuild u (hb ▸ hu)
    · simp [hb] at hu

theorem State.bounded_fresh (start : FlagId) (straps : Straps) (lines : BitVec 32) (now : Nat)
    (q : List Instr) : (State.fresh start straps lines now q).Bounded := by
  refine ⟨by simp [State.fresh, Fnu.powerOn, Config.noticeMax], Nat.zero_le _, Nat.zero_le _, fun c => ?_,
    fun c h hh => ?_, fun b y p hy => ?_, fun u hu => ?_, Nat.zero_le _, Nat.zero_le _, Nat.zero_le _,
    Nat.zero_le _, fun c => ?_⟩
  · simp [State.fresh, Tcu.powerOn]
  · simp [State.fresh] at hh
  · simp [State.fresh, Bcu.powerOn] at hy
  · simp [State.fresh, Bcu.powerOn] at hu
  · simp [State.fresh, Port.powerOn]

theorem State.Change.bounded {s t : State} (h : s.Change t) (hs : s.Bounded) : t.Bounded := by
  have hs' := hs
  obtain ⟨hnotices, hinbound, hcoils, hqueues, hwindows, hplans, hbuild, hlost, hframe, hover, hmis,
    hports⟩ := hs'
  cases h with
  | mild h => exact h.bounded hs
  | powerOn start straps lines now q => exact State.bounded_fresh start straps lines now q
  | defineSlot v hi => exact hs
  | undefineSlot i => exact hs
  | shadowSet c p hg => exact hs
  | commit hg =>
    refine ⟨hnotices, hinbound, Nat.zero_le _, fun c => ?_, fun c h hh => ?_, fun b y p hy hp => ?_, hbuild,
      hlost, hframe, hover, hmis, fun c => ?_⟩
    · simp [State.committedYard]
    · simp only [State.committedYard, Quad.get_map, Option.map_eq_some_iff] at hh
      obtain ⟨_, -, rfl⟩ := hh
      exact Nat.zero_le _
    · simp only [State.committedYard, Quad.get_map, Option.map_eq_some_iff] at hy
      obtain ⟨_, -, rfl⟩ := hy
      exact nomatch hp
    · simpa [State.committedYard] using hports c
  | openYard => exact hs
  | closeYard hb hq => exact hs
  | clear =>
    refine ⟨Nat.zero_le _, hinbound, Nat.zero_le _, fun c => ?_, hwindows, fun b y p hy hp => ?_,
      fun u hu => (nomatch hu), Nat.zero_le _, Nat.zero_le _, Nat.zero_le _, Nat.zero_le _, fun c => ?_⟩
    · simp [State.cleared, Tcu.powerOn]
    · simp only [State.cleared, Quad.get_map, Option.map_eq_some_iff] at hy
      obtain ⟨_, -, rfl⟩ := hy
      exact nomatch hp
    · simp [State.cleared]
  | addCoil id k hg hl =>
    exact ⟨hnotices, hinbound, (Table.length_put_le id k _).trans hl, hqueues, hwindows, hplans, hbuild,
      hlost, hframe, hover, hmis, hports⟩
  | @queueTask c t hg hl hid =>
    refine ⟨hnotices, hinbound, hcoils, fun d => ?_, hwindows, hplans, hbuild, hlost, hframe, hover, hmis,
      hports⟩
    simp only [State.tcu_setQueue, Quad.get_set]
    split
    · rw [(placeTask_perm t _).length_eq]
      exact hl
    · exact hqueues d
  | build u hg hl hm =>
    refine ⟨hnotices, hinbound, hcoils, hqueues, hwindows, hplans, fun v hv => ?_, hlost, hframe, hover,
      hmis, hports⟩
    obtain rfl := Option.some.inj hv
    exact ⟨hl, hm hs⟩
  | install b p hm =>
    refine ⟨hnotices, hinbound, hcoils, hqueues, hwindows, fun d y q hy hq => ?_, hbuild, hlost, hframe,
      hover, hmis, hports⟩
    simp only [State.bcu_modBay, Quad.modify, Quad.get_set] at hy
    split at hy
    · obtain ⟨x, -, rfl⟩ := Option.map_eq_some_iff.1 hy
      obtain rfl := Option.some.inj hq
      exact hm hs
    · exact hplans d y q hy hq

/-! ## The promises of the stage -/

theorem Quad.eq_all_none {α : Type} {q r : Quad (Option α)} (h : q.NoneKept r) (hq : q = .all none) :
    r = .all none :=
  Quad.eq_of_get fun i => by rw [h i (by simp [hq])]; simp

theorem Duo.eq_both_none {α : Type} {q r : Duo (Option α)} (h : q.NoneKept r) (hq : q = .both none) :
    r = .both none := by
  have ha := h .a (by simp [hq])
  have hb := h .b (by simp [hq])
  cases r
  simp_all [Duo.get, Duo.both]

theorem Tcu.Kept.no_tasks {u v : Tcu} (h : u.Kept v) (hu : u.queues = .all []) : v.queues = .all [] :=
  Quad.eq_of_get fun c => by
    have hids := h.queues c
    rw [hu] at hids
    simpa using hids

theorem State.Mild.staged {s t : State} (h : s.Mild t) (hs : s.Staged) : t.Staged := by
  obtain ⟨hconfig, hbuild⟩ := hs
  refine ⟨fun hg => ?_, fun hg => ?_⟩
  · obtain ⟨hlinks, hhoists, hrcu, hbays, hqueues, hshadow, hcoils⟩ := hconfig (h.lsu.stage ▸ hg)
    refine ⟨Quad.eq_all_none h.links hlinks, Quad.eq_all_none h.hoists.none hhoists, ?_,
      Quad.eq_all_none h.bcu.bays hbays, h.tcu.no_tasks hqueues, Quad.eq_all_none h.lsu.shadow hshadow, ?_⟩
    · have hcranes := Quad.eq_all_none h.rcu.cranes (by rw [hrcu])
      have hviews := Duo.eq_both_none h.rcu.views (by rw [hrcu])
      have hzones := Quad.eq_all_none h.rcu.zones (by rw [hrcu])
      rw [← hcranes, ← hviews, ← hzones]
    · simpa [hcoils] using h.smu.coils
  · obtain ⟨hb, hqueues⟩ := hbuild (h.lsu.stage ▸ hg)
    refine ⟨?_, h.tcu.no_tasks hqueues⟩
    rcases h.bcu.build with e | e
    · rw [e, hb]
    · exact e

theorem State.no_tasks_of_not_busy {s : State} (h : s.yardBusy = none) : s.tcu.queues = .all [] := by
  refine Quad.eq_of_get fun c => ?_
  unfold State.yardBusy at h
  split at h
  · simp at h
  next hq =>
    have hempty := List.find?_eq_none.1 hq c (by cases c <;> decide)
    simpa using hempty

theorem State.staged_fresh (start : FlagId) (straps : Straps) (lines : BitVec 32) (now : Nat)
    (q : List Instr) : (State.fresh start straps lines now q).Staged :=
  ⟨fun _ => ⟨rfl, rfl, rfl, rfl, rfl, rfl, rfl⟩, fun _ => ⟨rfl, rfl⟩⟩

theorem State.Change.staged {s t : State} (h : s.Change t) (hs : s.Staged) : t.Staged := by
  have hs' := hs
  obtain ⟨hconfig, hidle⟩ := hs'
  cases h with
  | mild h => exact h.staged hs
  | powerOn start straps lines now q => exact State.staged_fresh start straps lines now q
  | defineSlot v hi => exact hs
  | undefineSlot i => exact hs
  | shadowSet c p hg => exact ⟨fun h => absurd h hg, hidle⟩
  | commit hg => exact ⟨fun h => (nomatch h), fun _ => ⟨(hidle (by simp [hg])).1, rfl⟩⟩
  | openYard => exact ⟨fun h => (nomatch h), fun h => absurd rfl h⟩
  | closeYard hb hq => exact ⟨fun h => (nomatch h), fun _ => ⟨hb, State.no_tasks_of_not_busy hq⟩⟩
  | clear => exact ⟨fun h => (nomatch h), fun _ => ⟨rfl, rfl⟩⟩
  | addCoil id k hg hl => exact ⟨fun h => absurd h hg, hidle⟩
  | queueTask hg hl hid =>
    exact ⟨fun h => absurd (hg.symm.trans h) (by decide), fun h => absurd hg h⟩
  | build u hg hl hm => exact ⟨fun h => absurd (hg.symm.trans h) (by decide), fun h => absurd hg h⟩
  | @install b p hm =>
    refine ⟨fun h => ?_, hidle⟩
    obtain ⟨hlinks, hhoists, hrcu, hbays, hrest⟩ := hconfig h
    refine ⟨hlinks, hhoists, hrcu, ?_, hrest⟩
    exact Quad.eq_all_none (.modify _ _ _) hbays

/-! ## Along a chain of changes -/

/-- A property that every change keeps is kept along a chain of changes. -/
theorem State.Reaches.keeps {P : State → Prop} (hP : ∀ {s t : State}, s.Change t → P s → P t) {s t : State}
    (h : s.Reaches t) (hs : P s) : P t := by
  induction h with
  | refl => exact hs
  | tail _ hlast ih => exact hP hlast ih

end Sys2Proof.Machine
end

section
/-! SUPPORT. The statements about the three invariants, settled. -/

namespace Sys2Proof

open Machine

/-- Settles O57: a step is a chain of changes, and each change keeps the tables' form and the ids unique. -/
theorem stepKeepsKeyed : Obligations.StepKeepsKeyed :=
  fun _ _ hs h => (step_reaches h).keeps State.Change.keyed hs

/-- Settles O58: each change keeps the capacities and the counters' limits. -/
theorem stepKeepsBounded : Obligations.StepKeepsBounded :=
  fun _ _ hs h => (step_reaches h).keeps State.Change.bounded hs

/-- Settles O59: each change keeps the promises of the stage. -/
theorem stepKeepsStaged : Obligations.StepKeepsStaged :=
  fun _ _ hs h => (step_reaches h).keeps State.Change.staged hs

/-- Settles O60: power-on meets each invariant, whatever went before. -/
theorem resetIsWellKept : Obligations.ResetIsWellKept :=
  ⟨State.keyed_fresh _ _ _ _ _, State.bounded_fresh _ _ _ _ _, State.staged_fresh _ _ _ _ _⟩

end Sys2Proof
end

section
/-! SUPPORT. Bytes of the host link: the two bytes of a CRC, and a whole frame at a hunting receiver; what a
frame that is received does to the state. -/

namespace Sys2Proof.Machine

/-! ## Words in bytes -/

/-- The two bytes of a word spell it, and no others do. -/
theorem bytes2_eq_iff {hi lo : Byte} {n : Nat} (h : n < 65536) : [hi, lo] = bytes2 n ↔ nat2 hi lo = n := by
  have hhi := hi.isLt
  have hlo := lo.isLt
  simp only [bytes2, byteOf, nat2, List.cons.injEq, and_true, ← BitVec.toNat_inj, BitVec.toNat_ofNat]
  omega

/-! ## Frames at a receiver -/

/-- Inside a frame nothing is judged before the length byte, and then not before the whole frame. -/
theorem judgeFrame_take_more {kind tag hi lo : Byte} {body : List Byte} (hb : body.length ≤ 240) {k : Nat}
    (hk : k ≤ body.length + 4) :
    judgeFrame ((kind :: tag :: byteOf body.length :: (body ++ [hi, lo])).take k) = .more := by
  have hlen : (byteOf body.length).toNat = body.length := by
    simp only [byteOf, BitVec.toNat_ofNat]
    omega
  match k with
  | 0 => rfl
  | 1 => rfl
  | 2 => rfl
  | j + 3 =>
    refine judgeFrame_more (rest := (body ++ [hi, lo]).take j) (by rw [hlen]; exact hb) ?_
    rw [hlen, List.length_take, List.length_append, List.length_cons, List.length_singleton]
    omega

/-- A whole frame is good where its CRC is the one computed, else bad (R182). -/
theorem judgeFrame_whole {kind tag hi lo : Byte} {body : List Byte} (hb : body.length ≤ 240) :
    judgeFrame (kind :: tag :: byteOf body.length :: (body ++ [hi, lo])) =
      if nat2 hi lo = (crc16 (kind :: tag :: byteOf body.length :: body)).toNat then
        .good ⟨kind, tag, body⟩ else .bad := by
  have hlen : (byteOf body.length).toNat = body.length := by
    simp only [byteOf, BitVec.toNat_ofNat]
    omega
  have hcrc := bytes2_eq_iff (hi := hi) (lo := lo)
    (crc16 (kind :: tag :: byteOf body.length :: body)).isLt
  simp only [judgeFrame, hlen, Config.bodyMax, List.length_append, List.length_cons, List.length_nil,
    List.take_left', List.drop_left', hcrc]
  rw [if_neg (by omega), if_neg (by omega)]

theorem Receiver.feedHost_whole {kind tag hi lo : Byte} {body : List Byte} (hb : body.length ≤ 240) :
    Receiver.hunting.feedHost (0xA5 :: kind :: tag :: byteOf body.length :: (body ++ [hi, lo])) =
      if nat2 hi lo = (crc16 (kind :: tag :: byteOf body.length :: body)).toNat then
        ⟨.hunting, 0, some ⟨kind, tag, body⟩⟩
      else ⟨.hunting, 1, none⟩ := by
  have hbytes : kind :: tag :: byteOf body.length :: (body ++ [hi, lo]) =
      (kind :: tag :: byteOf body.length :: (body ++ [hi])) ++ [lo] := by simp
  have hcollect := Receiver.feed_collect Config.hostSync judgeFrame []
    (kind :: tag :: byteOf body.length :: (body ++ [hi])) [lo] fun k _ hk => by
      rw [List.nil_append, ← judgeFrame_take_more (kind := kind) (tag := tag) (hi := hi) (lo := lo) hb
        (k := k) (by simp at hk; omega), hbytes, List.take_append_of_le_length hk]
  unfold Receiver.feedHost
  have hsync : receiverAt Config.hostSync 0xA5 = .inside [] := rfl
  rw [Receiver.feed_hunting, hsync, hbytes, hcollect, List.nil_append]
  have hwhole := judgeFrame_whole (kind := kind) (tag := tag) (hi := hi) (lo := lo) hb
  rw [hbytes] at hwhole
  split
  next hc => exact Receiver.feed_good _ _ _ (hwhole.trans (if_pos hc))
  next hc => rw [Receiver.feed_bad _ _ _ (hwhole.trans (if_neg hc)), Receiver.feed_nil]

/-! ## A frame that is received -/

/-- The end of the HOST_SILENT condition is the end of a flag of no crane: the beacons stay (R171, R186). -/
theorem State.endCond_hostSilent (s : State) :
    s.endCond .hostSilent = s.setFnu (s.fnu.endCond s.lsu.settings.faultLatch .hostSilent) := by
  unfold State.endCond
  simp only [Dio.flagCleared, FlagId.crane?, ite_self]
  rfl

/-- A valid frame ends HOST_SILENT and restarts the silence timer, and does nothing else (R186). -/
theorem State.validFrame_eq (s : State) :
    s.validFrame =
      { s with
        fnu := if s.hlu.silent then s.fnu.endCond s.lsu.settings.faultLatch .hostSilent else s.fnu
        hlu :=
          { s.hlu with
            silent := false
            silence := (silenceMs s.lsu.settings.hostSilence).map fun p => s.now + p } } := by
  unfold State.validFrame State.endSilence
  cases hsil : s.hlu.silent with
  | false =>
    have hhlu : s.hlu = { s.hlu with silent := false } := by rw [← hsil]
    simp only [Bool.false_eq_true, if_false]
    conv_lhs => rw [State.restartSilence, State.setHlu, hhlu]
  | true =>
    simp only [if_true, State.endCond_hostSilent]
    rfl

/-- HOST_SILENT raises a flag of no crane (R171, R186). -/
theorem State.raise_hostSilent (s : State) : s.raise .hostSilent = s.setFnu (s.fnu.raise .hostSilent) := by
  unfold State.raise
  simp only [Dio.flagSet, FlagId.crane?, ite_self]
  rfl

theorem State.hearFrame_of_carries {s : State} {f : Frame} {heard : Fed RawFrame} {raw : RawFrame}
    (hg : heard.good = some raw) (hc : frameCarries f raw = true) :
    s.hearFrame f heard = s.validFrame.setHlu ((s.validFrame.hlu.enqueue f).hear heard) := by
  simp only [State.hearFrame, hg, hc, if_true]

theorem State.hearFrame_of_not_carries {s : State} {f : Frame} {heard : Fed RawFrame} {raw : RawFrame}
    (hg : heard.good = some raw) (hc : frameCarries f raw = false) : s.hearFrame f heard = s := by
  simp only [State.hearFrame, hg, hc, Bool.false_eq_true, if_false]

/-- With no reply waiting the head notice starts and leaves its queue (R185). -/
theorem State.startFrame_of_notice {s : State} {n : Notice} {rest : List Notice} (hr : s.hlu.reply = none)
    (hn : s.fnu.notices = n :: rest) :
    s.startFrame =
      (s.setHlu { s.hlu with sending := some (.notice n) }).setFnu { s.fnu with notices := rest } := by
  unfold State.startFrame
  split
  next h => exact nomatch hr.symm.trans h
  next h =>
    obtain ⟨rfl, rfl⟩ := List.cons.inj (hn.symm.trans h)
    rfl
  next h => exact nomatch hn.symm.trans h

/-- A frame that is received where the buffer is empty and then taken is one that is taken at once (log 3). -/
theorem State.takeFrame_hearFrame {s : State} {f : Frame} {raw : RawFrame} (hh : s.hlu.handling = none)
    (hi : s.hlu.inbound = []) (he : s.hlu.frameErrors ≤ 65535) (hc : frameCarries f raw = true) :
    (s.hearFrame f ⟨.hunting, 0, some raw⟩).takeFrame f = s.takeFrame f := by
  have herrors : bumpBy s.hlu.frameErrors 0 = s.hlu.frameErrors := by
    rw [bumpBy_eq_min]
    omega
  rw [State.hearFrame_of_carries rfl hc, State.validFrame_eq]
  simp only [Hlu.enqueue, Hlu.hear, hi, List.length_nil, Config.inboundMax, Nat.zero_lt_succ, if_true,
    List.nil_append, herrors]
  rw [State.takeFrame_head (rest := []) (by simpa using hh) rfl]
  simp only [State.takeFrame, hh, hi, State.validFrame_eq]
  rfl

end Sys2Proof.Machine
end

section
/-! SUPPORT. How every request is judged before its owner sees it: one statement for all request rows. -/

namespace Sys2Proof.Machine

/-- How a request's row-picking field outside its set is refused (log 6). -/
def selectorOf : Request → Selector
  | .runwayDefineSet _ => defineSelector
  | .runwayDefineClear _ => defineSelector
  | .craneDefineSet _ => rowSelector
  | .craneDefineClear _ => rowSelector
  | .slotDefineSet _ => defineSelector
  | .slotDefineClear _ => defineSelector
  | .bayDefineSet _ => defineSelector
  | .bayDefineClear _ => defineSelector
  | .restartAll _ => rowSelector
  | .restartYard _ => rowSelector
  | _ => noSelector

/-- What happens to a request that its owner does not see: it is not taken, or it is refused by one of
checks 2 to 4 of R184. -/
structure Judges (c : Instr) (f : Frame) (s : State) : Prop where
  notTaken : s.takeFrame f = none → exec c s = .next s
  badLength : ∀ s0 n, s.takeFrame f = some s0 → requestShape f.request = .badLength n →
    exec c s = .next (s0.nacked f.tag (requestCode f.request) .badLength n)
  build : ∀ s0 u, s.takeFrame f = some s0 → breaksBuild f.request = true →
    (∀ n, requestShape f.request ≠ .badLength n) → s0.bcu.build = some u →
    exec c s = .next (s0.discardBuild.nacked f.tag (requestCode f.request) .planInProgress (numVal u.bay))
  selector : ∀ s0, s.takeFrame f = some s0 → requestShape f.request = .badSelector → s0.bcu.build = none →
    exec c s = .next (if (selectorOf f.request).stages s0.lsu.stage then
        s0.nacked f.tag (requestCode f.request) .badValue (selectorOf f.request).detail
      else s0.nacked f.tag (requestCode f.request) .wrongStage 0)
  stage : ∀ s0, s.takeFrame f = some s0 → requestShape f.request = .fields → s0.bcu.build = none →
    (∀ k, f.request ≠ .unknown k) → acceptedIn f.request s0.lsu.stage = false →
    exec c s = .next (s0.nacked f.tag (requestCode f.request) .wrongStage 0)

/-- A served request is judged in this way. -/
theorem Judges.of_serve {α : Type} {c : Instr} {f : Frame} {b : Body α} {own : State → α → Verdict}
    (he : ∀ s, exec c s =
      .next (s.serve f.tag f.request b (acceptedIn f.request) (selectorOf f.request) own))
    (hb : bodyShape b = requestShape f.request) (s : State) : Judges c f s where
  notTaken h := by rw [he, State.serve_none _ _ _ _ h]
  badLength s0 n h hn := by rw [he, State.serve_badLength _ _ _ h (hb.trans hn)]
  build s0 u h _ hn hu := by rw [he, State.serve_build _ _ _ h (fun n => hb ▸ hn n) hu]
  selector s0 h hn hu := by rw [he, State.serve_badSelector _ _ h (hb.trans hn) hu]
  stage s0 h hn hu _ hg := by rw [he, State.serve_stage _ _ h (hb.trans hn) hu hg]

/-! ## The requests that are judged outside the common way -/

theorem execRestartAll_judges (tag : Byte) (b : Body Unit) (straps : Straps) (s : State) :
    Judges (.restartAll tag b straps) ⟨tag, .restartAll b⟩ s where
  notTaken h := by simp only [exec, execRestartAll, h]
  badLength s0 n h hn := by
    cases b <;> cases hn
    simp only [exec, execRestartAll, h, State.judge]
    rfl
  build s0 u h _ hn hu := by
    cases b with
    | badLength n => exact absurd rfl (hn n)
    | badSelector n => simp only [exec, execRestartAll, h, State.judge, hu]; rfl
    | fields v => simp only [exec, execRestartAll, h, State.judge, hu]; rfl
  selector s0 h hn hu := by
    cases b <;> cases hn
    simp only [exec, execRestartAll, h, State.judge, hu]
    rfl
  stage s0 h hn hu _ hg := nomatch hg

theorem execRestartYard_judges (tag : Byte) (b : Body Unit) (s : State) :
    Judges (.restartYard tag b) ⟨tag, .restartYard b⟩ s where
  notTaken h := by simp only [exec, execRestartYard, h]
  badLength s0 n h hn := by
    cases b <;> cases hn
    simp only [exec, execRestartYard, h, State.judge]
    rfl
  build s0 u h _ hn hu := by
    cases b with
    | badLength n => exact absurd rfl (hn n)
    | badSelector n => simp only [exec, execRestartYard, h, State.judge, hu]; rfl
    | fields v => simp only [exec, execRestartYard, h, State.judge, hu]; rfl
  selector s0 h hn hu := by
    cases b <;> cases hn
    simp only [exec, execRestartYard, h, State.judge, hu]
    rfl
  stage s0 h hn hu _ hg := by
    have hcommitted : committed s0.lsu.stage = false := hg
    cases b <;> cases hn
    simp only [exec, execRestartYard, h, State.judge, hu, hcommitted, Bool.false_eq_true, if_false]
    rfl

theorem execPlanEntry_judges (tag : Byte) (b : Body PlanEntry) (s : State) :
    Judges (.planEntry tag b) ⟨tag, .planEntry b⟩ s where
  notTaken h := by simp only [exec, execPlanEntry, h]
  badLength s0 n h hn := by
    cases b <;> cases hn
    simp only [exec, execPlanEntry, h, State.judgeEntry]
    rfl
  build s0 u h hbreaks hn hu := nomatch hbreaks
  selector s0 h hn hu := by
    cases b <;> cases hn
    simp only [exec, execPlanEntry, h, State.judgeEntry]
    rfl
  stage s0 h hn hu _ hg := by
    have hrun : s0.lsu.stage ≠ .run := by simpa [acceptedIn, inRun] using hg
    cases b <;> cases hn
    simp only [exec, execPlanEntry, h, State.judgeEntry, if_pos hrun]
    rfl

theorem execUnknownRequest_judges (tag kind : Byte) (s : State) :
    Judges (.unknownRequest tag kind) ⟨tag, .unknown kind⟩ s where
  notTaken h := by simp only [exec, execUnknownRequest, h]
  badLength s0 n h hn := nomatch hn
  build s0 u h hbreaks hn hu := nomatch hbreaks
  selector s0 h hn hu := nomatch hn
  stage s0 h hn hu hk hg := absurd rfl (hk kind)

/-- Every request row is judged in this way. -/
theorem exec_judges {c : Instr} {f : Frame} (h : frameOf c = some f) (s : State) : Judges c f s := by
  cases c <;> cases h
  case restartAll tag b straps => exact execRestartAll_judges tag b straps s
  case restartYard tag b => exact execRestartYard_judges tag b s
  case planEntry tag b => exact execPlanEntry_judges tag b s
  case unknownRequest tag kind => exact execUnknownRequest_judges tag kind s
  all_goals exact Judges.of_serve (fun _ => rfl) rfl s

/-- The records a build created are dropped from the register (R38, R156). -/
theorem State.discardBuild_of_build {s : State} {u : Build} (h : s.bcu.build = some u) :
    s.discardBuild =
      { s with smu := s.smu.deleteOnTruck u.bay u.created, bcu := { s.bcu with build := none } } := by
  simp only [State.discardBuild, h]
  rfl

theorem State.discardBuild_eq (s : State) :
    s.discardBuild =
      { s with
        bcu := { s.bcu with build := none }
        smu := match s.bcu.build with
          | none => s.smu
          | some u => s.smu.deleteOnTruck u.bay u.created } := by
  cases hb : s.bcu.build with
  | none =>
    have hbcu : ({ s.bcu with build := none } : Bcu) = s.bcu := by rw [← hb]
    simp only [State.discardBuild, hb, hbcu]
  | some u => exact State.discardBuild_of_build hb

theorem Build.mem_created_iff (u : Build) (id : Nat) :
    id ∈ u.created ↔ u.head.kind = .unload ∧ id ∈ u.entries.map (·.2) := by
  unfold Build.created
  split <;> simp_all

theorem Smu.deleteOnTruck_created_coils (m : Smu) (u : Build) :
    (m.deleteOnTruck u.bay u.created).coils = m.coils.filter fun e =>
      !(decide (u.head.kind = .unload ∧ e.1 ∈ u.entries.map (·.2)) &&
        match e.2.location with
        | .cradle b _ => b == u.bay
        | .slot _ => false
        | .hook _ => false) := by
  refine List.filter_congr fun e _ => ?_
  have hcreated : u.created.contains e.1 =
      decide (u.head.kind = .unload ∧ e.1 ∈ u.entries.map (·.2)) := by
    rw [List.contains_eq_mem, decide_eq_decide]
    exact u.mem_created_iff e.1
  refine congrArg (! ·) (congrArg₂ and hcreated ?_)
  cases e.2.location <;> rfl

end Sys2Proof.Machine
end

section
/-! SUPPORT. The statements about the step and the host link, settled. -/

namespace Sys2Proof

open Machine

/-- Settles O1: the arm of a queue that is not empty. -/
theorem stepRunsFrontCommand : Obligations.StepRunsFrontCommand := fun _ _ _ => rfl

/-- Settles O2: a request answers whether it is taken or not, and each event in each of its branches. -/
theorem everyStepAnswersNext : Obligations.EveryStepAnswersNext := by
  refine ⟨fun s h => ?_, fun c s => ?_⟩
  · unfold step
    split
    next => rfl
    next hq => exact nomatch h.symm.trans hq
  cases c
  case restartAll =>
    simp only [exec, execRestartAll]
    split
    · exact ⟨_, rfl⟩
    · split <;> exact ⟨_, rfl⟩
  case restartYard =>
    simp only [exec, execRestartYard]
    split
    · exact ⟨_, rfl⟩
    · split <;> exact ⟨_, rfl⟩
  case planEntry => simp only [exec, execPlanEntry]; split <;> exact ⟨_, rfl⟩
  case unknownRequest => simp only [exec, execUnknownRequest]; split <;> exact ⟨_, rfl⟩
  case hostSilenceExpiry => simp only [exec, execHostSilenceExpiry]; split <;> exact ⟨_, rfl⟩
  case statusRecord => simp only [exec, execStatusRecord]; split <;> exact ⟨_, rfl⟩
  case linkWatchdogExpiry =>
    simp only [exec, execLinkWatchdogExpiry]
    split
    · exact ⟨_, rfl⟩
    · split <;> exact ⟨_, rfl⟩
  case settleDeadlineExpiry => simp only [exec, execSettleDeadlineExpiry]; split <;> exact ⟨_, rfl⟩
  case trailExpiry => simp only [exec, execTrailExpiry]; split <;> exact ⟨_, rfl⟩
  case stretchExpiry => simp only [exec, execStretchExpiry]; split <;> exact ⟨_, rfl⟩
  case rawLineChange => simp only [exec, execRawLineChange]; split_ifs <;> exact ⟨_, rfl⟩
  case settlingEnd => simp only [exec, execSettlingEnd]; split <;> exact ⟨_, rfl⟩
  case frameByteError => simp only [exec, execFrameByteError]; split <;> exact ⟨_, rfl⟩
  all_goals exact ⟨_, rfl⟩

/-- Settles O4: the receiver skips to a sync byte, judges a whole frame by its CRC, and the frame that it
names waits or overruns. -/
theorem hostFrameReception : Obligations.HostFrameReception := by
  refine ⟨fun skipped rest h => Receiver.feed_skip _ _ skipped rest h,
    fun kind tag body hi lo hb => Receiver.feedHost_whole hb, fun tag r bytes s => ⟨fun hg => ?none,
      fun body hg => ?good, fun raw hg hne => ?other⟩⟩
  case none =>
    simp only [exec, execHostFrameReceived, State.hearFrame, hg]
    rfl
  case good =>
    have hc : frameCarries ⟨tag, r⟩ ⟨requestCode r, tag, body⟩ = true := by simp [frameCarries]
    simp only [exec, execHostFrameReceived]
    rw [State.hearFrame_of_carries hg hc, State.validFrame_eq]
    simp only [Hlu.enqueue, Hlu.hear, Config.inboundMax, State.setHlu, bump_eq_min, bumpBy_eq_min]
    by_cases hl : s.hlu.inbound.length < 3 <;>
    · simp only [hl, if_true, if_false]
      cases s.lsu.settings.hostSilence <;> cases s.hlu.silent <;> rfl
  case other =>
    have hc : frameCarries ⟨tag, r⟩ raw = false := by
      simp only [frameCarries, Bool.and_eq_false_iff, beq_eq_false_iff_ne]
      exact hne
    simp only [exec, execHostFrameReceived]
    rw [State.hearFrame_of_not_carries hg hc]

/-- Settles O5: an event that completes nothing good counts what it breaks off, on either kind of line. -/
theorem brokenFramesAreCounted : Obligations.BrokenFramesAreCounted := by
  refine ⟨fun s before => ⟨fun hg => ⟨fun late => ?gap, ?stop, fun kind tag n hin hn => ?long⟩,
      fun raw hg => ⟨fun late => ?gapGood, fun n => ?errorGood⟩⟩,
    fun s c before => ⟨fun hg => ⟨fun late => ?craneGap, ?craneStop⟩, fun r hg => ⟨fun late => ?craneGapGood,
      ?craneStopGood⟩⟩⟩
  case gap =>
    have heard := State.hearNoFrame_eq s (f := (s.hlu.receiver.feedHost before).gap Config.hostSync late) hg
    exact congrArg Host.Outcome.next (heard.trans (by rw [Fed.gap, Receiver.broken_eq]; rfl))
  case stop =>
    have heard := State.hearNoFrame_eq s (f := (s.hlu.receiver.feedHost before).stopBit) hg
    exact congrArg Host.Outcome.next (heard.trans (by rw [Fed.stopBit, Receiver.broken_eq]; rfl))
  case long =>
    have hsnoc := Receiver.feed_snoc Config.hostSync judgeFrame s.hlu.receiver before n hg
    have hbad := Receiver.feed_bad Config.hostSync judgeFrame (got := [kind, tag]) (b := n) []
      (judgeFrame_long kind tag [] hn)
    simp only [exec, execFrameByteError]
    have hin' : (s.hlu.receiver.feed Config.hostSync judgeFrame before).receiver = .inside [kind, tag] := hin
    rw [hin', hbad, Receiver.feed_nil] at hsnoc
    have hfed : s.hlu.receiver.feedHost (before ++ [n]) = _ := hsnoc
    rw [State.hearNoFrame_eq _ (by rw [hfed]), hfed]
    rfl
  case gapGood =>
    exact congrArg Host.Outcome.next
      (State.hearNoFrame_good s (f := (s.hlu.receiver.feedHost before).gap Config.hostSync late) hg)
  case errorGood =>
    cases n with
    | none =>
      exact congrArg Host.Outcome.next
        (State.hearNoFrame_good s (f := (s.hlu.receiver.feedHost before).stopBit) hg)
    | some n =>
      have happend : s.hlu.receiver.feedHost (before ++ [n]) = s.hlu.receiver.feedHost before :=
        Receiver.feed_append_good _ _ _ _ _ _ hg
      simp only [exec, execFrameByteError, happend, State.hearNoFrame_good s hg]
  case craneGap =>
    have heard := State.hearNoRecord_eq s c (f := (s.feedPort c before).gap Config.craneSync late) hg
    exact congrArg Host.Outcome.next (heard.trans (by rw [Fed.gap, Receiver.broken_eq]; rfl))
  case craneStop =>
    have heard := State.hearNoRecord_eq s c (f := (s.feedPort c before).stopBit) hg
    exact congrArg Host.Outcome.next (heard.trans (by rw [Fed.stopBit, Receiver.broken_eq]; rfl))
  case craneGapGood =>
    exact congrArg Host.Outcome.next
      (State.hearNoRecord_good s c (f := (s.feedPort c before).gap Config.craneSync late) hg)
  case craneStopGood =>
    exact congrArg Host.Outcome.next
      (State.hearNoRecord_good s c (f := (s.feedPort c before).stopBit) hg)

/-- Settles O6: the branches of the taking, and the reception of a frame that finds the buffer empty. -/
theorem takingTheOldestFrame : Obligations.TakingTheOldestFrame := by
  refine ⟨fun s f g h => State.takeFrame_busy f h, fun s f rest h hi => State.takeFrame_head h hi,
    fun s f g rest h hi hne => by simp only [State.takeFrame, h, hi, if_neg hne],
    fun s u tag r bytes body hh hi he hfed hu => ?_, fun c f s hf h => (exec_judges hf s).notTaken h⟩
  have hc : frameCarries ⟨tag, r⟩ ⟨requestCode r, tag, body⟩ = true := by simp [frameCarries]
  simp only [exec, execHostFrameReceived, hfed, Host.Outcome.next.injEq] at hu
  rw [← hu, State.takeFrame_hearFrame hh hi he hc]

/-- Settles O8: the judging of a request while a plan is being built. -/
theorem otherRequestBreaksOffBuild : Obligations.OtherRequestBreaksOffBuild := by
  intro c f s s0 u hf htake hbreaks hlength hu
  refine ⟨_, (exec_judges hf s).build s0 u htake hbreaks hlength hu, ?_, ?_, ?_⟩ <;>
    rw [State.discardBuild_of_build hu]
  · rfl
  · rfl
  · exact Smu.deleteOnTruck_created_coils s0.smu u

/-- Settles O9: the frame being sent ends, then the branches of the start of the next. -/
theorem transmitterOrder : Obligations.TransmitterOrder := by
  intro s ended
  have hreply : s.hlu.endFrame.reply = s.hlu.reply := by
    unfold Hlu.endFrame
    split <;> rfl
  refine ⟨fun r hr => ?_, fun n rest hr hn => ?_, fun hr hn => ?_⟩
  · simp only [exec, execHostFrameSent, State.startFrame, State.hlu_setHlu, hreply, hr]
    rfl
  · exact congrArg Host.Outcome.next
      (State.startFrame_of_notice (s := s.setHlu s.hlu.endFrame) (hreply.trans hr) hn)
  · simp only [exec, execHostFrameSent, State.startFrame, State.hlu_setHlu, State.fnu_setHlu, hreply, hr, hn]
    rfl

/-- Settles O10: the onset is reported where the condition was not live, and the build goes. -/
theorem hostSilenceBegins : Obligations.HostSilenceBegins := by
  refine ⟨fun s h => by simp only [exec, execHostSilenceExpiry, h], fun s t h => ?_⟩
  simp only [exec, execHostSilenceExpiry, h, State.report, State.hlu_reach]
  by_cases hsil : s.hlu.silent = true
  · simp only [hsil, Bool.not_true, Bool.and_false, Bool.false_eq_true, if_false, if_true]
    rw [State.discardBuild_eq]
    rfl
  · simp only [hsil, Bool.not_false, Bool.and_true, if_true, State.raise_hostSilent]
    rw [State.discardBuild_eq]
    rfl

end Sys2Proof
end

section
/-! SUPPORT. The fields of the definition requests and of TASK-SUBMIT: where every test of the fields passes,
they lie in the ranges of their tables. -/

namespace Sys2Proof.Machine

/-- Where the fields do not all pass, the first that fails is named by its ordinal. -/
theorem checkFrom_not_all {k : Nat} {l : List Bool} (h : ¬ ∀ b ∈ l, b = true) :
    ∃ n, k ≤ n ∧ n < k + l.length ∧ checkFrom k l = .error ⟨.badValue, n⟩ := by
  refine checkFrom_fails k l ?_
  by_contra hfalse
  exact h fun b hb => by
    cases b with
    | true => rfl
    | false => exact absurd hb hfalse

theorem within_iff {lo hi n : Nat} : within lo hi n = true ↔ lo ≤ n ∧ n ≤ hi := by
  simp [within]

theorem codedOk_iff {α : Type} {v : Coded α} : codedOk v = true ↔ ∃ a, v = .known a := by
  cases v <;> simp [codedOk]

theorem num4Ok_iff {n : Nat} : num4Ok n = true ↔ ∃ c, n = numVal c := by
  rw [num4Ok, within_iff]
  constructor
  · rintro ⟨h1, h4⟩
    obtain rfl | rfl | rfl | rfl : n = 1 ∨ n = 2 ∨ n = 3 ∨ n = 4 := by omega
    exacts [⟨.n1, rfl⟩, ⟨.n2, rfl⟩, ⟨.n3, rfl⟩, ⟨.n4, rfl⟩]
  · rintro ⟨c, rfl⟩
    cases c <;> decide

theorem slotOk_iff {n : Nat} : slotOk n = true ↔ n ≤ 1023 := by
  rw [slotOk, decide_eq_true_iff]
  exact Nat.lt_succ_iff

theorem num4?_eq_none {n : Nat} (h : ∀ c, n ≠ numVal c) : num4? n = none := by
  unfold num4?
  split
  · exact absurd rfl (h .n1)
  · exact absurd rfl (h .n2)
  · exact absurd rfl (h .n3)
  · exact absurd rfl (h .n4)
  · rfl

/-! ## The definition requests -/

theorem runwaySetChecks_all {v : RunwaySet} (h : ∀ b ∈ runwaySetChecks v, b = true) :
    (∃ r, v.runway = .known r) ∧ 1000 ≤ v.length ∧ v.length ≤ 250000 := by
  simpa [runwaySetChecks, codedOk_iff, within_iff] using h

theorem craneSetChecks_all {v : CraneSet}
    (h : ∀ b ∈ craneSetChecks v (codedOk v.runway) (within 1 3 v.order) (within 0 250000 v.xRef), b = true) :
    (∃ c, v.crane = numVal c) ∧ (∃ r, v.runway = .known r) ∧ craneFits v ∧ v.xRef ≤ 250000 := by
  simp only [craneSetChecks, List.forall_mem_cons, codedOk_iff, within_iff, num4Ok_iff] at h
  obtain ⟨hc, hr, ho, hfront, hrear, hfull, hslow, hcreep, hdecel, hreact, hx, hcap, hgain, -⟩ := h
  exact ⟨hc, hr, by unfold craneFits; omega, by omega⟩

theorem slotSetChecks_all {v : SlotSet} (h : ∀ b ∈ slotSetChecks v, b = true) :
    (∃ r, v.runway = .known r) ∧ slotFits v := by
  simp only [slotSetChecks, List.forall_mem_cons, codedOk_iff, within_iff, slotOk_iff, Bool.or_eq_true,
    bne_iff_ne] at h
  obtain ⟨hslot, hr, hrow, hx, hy, htier, hd, hm, hg, hl, hr', -⟩ := h
  exact ⟨hr, by unfold slotFits; omega⟩

theorem baySetChecks_all {v : BaySet} (h : ∀ b ∈ baySetChecks v, b = true) :
    (∃ b, v.bay = numVal b) ∧ (∃ r, v.runway = .known r) ∧ bayFits v := by
  simp only [baySetChecks, List.forall_mem_cons, codedOk_iff, within_iff, num4Ok_iff, Bool.or_eq_true,
    beq_iff_eq] at h
  obtain ⟨hb, hr, hlo, hhi, hk, hdir, hy, -⟩ := h
  exact ⟨hb, hr, by unfold bayFits; omega⟩

/-! ## TASK-SUBMIT -/

theorem sourceChecks_all {kind num cradle : Nat} (h : ∀ b ∈ sourceChecks kind num cradle, b = true) :
    ∃ p : Place, p.fits ∧ (kind, num, cradle) = p.codes := by
  simp only [sourceChecks, List.forall_mem_cons, within_iff] at h
  obtain ⟨⟨h1, h2⟩, hn, hc, -⟩ := h
  obtain rfl | rfl : kind = 1 ∨ kind = 2 := by omega
  · simp only [if_true, slotOk_iff, beq_iff_eq] at hn hc
    exact ⟨.slot num, hn, by rw [hc]; rfl⟩
  · simp only [OfNat.ofNat_ne_one, if_false, num4Ok_iff, cradleOk, within_iff, Config.planMax] at hn hc
    obtain ⟨b, rfl⟩ := hn
    exact ⟨.cradle b cradle, hc, rfl⟩

theorem destChecks_all {kind num cradle : Nat} (h : ∀ b ∈ destChecks kind num cradle, b = true) :
    ∃ d : Dest, d.fits ∧ (kind, num, cradle) = d.codes := by
  simp only [destChecks, List.forall_mem_cons, within_iff] at h
  obtain ⟨⟨h1, h3⟩, hn, hc, -⟩ := h
  obtain rfl | rfl | rfl : kind = 1 ∨ kind = 2 ∨ kind = 3 := by omega
  · simp only [if_true, slotOk_iff, OfNat.one_ne_ofNat, if_false, beq_iff_eq] at hn hc
    exact ⟨.place (.slot num), hn, by rw [hc]; rfl⟩
  · simp only [OfNat.ofNat_ne_one, if_true, if_false, beq_iff_eq, Nat.reduceEqDiff] at hn hc
    exact ⟨.auto, trivial, by rw [hn, hc]; rfl⟩
  · simp only [OfNat.ofNat_ne_one, if_true, if_false, num4Ok_iff, cradleOk, within_iff, Config.planMax,
      Nat.reduceEqDiff] at hn hc
    obtain ⟨b, rfl⟩ := hn
    exact ⟨.place (.cradle b cradle), hc, rfl⟩

/-- Fields that all pass are those of a task (Table 11-7). -/
theorem submitChecks_all {v : TaskSubmit} (h : ∀ b ∈ submitChecks v, b = true) :
    ∃ task c coil flags src dst, 1 ≤ task ∧ task ≤ 65535 ∧ 1 ≤ coil ∧ coil ≤ 4294967295 ∧
      flags.toNat < 4 ∧ src.fits ∧ dst.fits ∧ v = submitOf task c coil flags src dst := by
  simp only [submitChecks, List.forall_mem_append, List.forall_mem_cons, taskIdOk, coilIdOk, within_iff,
    num4Ok_iff, decide_eq_true_eq] at h
  obtain ⟨⟨⟨ht, ⟨c, hc⟩, hcoil, hf, -⟩, hs⟩, hd⟩ := h
  obtain ⟨src, hsrc, hs⟩ := sourceChecks_all hs
  obtain ⟨dst, hdst, hd⟩ := destChecks_all hd
  simp only [Prod.ext_iff] at hs hd
  obtain ⟨hs1, hs2, hs3⟩ := hs
  obtain ⟨hd1, hd2, hd3⟩ := hd
  refine ⟨v.task, c, v.coil, v.flags, src, dst, ht.1, ht.2, hcoil.1, hcoil.2, hf, hsrc, hdst, ?_⟩
  simp only [submitOf, ← hc, ← hs1, ← hs2, ← hs3, ← hd1, ← hd2, ← hd3]

/-! ## Requests refused by a field -/

/-- A request whose owner begins with a check of its fields is refused with the first that fails. -/
theorem State.serve_checkFrom {α : Type} {s s0 : State} {tag : Byte} {r : Request} {v : α} {k : Nat}
    {l : List Bool} {own : State → α → Verdict} {rest : Unit → Verdict} {stages : Stage → Bool}
    (sel : Selector) (h : s.Admits ⟨tag, r⟩ stages s0) (ho : own s0 v = checkFrom k l >>= rest)
    (hl : ¬ ∀ b ∈ l, b = true) :
    ∃ n, k ≤ n ∧ n < k + l.length ∧
      s.serve tag r (.fields v) stages sel own = s0.nacked tag (requestCode r) .badValue n := by
  obtain ⟨n, h1, h2, hn⟩ := checkFrom_not_all (k := k) hl
  exact ⟨n, h1, h2, State.serve_nak sel h (by rw [ho, hn]; rfl)⟩

section Selectors

variable {r : Request} (hs : requestShape r = .badSelector)

include hs

theorem selectorOf_of_row
    (h : requestCode r = ReqKind.craneDefine.code ∨ requestCode r = ReqKind.restart.code) :
    selectorOf r = rowSelector := by
  cases r with
  | unknown _ => exact nomatch hs
  | craneDefineSet _ | craneDefineClear _ | restartAll | restartYard => rfl
  | _ => exact absurd h (by simp [requestCode, ReqKind.code])

theorem selectorOf_of_define
    (h : requestCode r = ReqKind.runwayDefine.code ∨ requestCode r = ReqKind.slotDefine.code ∨
      requestCode r = ReqKind.bayDefine.code) : selectorOf r = defineSelector := by
  cases r with
  | unknown _ => exact nomatch hs
  | runwayDefineSet _ | runwayDefineClear _ | slotDefineSet _ | slotDefineClear _ | bayDefineSet _
  | bayDefineClear _ => rfl
  | _ => exact absurd h (by simp [requestCode, ReqKind.code])

theorem selectorOf_of_query
    (h : requestCode r = ReqKind.coilQuery.code ∨ requestCode r = ReqKind.slotQuery.code ∨
      requestCode r = ReqKind.taskQuery.code) : selectorOf r = noSelector := by
  cases r with
  | unknown _ => exact nomatch hs
  | coilQueryOne _ | coilQueryList _ | slotQueryOne _ | slotQueryList _ | taskQueryCrane _
  | taskQueryOne _ => rfl
  | _ => exact absurd h (by simp [requestCode, ReqKind.code])

end Selectors

theorem State.Admits.any {s s0 : State} {f : Frame} {stages : Stage → Bool} (h : s.Admits f stages s0) :
    s.Admits f inAny s0 := ⟨h.1, h.2.1, rfl⟩

theorem State.Admits.stage_config {s s0 : State} {f : Frame} (h : s.Admits f inConfig s0) :
    s0.lsu.stage = .config := stage_config_of h.2.2

theorem State.Admits.stage_run {s s0 : State} {f : Frame} (h : s.Admits f inRun s0) :
    s0.lsu.stage = .run := stage_run_of h.2.2

theorem ownCraneSet_of_config {s : State} (h : s.lsu.stage = .config) (v : CraneSet) :
    ownCraneSet s v = ownCraneConfig s v := by
  simp only [ownCraneSet, h]

end Sys2Proof.Machine
end

section
/-! SUPPORT. The statement about the judging of requests, settled. -/

namespace Sys2Proof

open Machine

/-- Settles O7: the judging that all requests share, and the field checks of each request named. -/
theorem requestsAreJudgedInOrder : Obligations.RequestsAreJudgedInOrder := by
  refine ⟨fun tag kind s s0 h => ?unknown, fun c f s s0 n hf h => (exec_judges hf s).badLength s0 n h,
    fun c f s s0 hf h hshape hb hk hg => (exec_judges hf s).stage s0 h hshape hb hk hg,
    fun c f s s0 hf h hshape hb => ?selector, fun tag v s s0 h hv => ?runway, fun tag v s s0 h hv => ?crane,
    fun tag v s s0 h hv => ?slot, fun tag v s s0 h hv => ?bay,
    fun tag v s s0 h => ⟨fun hv => ?task, fun ht ht' hc hk hk' hf => ?flags⟩,
    fun tag i s s0 hi => ⟨fun h => ?slotOne, fun h => ?slotList⟩, fun tag n s s0 hn h => ?craneNumber⟩
  case unknown => simp only [exec, execUnknownRequest, h]; rfl
  case selector =>
    have hrefused := (exec_judges hf s).selector s0 h hshape hb
    refine ⟨fun hkind => ?_, fun hkind => ⟨fun hg => ?_, fun hg => ?_⟩, fun hkind => ?_⟩
    · rw [selectorOf_of_row hshape hkind] at hrefused
      exact hrefused
    · rw [selectorOf_of_define hshape hkind, if_pos (by rw [hg]; rfl)] at hrefused
      exact hrefused
    · rw [selectorOf_of_define hshape hkind, if_neg (by simpa [defineSelector, inConfig] using hg)] at hrefused
      exact hrefused
    · rw [selectorOf_of_query hshape hkind] at hrefused
      exact hrefused
  case runway =>
    obtain ⟨n, hn, -, he⟩ := State.serve_checkFrom (own := ownRunwaySet) defineSelector h rfl fun hall => by
      obtain ⟨⟨r, hr⟩, h1, h2⟩ := runwaySetChecks_all hall
      rcases hv with hv | hv | hv
      · exact hv r hr
      · omega
      · omega
    exact ⟨n, hn, congrArg Host.Outcome.next he⟩
  case crane =>
    obtain ⟨n, hn, -, he⟩ := State.serve_checkFrom (own := ownCraneSet) rowSelector h.any
      (ownCraneSet_of_config h.stage_config v) fun hall => by
      obtain ⟨⟨c, hc⟩, ⟨r, hr⟩, hfits, hx⟩ := craneSetChecks_all hall
      rcases hv with hv | hv | hv | hv
      · exact hv c hc
      · exact hv r hr
      · exact hv hfits
      · omega
    exact ⟨n, hn, congrArg Host.Outcome.next he⟩
  case slot =>
    obtain ⟨n, hn, -, he⟩ := State.serve_checkFrom (own := ownSlotSet) defineSelector h rfl fun hall => by
      obtain ⟨⟨r, hr⟩, hfits⟩ := slotSetChecks_all hall
      exact hv.elim (fun hv => hv r hr) (fun hv => hv hfits)
    exact ⟨n, hn, congrArg Host.Outcome.next he⟩
  case bay =>
    obtain ⟨n, hn, -, he⟩ := State.serve_checkFrom (own := ownBaySet) defineSelector h rfl fun hall => by
      obtain ⟨⟨b, hb⟩, ⟨r, hr⟩, hfits⟩ := baySetChecks_all hall
      rcases hv with hv | hv | hv
      · exact hv b hb
      · exact hv r hr
      · exact hv hfits
    exact ⟨n, hn, congrArg Host.Outcome.next he⟩
  case task =>
    obtain ⟨n, hn, hn', he⟩ := State.serve_checkFrom (own := ownTaskSubmit) noSelector h rfl fun hall => by
      obtain ⟨task, c, coil, flags, src, dst, h1, h2, h3, h4, h5, h6, h7, hsub⟩ := submitChecks_all hall
      exact hv task c coil flags src dst h1 h2 h3 h4 h5 h6 h7 hsub
    refine ⟨n, hn, ?_, congrArg Host.Outcome.next he⟩
    simp only [submitChecks, sourceChecks, destChecks, List.length_append, List.length_cons,
      List.length_nil] at hn'
    omega
  case flags =>
    have hchecks : checkFrom 1 (submitChecks v) = .error ⟨.badValue, 4⟩ := by
      simp only [submitChecks, taskIdOk, coilIdOk, within_of_le ht ht', num4Ok_iff.2 hc, within_of_le hk hk',
        decide_eq_false (Nat.not_lt.2 hf), List.cons_append, checkFrom_true, checkFrom_false]
    exact congrArg Host.Outcome.next
      (State.serve_nak noSelector h (by simp only [ownTaskSubmit, hchecks, except_error_bind]))
  case slotOne =>
    have hslot : slotOk i = false := decide_eq_false (Nat.not_lt.2 hi)
    exact congrArg Host.Outcome.next
      (State.serve_nak noSelector h (by simp only [ownSlotQueryOne, hslot, require_false, except_error_bind]))
  case slotList =>
    have hslot : slotOk i = false := decide_eq_false (Nat.not_lt.2 hi)
    exact congrArg Host.Outcome.next
      (State.serve_nak noSelector h (by simp only [ownSlotQueryList, hslot, require_false, except_error_bind]))
  case craneNumber =>
    exact congrArg Host.Outcome.next (State.serve_nak noSelector h (by
      simp only [ownTaskQueryCrane, State.readCrane, readNum, num4?_eq_none hn, requireSome_none,
        except_error_bind]))

end Sys2Proof
end

section
/-! SUPPORT. The flag table as a whole: at power-on, after a clearing of flags, and what the FAULT signal and a
crane's beacon read of it. -/

namespace Sys2Proof.Machine

theorem Fnu.mem_setFlags {u : Fnu} {f : FlagId} : f ∈ u.setFlags ↔ u.isSet f = true := by
  simp [Fnu.setFlags, mem_allFlags]

theorem Fnu.faultSignal_iff (u : Fnu) : u.faultSignal = true ↔ ∃ f, u.isSet f = true ∧ f.kind ∉ u.masks := by
  simp [Fnu.faultSignal, mem_allFlags]

theorem mem_allCraneFaults (k : CraneFault) : k ∈ allCraneFaults := by
  cases k <;> decide

theorem Fnu.craneSet_iff (u : Fnu) (c : CraneId) :
    u.craneSet c = true ↔ ∃ k, u.isSet (.crane k c) = true := by
  simp [Fnu.craneSet, mem_allCraneFaults]

theorem Fnu.isSet_eq_false {u : Fnu} {f : FlagId} : u.isSet f = false ↔ (u.flag f).count = none := by
  simp [Fnu.isSet]

theorem Fnu.isSet_eq_true {u : Fnu} {f : FlagId} : u.isSet f = true ↔ ∃ n, (u.flag f).count = some n := by
  simp [Fnu.isSet, Option.isSome_iff_exists]

/-- At power-on one flag is set (R174). -/
theorem Fnu.flag_powerOn (start f : FlagId) :
    (Fnu.powerOn start).flag f = if f = start then ⟨some 1, false⟩ else ⟨none, false⟩ := by
  have hpowerOn : Fnu.powerOn start =
      (⟨Vector.replicate 50 ⟨none, false⟩, [], [.faultRaised start none], 0⟩ : Fnu).setFlag start
        ⟨some 1, false⟩ := rfl
  by_cases h : f = start
  · rw [if_pos h, h, hpowerOn, Fnu.flag_setFlag_same]
  · rw [if_neg h, hpowerOn, Fnu.flag_setFlag_ne _ _ h]
    simp [Fnu.flag]

/-! ## Clearing flags -/

theorem Fnu.flag_clear (u : Fnu) (f g : FlagId) :
    (u.clear f).flag g = if g = f then ⟨none, (u.flag g).live⟩ else u.flag g := by
  by_cases h : g = f
  · rw [if_pos h, h]
    exact Fnu.flag_setFlag_same u f _
  · rw [if_neg h]
    exact Fnu.flag_setFlag_ne u _ h

/-- The flags of a list cleared one after the other. -/
def Fnu.clearAll (u : Fnu) (fs : List FlagId) : Fnu := fs.foldl Fnu.clear u

theorem Fnu.flag_clearAll (fs : List FlagId) (u : Fnu) (f : FlagId) :
    (u.clearAll fs).flag f = if f ∈ fs then ⟨none, (u.flag f).live⟩ else u.flag f := by
  induction fs generalizing u with
  | nil => rfl
  | cons g fs ih =>
    have hstep : (u.clearAll (g :: fs)).flag f = ((u.clear g).clearAll fs).flag f := rfl
    rw [hstep, ih, Fnu.flag_clear]
    simp only [List.mem_cons]
    by_cases hg : f = g
    · by_cases hf : f ∈ fs <;> simp only [if_pos hg, if_pos (Or.inl hg), hf, if_true, if_false]
    · simp only [hg, false_or, if_false]

theorem Fnu.clearAll_keeps (fs : List FlagId) (u : Fnu) :
    (u.clearAll fs).notices = u.notices ∧ (u.clearAll fs).masks = u.masks ∧ (u.clearAll fs).lost = u.lost :=
  ⟨foldl_keeps Fnu.clear Fnu.notices (fun _ _ => rfl) fs u, foldl_keeps Fnu.clear Fnu.masks (fun _ _ => rfl) fs u,
    foldl_keeps Fnu.clear Fnu.lost (fun _ _ => rfl) fs u⟩

theorem State.foldl_clearFlag_fnu (fs : List FlagId) (s : State) :
    (fs.foldl State.clearFlag s).fnu = s.fnu.clearAll fs := by
  induction fs generalizing s with
  | nil => rfl
  | cons g fs ih => exact ih (s.clearFlag g)

@[simp] theorem State.clearFlags_fnu (s : State) (fs : List FlagId) :
    (s.clearFlags fs).fnu = s.fnu.clearAll fs := by
  simp only [State.clearFlags, State.evaluateAll_keeps, State.foldl_clearFlag_fnu]

theorem Dio.flagCleared_keeps (d : Dio) (f : FlagId) (u : Fnu) :
    (d.flagCleared f u).lines = d.lines ∧ (d.flagCleared f u).inputs = d.inputs ∧
      (d.flagCleared f u).outputs = d.outputs := by
  unfold Dio.flagCleared
  split <;> exact ⟨rfl, rfl, rfl⟩

/-- Clearing flags moves no line (R171: the beacons only). -/
theorem State.clearFlags_lines (s : State) (fs : List FlagId) :
    (s.clearFlags fs).dio.lines = s.dio.lines ∧ (s.clearFlags fs).dio.inputs = s.dio.inputs ∧
      (s.clearFlags fs).dio.outputs = s.dio.outputs := by
  have hstep : ∀ (s : State) (f : FlagId), (s.clearFlag f).dio.lines = s.dio.lines ∧
      (s.clearFlag f).dio.inputs = s.dio.inputs ∧ (s.clearFlag f).dio.outputs = s.dio.outputs := by
    intro s f
    unfold State.clearFlag
    dsimp only
    split
    · exact s.dio.flagCleared_keeps f _
    · exact ⟨rfl, rfl, rfl⟩
  simp only [State.clearFlags, State.evaluateAll_keeps]
  exact ⟨foldl_keeps _ (·.dio.lines) (fun s f => (hstep s f).1) fs s,
    foldl_keeps _ (·.dio.inputs) (fun s f => (hstep s f).2.1) fs s,
    foldl_keeps _ (·.dio.outputs) (fun s f => (hstep s f).2.2) fs s⟩

/-! ## FAULT-REPORT and FAULT-MASK -/

theorem Fnu.mem_reported {u : Fnu} {f : FlagId} :
    f ∈ u.reported ↔ u.isSet f = true ∧ ¬ (f.isCondition = true ∧ (u.flag f).live = true) := by
  simp only [Fnu.reported, List.mem_filter, Fnu.mem_setFlags, ← Bool.and_eq_true, Bool.not_eq_true',
    Bool.not_eq_true]

/-- A FAULT-REPORT leaves every flag clear but those of a live condition (R177). -/
theorem Fnu.flag_clearAll_reported (u : Fnu) (f : FlagId) :
    (u.clearAll u.reported).flag f =
      if f.isCondition = true ∧ (u.flag f).live = true then u.flag f else ⟨none, (u.flag f).live⟩ := by
  rw [Fnu.flag_clearAll]
  by_cases hlive : f.isCondition = true ∧ (u.flag f).live = true
  · rw [if_neg fun h => (Fnu.mem_reported.1 h).2 hlive, if_pos hlive]
  · rw [if_neg hlive]
    split
    · rfl
    · next h =>
      have hclear : u.isSet f = false := by
        by_contra hset
        exact h (Fnu.mem_reported.2 ⟨by simpa using hset, hlive⟩)
      rw [← Fnu.isSet_eq_false.1 hclear]

/-- The kinds of a FAULT-MASK that are taken: all known and no two the same (R178). -/
theorem readMasks_known {ks : List FaultKind} : ∀ {k : Nat} {seen : List FaultKind}, ks.Nodup →
    (∀ g ∈ ks, g ∉ seen) →
    readMasks k seen (ks.map .known) = .ok (allFaultKinds.filter fun g => seen.contains g || ks.contains g) := by
  induction ks with
  | nil =>
    intro k seen _ _
    simp only [List.map_nil, readMasks, List.contains_nil, Bool.or_false]
  | cons g ks ih =>
    intro k seen hnd hseen
    obtain ⟨hg, hks⟩ := List.nodup_cons.1 hnd
    have hnew : g ∉ seen := hseen g List.mem_cons_self
    have hrest : ∀ x ∈ ks, x ∉ g :: seen := fun x hx hmem => by
      rcases List.mem_cons.1 hmem with rfl | hmem
      · exact hg hx
      · exact hseen x (List.mem_cons_of_mem _ hx) hmem
    rw [List.map_cons, readMasks, if_neg (by simpa using hnew), ih hks hrest]
    refine congrArg Except.ok (List.filter_congr fun x _ => ?_)
    rw [Bool.eq_iff_iff]
    simp only [Bool.or_eq_true, List.contains_iff_mem, List.mem_cons]
    tauto

theorem mem_allFaultKinds (k : FaultKind) : k ∈ allFaultKinds := by
  cases k <;> decide

/-! ## Power-on -/

theorem InTable.get_powerOn (f : InputFn) :
    InTable.powerOn.get f = ⟨0, false, if isEventFn f then .rising else .level⟩ := by
  cases f <;> simp [InTable.powerOn, InTable.get, isEventFn]

/-- The lines carry the signals in order at power-on (R169). -/
theorem outputsPowerOn_get : ∀ k : Fin 14, outputsPowerOn[k.val] = ⟨allSignals[k.val], .signal⟩ := by
  decide

theorem State.takeFrame_fresh (start : FlagId) (straps : Straps) (lines : BitVec 32) (now : Nat)
    (pending : List Instr) (f : Frame) :
    (State.fresh start straps lines now pending).takeFrame f =
      some ((State.fresh start straps lines now pending).setHlu
        { Hlu.powerOn straps with handling := some f }) := rfl

end Sys2Proof.Machine
end

section
/-! SUPPORT. The statements about the flags and about power-on, settled. -/

namespace Sys2Proof

open Machine

/-- Settles O3: the values unit by unit, and the report of the one flag that is set. -/
theorem powerOnValues : Obligations.PowerOnValues := by
  intro straps lines s
  have hflag := Fnu.flag_powerOn .powerUp
  refine ⟨_, rfl, rfl, rfl, rfl, rfl, rfl, rfl, rfl, fun c => ?ports, fun k => ?lines, InTable.get_powerOn,
    outputsPowerOn_get, rfl, rfl, fun c => Quad.get_all _ c, hflag, rfl, rfl, rfl, ?hlu, fun c => ?crane,
    fun b => ?bay, rfl, ?fault, fun u hset hmask => u.faultSignal_iff.2 ⟨.powerUp, hset, hmask⟩,
    fun tag => ?report⟩
  case ports =>
    simp only [State.fresh, Quad.get_all]
    exact ⟨rfl, rfl, rfl, rfl⟩
  case lines => simp [State.fresh, Dio.powerOn, Line.powerOn]
  case hlu =>
    obtain ⟨s1, s0⟩ := straps
    cases s1 <;> cases s0 <;> rfl
  case crane => cases c <;> exact ⟨rfl, rfl⟩
  case bay => cases b <;> rfl
  case fault =>
    exact (Fnu.faultSignal_iff _).2 ⟨.powerUp, Fnu.isSet_eq_true.2 ⟨1, congrArg Flag.count (hflag .powerUp)⟩,
      List.not_mem_nil⟩
  case report =>
    have hadmits : (State.fresh .powerUp straps lines s.now s.pending).Admits ⟨tag, .faultReport (.fields ())⟩
        inAny _ := ⟨State.takeFrame_fresh _ _ _ _ _ _, rfl, rfl⟩
    have hlisted : (Fnu.powerOn .powerUp).setFlags.map (Fnu.powerOn .powerUp).entry = [(.powerUp, 1, none)] := by
      decide +kernel
    refine ⟨_, congrArg Host.Outcome.next (State.serve_ack noSelector hadmits rfl), ?_, fun f => ?_⟩
    · exact congrArg (fun l => some (Reply.mk tag 0x3D (.ack (.faults l)))) hlisted
    · have hfnu := State.clearFlags_fnu ((State.fresh .powerUp straps lines s.now s.pending).setHlu
        { Hlu.powerOn straps with handling := some ⟨tag, .faultReport (.fields ())⟩ })
        (Fnu.powerOn .powerUp).reported
      refine (congrArg (Fnu.isSet · f) hfnu).trans (Fnu.isSet_eq_false.2 ?_)
      refine (congrArg Flag.count (Fnu.flag_clearAll_reported (Fnu.powerOn .powerUp) f)).trans ?_
      have hdead : ((Fnu.powerOn .powerUp).flag f).live = false := by
        rw [hflag]
        split <;> rfl
      rw [if_neg (by simp [hdead])]

/-- Settles O54: the cases of a raise, of the offer of a notice and of a condition's end. -/
theorem flagsAndNotices : Obligations.FlagsAndNotices := by
  refine ⟨fun u f hclear hf => ?raiseClear, fun u f n hset => ?raiseSet, fun u n hroom => if_pos hroom,
    fun u n hfull => ?full, fun u f => ⟨rfl, rfl⟩, Fnu.faultSignal_iff, fun s n => rfl,
    fun s f was is => ?report, fun s f => ⟨⟨_, rfl, ?raiseSame, ?raiseOn⟩, ⟨_, rfl, ?endSame, ?endOff⟩⟩⟩
  case raiseClear =>
    have hset : u.isSet f = false := Fnu.isSet_eq_false.2 hclear
    simp only [Fnu.raise, hset, Bool.false_or, beq_iff_eq, if_neg hf, Flag.raised, hclear]
  case raiseSet =>
    have hisSet : u.isSet f = true := Fnu.isSet_eq_true.2 ⟨n, hset⟩
    simp only [Fnu.raise, hisSet, Bool.true_or, if_true, Flag.raised, hset, bump_eq_min]
  case full =>
    have hdrop : ¬ u.notices.length < Config.noticeMax := Nat.not_lt.2 hfull
    simp only [Fnu.offer, if_neg hdrop, bump_eq_min, Fnu.setFlag, Flag.raised]
    cases (u.flag .noticeLost).count <;> rfl
  case report =>
    cases was <;> cases is <;> rfl
  case raiseSame =>
    rintro (hset | hother)
    · exact if_pos hset
    · split
      · rfl
      · cases f with
        | crane k c => exact absurd rfl (hother k c)
        | _ => rfl
  case raiseOn =>
    rintro k c rfl hclear
    simp only [hclear, Bool.false_eq_true, if_false, Dio.flagSet, FlagId.crane?, Quad.modify, Beacon.onSet]
    cases (s.dio.beacons.get c).mode <;> cases (s.dio.beacons.get c).on <;> simp
  case endSame =>
    rintro (hset | hset | hother)
    · simp [hset]
    · simp [hset]
    · split
      · cases f with
        | crane k c => exact absurd rfl (hother k c)
        | _ => rfl
      · rfl
  case endOff =>
    rintro k c rfl hset hend
    simp only [hset, hend, Bool.not_false, Bool.and_self, if_true, Dio.flagCleared, FlagId.crane?, Quad.modify,
      Beacon.judge]
    generalize s.fnu.endCond s.lsu.settings.faultLatch (.crane k c) = u
    cases (s.dio.beacons.get c).mode <;> cases u.craneSet c <;> cases (s.dio.beacons.get c).stretch <;> simp

/-- Settles O55: the listing, the clearing of the listed flags and the set of masked kinds. -/
theorem faultsAreReportedAndMasked : Obligations.FaultsAreReportedAndMasked := by
  refine ⟨fun tag s s0 h => ?report, fun tag ks s s0 hnd hlen h => ?mask⟩
  case report =>
    obtain ⟨hnotices, hmasks, hlost⟩ := Fnu.clearAll_keeps s0.fnu.reported s0.fnu
    obtain ⟨hlines, hinputs, houtputs⟩ := s0.clearFlags_lines s0.fnu.reported
    refine ⟨_, congrArg Host.Outcome.next (State.serve_ack noSelector h rfl), ?_⟩
    simp only [State.clearFlags_keeps, State.clearFlags_fnu, hnotices, hmasks, hlost, hlines, hinputs, houtputs,
      Fnu.flag_clearAll_reported, implies_true, and_self]
  case mask =>
    have hmasks := readMasks_known (k := 1) (seen := []) hnd (fun g _ => List.not_mem_nil)
    refine ⟨allFaultKinds.filter fun g => [].contains g || ks.contains g, fun k => ?_,
      congrArg Host.Outcome.next (State.serve_ack noSelector h ?_)⟩
    · simp [mem_allFaultKinds]
    · simp only [ownFaultMask, List.length_map, within_of_le (Nat.zero_le _) hlen, require_true, hmasks]
      rfl

end Sys2Proof
end

section
/-! SUPPORT. Definition requests whose fields fit; the settings of a CONFIG-SET and what writing them does. -/

namespace Sys2Proof.Machine

/-! ## Fields that fit pass -/

theorem runwaySetChecks_pass (r : RunwayId) {length k : Nat} (h : 1000 ≤ length) (h' : length ≤ 250000) :
    checkFrom k (runwaySetChecks ⟨.known r, length⟩) = .ok () :=
  checkFrom_all _ _ (by simp [runwaySetChecks, within_of_le h h'])

theorem craneSetChecks_pass {v : CraneSet} {c : CraneId} {runwayOk orderOk xRefOk : Bool} {k : Nat}
    (hc : v.crane = numVal c) (h : craneFits v) (hr : runwayOk = true) (ho : orderOk = true)
    (hx : xRefOk = true) : checkFrom k (craneSetChecks v runwayOk orderOk xRefOk) = .ok () := by
  refine checkFrom_all _ _ ?_
  simp only [craneSetChecks, List.forall_mem_cons, within_iff, hc, num4Ok_numVal, hr, ho, hx]
  unfold craneFits at h
  simp only [true_and]
  exact ⟨by omega, by omega, by omega, by omega, by omega, by omega, by omega, by omega, by omega, nofun⟩

theorem slotSetChecks_pass {v : SlotSet} {r : RunwayId} {k : Nat} (hr : v.runway = .known r) (h : slotFits v) :
    checkFrom k (slotSetChecks v) = .ok () := by
  refine checkFrom_all _ _ ?_
  simp only [slotSetChecks, List.forall_mem_cons, within_iff, slotOk_iff, hr, codedOk_known, Bool.or_eq_true,
    bne_iff_ne]
  unfold slotFits at h
  simp only [true_and]
  exact ⟨by omega, by omega, by omega, by omega, by omega, by omega, by omega, by omega, by omega, by omega, nofun⟩

theorem baySetChecks_pass {v : BaySet} {b : BayId} {r : RunwayId} {k : Nat} (hb : v.bay = numVal b)
    (hr : v.runway = .known r) (h : bayFits v) : checkFrom k (baySetChecks v) = .ok () := by
  refine checkFrom_all _ _ ?_
  simp only [baySetChecks, List.forall_mem_cons, within_iff, hb, hr, num4Ok_numVal, codedOk_known,
    Bool.or_eq_true, beq_iff_eq]
  unfold bayFits at h
  simp only [true_and]
  exact ⟨by omega, by omega, by omega, by omega, by omega, nofun⟩

theorem ownCraneSet_of_committed {s : State} (h : committed s.lsu.stage = true) (v : CraneSet) :
    ownCraneSet s v = ownCraneService s v := by
  unfold ownCraneSet
  split
  · next hs => simp [committed, hs] at h
  · rfl
  · rfl

/-! ## Clearing an item -/

/-- A request to clear an item answers NO_SUCH_ITEM where the item is not defined (R7). -/
theorem State.serve_clear {α β : Type} {s s0 t : State} {tag : Byte} {r : Request} {v : α} {a : Ack}
    {o : Option β} {stages : Stage → Bool} {own : State → α → Verdict} (sel : Selector)
    (h : s.Admits ⟨tag, r⟩ stages s0)
    (ho : own s0 v = require o.isSome .noSuchItem 0 >>= fun _ => .ok (t, a)) [Decidable (o = none)] :
    s.serve tag r (.fields v) stages sel own =
      if o = none then s0.replyWith tag (requestCode r) (.nak ⟨.noSuchItem, 0⟩)
      else t.replyWith tag (requestCode r) (.ack a) := by
  cases o with
  | none => rw [if_pos rfl]; exact State.serve_nak sel h ho
  | some x => rw [if_neg nofun]; exact State.serve_ack sel h ho

/-! ## Settings -/

/-- The pairs of a CONFIG-SET that name different settings, each with a value of its kind, are all taken. -/
theorem readPairs_taken {pairs : List (Setting × SettingValue)} : ∀ {k : Nat} {seen : List Setting},
    (pairs.map (·.1)).Nodup → (∀ p ∈ pairs, p.1 ∉ seen) → (∀ p ∈ pairs, settingFits p.1 p.2 = true) →
    readPairs k seen (pairs.map fun p => ⟨.known p.1, p.2⟩) =
      .ok (pairs.map fun p => (p.1, takenValue p.1 p.2)) := by
  induction pairs with
  | nil => intros; rfl
  | cons p pairs ih =>
    intro k seen hnd hseen hfits
    obtain ⟨hp, hnd⟩ := List.nodup_cons.1 hnd
    have hnew : p.1 ∉ seen := hseen p List.mem_cons_self
    have hfit : settingFits p.1 p.2 = true := hfits p List.mem_cons_self
    have hrest : ∀ q ∈ pairs, q.1 ∉ p.1 :: seen := fun q hq hmem => by
      rcases List.mem_cons.1 hmem with heq | hmem
      · exact hp (List.mem_map.2 ⟨q, hq, heq⟩)
      · exact hseen q (List.mem_cons_of_mem _ hq) hmem
    have htail := ih (k := k + 1) hnd hrest fun q hq => hfits q (List.mem_cons_of_mem _ hq)
    simp only [List.map_cons, readPairs, hfit, htail]
    rw [if_neg (by simpa using hnew)]

/-- The state with other settings and, where the silence period differs, the silence timer restarted (R186). -/
def State.withSettings (s : State) (new : Settings) : State :=
  { s with
    lsu := { s.lsu with settings := new }
    hlu :=
      if s.lsu.settings.hostSilence = new.hostSilence then s.hlu
      else { s.hlu with silence := (silenceMs new.hostSilence).map fun p => s.now + p } }

theorem State.putSettings_eq (s : State) (taken : List (Setting × SettingValue)) :
    s.putSettings taken =
      let new := taken.foldl (fun t p => t.put p.1 p.2) s.lsu.settings
      if new.faultLatch = .realTime ∧ s.lsu.settings.faultLatch = .latched then
        (s.withSettings new).clearFlags s.fnu.ended
      else s.withSettings new := by
  unfold State.putSettings
  simp only
  generalize taken.foldl (fun t p => t.put p.1 p.2) s.lsu.settings = new
  have hset : (if s.lsu.settings.hostSilence = new.hostSilence then s.setLsu { s.lsu with settings := new }
      else (s.setLsu { s.lsu with settings := new }).restartSilence) = s.withSettings new := by
    unfold State.withSettings
    split <;> rfl
  rw [hset]
  rfl

@[simp] theorem State.putSettings_lsu (s : State) (taken : List (Setting × SettingValue)) :
    (s.putSettings taken).lsu =
      { s.lsu with settings := taken.foldl (fun t p => t.put p.1 p.2) s.lsu.settings } := by
  rw [State.putSettings_eq]
  dsimp only
  split
  · simp only [State.clearFlags_keeps]
    rfl
  · rfl

theorem State.putSettings_keeps_flags {s : State} {taken : List (Setting × SettingValue)}
    (h : (s.putSettings taken).lsu.settings.faultLatch = s.lsu.settings.faultLatch ∨
      (s.putSettings taken).lsu.settings.faultLatch = .latched) :
    (s.putSettings taken).fnu = s.fnu ∧ (s.putSettings taken).dio = s.dio ∧
      (s.putSettings taken).rcu = s.rcu ∧ (s.putSettings taken).ports = s.ports := by
  rw [State.putSettings_lsu] at h
  rw [State.putSettings_eq]
  dsimp only at h ⊢
  rw [if_neg]
  · exact ⟨rfl, rfl, rfl, rfl⟩
  · rintro ⟨hnew, hold⟩
    rw [hnew, hold] at h
    exact h.elim nofun nofun

theorem State.putSettings_hlu (s : State) (taken : List (Setting × SettingValue)) :
    (s.putSettings taken).hlu =
      let new := taken.foldl (fun t p => t.put p.1 p.2) s.lsu.settings
      if s.lsu.settings.hostSilence = new.hostSilence then s.hlu
      else { s.hlu with silence := (silenceMs new.hostSilence).map fun p => s.now + p } := by
  rw [State.putSettings_eq]
  dsimp only
  split
  · simp only [State.clearFlags_keeps]
    rfl
  · rfl

theorem Fnu.mem_ended {u : Fnu} {f : FlagId} :
    f ∈ u.ended ↔ f.isCondition = true ∧ u.isSet f = true ∧ (u.flag f).live = false := by
  simp [Fnu.ended, mem_allFlags, and_assoc]

/-- The end of latching clears the condition flags whose condition is not live, and no other (R176). -/
theorem Fnu.flag_clearAll_ended (u : Fnu) (f : FlagId) :
    (u.clearAll u.ended).flag f =
      if f.isCondition = true ∧ (u.flag f).live = false then ⟨none, (u.flag f).live⟩ else u.flag f := by
  rw [Fnu.flag_clearAll]
  by_cases hend : f.isCondition = true ∧ (u.flag f).live = false
  · rw [if_pos hend]
    split
    · rfl
    · next h =>
      have hclear : u.isSet f = false := by
        by_contra hset
        exact h (Fnu.mem_ended.2 ⟨hend.1, by simpa using hset, hend.2⟩)
      rw [← Fnu.isSet_eq_false.1 hclear]
  · rw [if_neg hend, if_neg fun h => hend ⟨(Fnu.mem_ended.1 h).1, (Fnu.mem_ended.1 h).2.2⟩]

end Sys2Proof.Machine
end

section
/-! SUPPORT. The statements about the definition requests and the settings, settled. -/

namespace Sys2Proof

open Machine

/-- Settles O11: each definition request passes its field checks, or answers NO_SUCH_ITEM. -/
theorem layoutIsEdited : Obligations.LayoutIsEdited := by
  refine ⟨fun tag r length s s0 h1 h2 h => congrArg Host.Outcome.next (State.serve_ack defineSelector h ?runway),
    fun tag c r v s s0 hc hr hf hx h => congrArg Host.Outcome.next (State.serve_ack rowSelector h.any ?crane),
    fun tag r v s s0 hr hf h hs => congrArg Host.Outcome.next (State.serve_ack defineSelector h ?slotNew),
    fun tag r v t s s0 hr hf h hs => congrArg Host.Outcome.next (State.serve_ack defineSelector h ?slotOld),
    fun tag b r v s s0 hb hr hf h => congrArg Host.Outcome.next (State.serve_ack defineSelector h ?bay),
    fun tag r s s0 h => congrArg Host.Outcome.next (State.serve_clear defineSelector h rfl),
    fun tag c s s0 h => congrArg Host.Outcome.next (State.serve_clear rowSelector h ?craneClear),
    fun tag i s s0 hi h => congrArg Host.Outcome.next (State.serve_clear defineSelector h ?slotClear),
    fun tag b s s0 h => congrArg Host.Outcome.next (State.serve_clear defineSelector h ?bayClear),
    fun v r => rfl, fun v r => rfl, fun v r => rfl⟩
  case runway =>
    simp only [ownRunwaySet, runwaySetChecks_pass r h1 h2, except_ok_bind, readCoded_known]
    rfl
  case crane =>
    rw [ownCraneSet_of_config h.stage_config]
    have hpass := craneSetChecks_pass (k := 2) hc hf (runwayOk := codedOk v.runway)
      (orderOk := within 1 3 v.order) (xRefOk := within 0 250000 v.xRef) (by rw [hr]; rfl)
      (within_of_le hf.1 hf.2.1) (within_of_le (Nat.zero_le _) hx)
    simp only [ownCraneConfig, hpass, except_ok_bind]
    simp only [hc, readNum_numVal, hr, readCoded_known, except_ok_bind]
    rfl
  case slotNew =>
    simp only [ownSlotSet, slotSetChecks_pass hr hf, except_ok_bind, hr, readCoded_known, hs]
    rfl
  case slotOld =>
    simp only [ownSlotSet, slotSetChecks_pass hr hf, except_ok_bind, hr, readCoded_known, hs]
    rfl
  case bay =>
    simp only [ownBaySet, baySetChecks_pass hb hr hf, except_ok_bind, hb, readNum_numVal, hr, readCoded_known]
    rfl
  case craneClear =>
    simp only [ownCraneClear, readNum_numVal, except_ok_bind]
    rfl
  case slotClear =>
    simp only [ownSlotClear, slotOk_iff.2 hi, require_true, except_ok_bind]
    rfl
  case bayClear =>
    simp only [ownBayUndefine, readNum_numVal, except_ok_bind]
    rfl

/-- Settles O12: the fields pass against the active set, and the shadow set alone is written. -/
theorem serviceSetWaitsAsShadow : Obligations.ServiceSetWaitsAsShadow := by
  intro tag c v q l len s s0 hc hf h hl hq hlen hr ho hx hx'
  refine congrArg Host.Outcome.next (State.serve_ack rowSelector h.any ?_)
  rw [ownCraneSet_of_committed h.2.2]
  have hpass := craneSetChecks_pass (k := 2) hc hf (runwayOk := v.runway == .known q.runway)
    (orderOk := v.order == q.order)
    (xRefOk := within 0 (min 250000 ((s0.lsu.runways.get q.runway).getD 0)) v.xRef) (by simp [hr])
    (by simp [ho]) (within_of_le (Nat.zero_le _) (by rw [hlen]; exact Nat.le_min.2 ⟨hx, hx'⟩))
  simp only [ownCraneService, hc, readNum_numVal, except_ok_bind, hl, Option.isSome_some, require_true, hq,
    requireSome_some, hpass]
  rfl

/-- Settles O13: the pairs are all taken; the values and the writing of each setting. -/
theorem settingsAreTaken : Obligations.SettingsAreTaken := by
  refine ⟨fun tag pairs s s0 h1 h17 hnd hfits h => ?taken, fun n => ?values, fun u m q n => ?written⟩
  case taken =>
    have hread := readPairs_taken (k := 1) (seen := []) hnd (fun _ _ => List.not_mem_nil) hfits
    refine ⟨_, _, congrArg Host.Outcome.next (State.serve_ack noSelector h ?_), rfl, rfl, ?_⟩
    · simp only [ownConfigSet, List.length_map, within_of_le h1 h17, require_true, except_ok_bind, hread,
        List.map_map]
      rfl
    · refine ⟨State.putSettings_lsu _ _, ?_⟩
      simp only [State.putSettings_keeps, true_and]
      refine ⟨State.putSettings_keeps_flags, fun hsilence => ?_⟩
      rw [State.putSettings_lsu] at hsilence
      rw [State.putSettings_hlu]
      exact if_pos hsilence.symm
  case values =>
    simp only [takenValue, clamp, settingRange, reduceCtorEq, if_true, if_false, Nat.mul_comm,
      and_self]
  case written => exact ⟨rfl, rfl, rfl, rfl, rfl, rfl, rfl, rfl, rfl, rfl, rfl, rfl, rfl, rfl, rfl, rfl, rfl,
    rfl, rfl⟩

/-- Settles O14: the flags cleared at the end of latching, and the silence timer. -/
theorem settingChangesActAtOnce : Obligations.SettingChangesActAtOnce := by
  refine fun s taken => ⟨fun hold hnew f => ?_, fun hne => ?_⟩
  · rw [State.putSettings_lsu] at hnew
    rw [State.putSettings_eq]
    dsimp only
    rw [if_pos ⟨hnew, hold⟩, State.clearFlags_fnu]
    exact s.fnu.flag_clearAll_ended f
  · rw [State.putSettings_lsu] at hne ⊢
    rw [State.putSettings_hlu]
    dsimp only
    rw [if_neg fun h => hne h.symm]
    cases (taken.foldl (fun t p => t.put p.1 p.2) s.lsu.settings).hostSilence <;> rfl

end Sys2Proof
end

section
/-! SUPPORT. The change of the stage, the yard that does not close, and RESTART ALL. -/

namespace Sys2Proof.Machine

/-- The stage is entered: the yard is evaluated in the new stage and the notice queued (R139, R16). -/
theorem State.enterStage_eq (s : State) (g : Stage) (cause : StageCause) :
    s.enterStage g cause =
      let e := ({ s with lsu := { s.lsu with stage := g } } : State).evaluateYard
      { e with fnu := s.fnu.offer (.stageChanged g cause) } := by
  have hfnu : (s.setLsu { s.lsu with stage := g }).evaluateYard.fnu = s.fnu := by
    simp only [State.evaluateYard_keeps, State.fnu_setLsu]
  unfold State.enterStage State.notify
  rw [hfnu]
  rfl

/-! ## The lowest of the four numbers -/

theorem allNum4_find?_none {p : Num4 → Bool} : allNum4.find? p = none ↔ ∀ c, p c = false := by
  simp only [allNum4, List.find?_eq_none, List.forall_mem_cons, Bool.not_eq_true]
  constructor
  · rintro ⟨h1, h2, h3, h4, -⟩ c
    cases c <;> assumption
  · exact fun h => ⟨h .n1, h .n2, h .n3, h .n4, nofun⟩

theorem allNum4_find?_lowest {p : Num4 → Bool} {c : Num4} (h : p c = true)
    (hlow : ∀ d, numVal d < numVal c → p d = false) : allNum4.find? p = some c := by
  cases c with
  | n1 => simp only [allNum4, List.find?, h]
  | n2 => simp only [allNum4, List.find?, h, hlow .n1 (by decide)]
  | n3 => simp only [allNum4, List.find?, h, hlow .n1 (by decide), hlow .n2 (by decide)]
  | n4 =>
    simp only [allNum4, List.find?, h, hlow .n1 (by decide), hlow .n2 (by decide), hlow .n3 (by decide)]

/-! ## A yard that is busy (R15) -/

theorem State.yardBusy_of_crane {s : State} {c : CraneId} (h : s.tcu.queues.get c ≠ [])
    (hlow : ∀ d, numVal d < numVal c → s.tcu.queues.get d = []) : s.yardBusy = some (numVal c) := by
  rw [State.yardBusy, allNum4_find?_lowest (c := c) (by simpa using h) fun d hd => by simp [hlow d hd]]

/-- A bay that is not EMPTY. -/
def State.bayBusy (s : State) (b : BayId) : Bool := (s.bcu.bays.get b).any fun y => y.state != .empty

theorem State.bayBusy_of_bay {s : State} {b : BayId} {y : Bay} (h : s.bcu.bays.get b = some y) :
    s.bayBusy b = (y.state != .empty) := by
  simp only [State.bayBusy, h, Option.any_some]

theorem State.bayBusy_eq_false {s : State} {b : BayId}
    (h : ∀ y, s.bcu.bays.get b = some y → y.state = .empty) : s.bayBusy b = false := by
  unfold State.bayBusy
  cases hy : s.bcu.bays.get b with
  | none => rfl
  | some y => simp [h y hy]

theorem State.yardBusy_of_no_task {s : State} (h : ∀ c, s.tcu.queues.get c = []) :
    s.yardBusy = (allNum4.find? s.bayBusy).map numVal := by
  have hnone : (allNum4.find? fun c => !(s.tcu.queues.get c).isEmpty) = none :=
    allNum4_find?_none.2 fun c => by simp [h c]
  unfold State.yardBusy
  rw [hnone]
  refine congrArg (Option.map numVal) (congrArg (List.find? · allNum4) (funext fun b => ?_))
  unfold State.bayBusy
  cases s.bcu.bays.get b <;> rfl

theorem State.yardBusy_of_bay {s : State} {b : BayId} {y : Bay} (h : ∀ c, s.tcu.queues.get c = [])
    (hy : s.bcu.bays.get b = some y) (hb : y.state ≠ .empty)
    (hlow : ∀ d z, numVal d < numVal b → s.bcu.bays.get d = some z → z.state = .empty) :
    s.yardBusy = some (numVal b) := by
  rw [State.yardBusy_of_no_task h, allNum4_find?_lowest (c := b)]
  · rfl
  · rw [State.bayBusy_of_bay hy]
    exact bne_iff_ne.2 hb
  · exact fun d hd => State.bayBusy_eq_false fun z hz => hlow d z hd hz

theorem State.yardBusy_none {s : State} (h : ∀ c, s.tcu.queues.get c = [])
    (hb : ∀ b y, s.bcu.bays.get b = some y → y.state = .empty) : s.yardBusy = none := by
  rw [State.yardBusy_of_no_task h, allNum4_find?_none.2 fun b => State.bayBusy_eq_false (hb b)]
  rfl

end Sys2Proof.Machine
end

section
/-! SUPPORT. The statements about opening and closing and about RESTART ALL, settled. -/

namespace Sys2Proof

open Machine

/-- Settles O16: the stage entered, and the two ways in which the yard is busy. -/
theorem openingAndClosingTheYard : Obligations.OpeningAndClosingTheYard := by
  refine ⟨fun tag s s0 h => ⟨_, congrArg Host.Outcome.next (State.serve_ack noSelector h rfl), ?opened⟩,
    fun tag s s0 h hq hb =>
      ⟨_, congrArg Host.Outcome.next (State.serve_ack noSelector h (by rw [ownClose, State.yardBusy_none hq hb])),
        ?closed⟩,
    fun tag c s s0 h hc hlow => congrArg Host.Outcome.next (State.serve_nak noSelector h (by
      rw [ownClose, State.yardBusy_of_crane hc hlow])),
    fun tag b y s s0 h hq hy hb hlow => congrArg Host.Outcome.next (State.serve_nak noSelector h (by
      rw [ownClose, State.yardBusy_of_bay hq hy hb hlow]))⟩
  case opened => simp [State.enterStage_eq, State.signal]
  case closed => simp [State.enterStage_eq, State.signal]

/-- Settles O17: the fresh state with RESTARTED, and what is sent on each port. -/
theorem restartAllIsPowerOn : Obligations.RestartAllIsPowerOn := by
  intro tag straps s s0 h
  obtain ⟨htake, hbuild, -⟩ := h
  have hexec : exec (.restartAll tag (.fields ()) straps) s =
      .next (((s0.ackWhole ⟨tag, 0x09, .ack .empty⟩).restartAll straps).keepSent
        (s0.ackWhole ⟨tag, 0x09, .ack .empty⟩)) := by
    have hrun : exec (.restartAll tag (.fields ()) straps) s =
        execRestartAll tag (.fields ()) straps s := rfl
    rw [hrun]
    simp only [execRestartAll, htake, State.judge, hbuild, inAny, if_true, Verdict.settle]
    rfl
  refine ⟨_, hexec, rfl, rfl, rfl, rfl, rfl, rfl, rfl, rfl, Fnu.flag_powerOn .restarted, rfl, rfl, rfl, rfl,
    fun c => ?_, rfl, rfl⟩
  have hport : ((((s0.ackWhole ⟨tag, 0x09, .ack .empty⟩).restartAll straps).keepSent
      (s0.ackWhole ⟨tag, 0x09, .ack .empty⟩)).ports.get c) =
      ({ Port.powerOn with sending := (s0.ports.get c).sending } : Port).send s0.now .stopRecord :=
    Quad.get_map s0.ports _ c
  rw [hport, Port.send]
  cases (s0.ports.get c).sending <;> simp [Port.start, Port.powerOn]

end Sys2Proof
end

section
/-! SUPPORT. COMMIT-LAYOUT: the committed yard rests, for no link is up; the offences of Table 1-8. -/

namespace Sys2Proof.Machine

/-! ## A yard at rest -/

/-- A collision record that allows nothing and claims nothing. -/
def RcuCrane.Idle (r : RcuCrane) : Prop :=
  r.finalF = .stop ∧ r.finalR = .stop ∧ r.runEnable = false ∧ r.lower = false ∧ r.claim = .none

/-- No record is lowered by a further cap. -/
theorem capped_stop (caps : List Cap) : capped .stop caps = .stop := by
  induction caps with
  | nil => rfl
  | cons cap caps ih =>
    have hmin : Class.stop.min cap.class = .stop := by cases cap <;> rfl
    simpa only [capped, List.foldl_cons, hmin] using ih

/-- A cap to STOP that is in force decides the final class (R130). -/
theorem capped_of_mem_stop {caps : List Cap} {cap : Cap} (hc : cap.class = .stop) (h : cap ∈ caps)
    (k : Class) : capped k caps = .stop := by
  obtain ⟨before, after, rfl⟩ := List.append_of_mem h
  have hmin : (capped k before).min cap.class = .stop := by rw [hc]; cases capped k before <;> rfl
  have hsplit : capped k (before ++ cap :: after) = capped ((capped k before).min cap.class) after := by
    simp only [capped, List.foldl_append, List.foldl_cons]
  rw [hsplit, hmin, capped_stop]

theorem mem_allCaps (cap : Cap) : cap ∈ allCaps := by
  cases cap <;> decide

theorem State.mem_capsOf {s : State} {c : CraneId} {r : RcuCrane} {cap : Cap} :
    cap ∈ s.capsOf c r ↔ s.capHolds c r cap = true := by
  simp [State.capsOf, mem_allCaps]

/-- An evaluation keeps the claim, the motion and what it does not compute. -/
theorem State.withDistances_keeps (s : State) (c : CraneId) (r : RcuCrane) :
    (s.withDistances c r).motion = r.motion ∧ (s.withDistances c r).load = r.load ∧
      (s.withDistances c r).seenRef = r.seenRef ∧ (s.withDistances c r).claim = r.claim ∧
      (s.withDistances c r).awaiting = r.awaiting := by
  unfold State.withDistances
  split <;> exact ⟨rfl, rfl, rfl, rfl, rfl⟩

/-- A crane whose link is not ACTIVE is evaluated to nothing allowed (Table 7-5, R132, R133). -/
theorem State.evaluated_idle {s : State} {c : CraneId} {r : RcuCrane} (h : s.linkActive c = false)
    (hclaim : r.claim = .none) : (s.evaluated c r).Idle := by
  have hcap : Cap.linkNotActive ∈ s.capsOf c (s.withDistances c r) :=
    State.mem_capsOf.2 (by simp [State.capHolds, h])
  have hstop := fun k => capped_of_mem_stop (cap := .linkNotActive) rfl hcap k
  refine ⟨hstop _, hstop _, ?_, ?_, ?_⟩
  · simp [State.evaluated, State.runEnableOf, h]
  · simp [State.evaluated, State.lowerAllowed, h]
  · exact (s.withDistances_keeps c r).2.2.2.1.trans hclaim

/-- The state after evaluations of cranes at rest: the records differ at most, each idle. -/
structure State.Rests (s t : State) : Prop where
  same : t = { s with rcu := { s.rcu with cranes := t.rcu.cranes } }
  defined : ∀ c, (t.rcu.cranes.get c).isSome = (s.rcu.cranes.get c).isSome
  idle : ∀ c r, t.rcu.cranes.get c = some r → r.Idle

theorem State.evaluate_rests {s t : State} (h : s.Rests t) (hdown : ∀ c, s.linkUp c = false) (c : CraneId) :
    s.Rests (t.evaluate c) := by
  have hup : (t.evalCrane c).linkUp c = false := by
    rw [h.same]
    exact hdown c
  have hactive : t.linkActive c = false := by
    have hd := hdown c
    rw [h.same]
    unfold State.linkUp at hd
    unfold State.linkActive
    dsimp only
    cases hl : s.links.get c with
    | none => rfl
    | some l =>
      rw [hl] at hd
      cases hk : l.link <;> simp_all
  have hsend : t.evaluate c = t.evalCrane c := by
    unfold State.evaluate State.sendDowngrade
    split
    · rfl
    · rw [hup]; rfl
  rw [hsend]
  have hcranes : ∀ d, (t.evalCrane c).rcu.cranes.get d =
      if d = c then (t.rcu.cranes.get c).map (t.evaluated c) else t.rcu.cranes.get d := fun d => by
    by_cases hd : d = c
    · rw [if_pos hd, hd]
      exact Quad.get_modify_same _ _ _
    · rw [if_neg hd]
      exact Quad.get_modify_ne _ _ hd
  refine ⟨?_, fun d => ?_, fun d r hr => ?_⟩
  · exact congrArg (fun u : State => { u with
      rcu := { u.rcu with cranes := (t.evalCrane c).rcu.cranes } }) h.same
  · rw [hcranes]
    split
    · next hd => rw [Option.isSome_map, hd, h.defined]
    · exact h.defined d
  · rw [hcranes] at hr
    split at hr
    · obtain ⟨q, hq, rfl⟩ := Option.map_eq_some_iff.1 hr
      exact State.evaluated_idle hactive (h.idle c q hq).2.2.2.2
    · exact h.idle d r hr

theorem State.evaluateAll_rests {s t : State} (h : s.Rests t) (hdown : ∀ c, s.linkUp c = false)
    (cs : List CraneId) : s.Rests (t.evaluateAll cs) :=
  List.foldlRecOn cs State.evaluate h fun _ h c _ => State.evaluate_rests h hdown c

theorem State.evaluateYard_rests {s : State} (hidle : ∀ c r, s.rcu.cranes.get c = some r → r.Idle)
    (hdown : ∀ c, s.linkUp c = false) : s.Rests s.evaluateYard :=
  State.evaluateAll_rests (State.evaluateAll_rests ⟨rfl, fun _ => rfl, hidle⟩ hdown _) hdown _

theorem State.committedYard_rests (s : State) :
    ({ s.committedYard with lsu := { s.committedYard.lsu with stage := .inventory } } : State).Rests
      ({ s.committedYard with lsu := { s.committedYard.lsu with stage := .inventory } } : State).evaluateYard := by
  refine State.evaluateYard_rests (fun c r hr => ?_) fun c => ?_
  · have hfresh : (s.lsu.active.get c).map (fun _ => RcuCrane.fresh) = some r :=
      (Quad.get_map s.lsu.active _ c).symm.trans hr
    obtain ⟨p, -, rfl⟩ := Option.map_eq_some_iff.1 hfresh
    exact ⟨rfl, rfl, rfl, rfl, rfl⟩
  · have hlinks : s.committedYard.links.get c = (s.lsu.active.get c).map fun _ => CraneLink.fresh :=
      Quad.get_map _ _ _
    unfold State.linkUp
    dsimp only
    rw [hlinks]
    cases s.lsu.active.get c <;> rfl

end Sys2Proof.Machine
end

section
/-! SUPPORT. The offences of Table 1-8: which item offends which check, and that the first is reported. -/

namespace Sys2Proof.Machine

/-! ## The first of a list of checks -/

/-- A check of Table 1-8: its number, the kind of its items, and the keys of those that offend it. -/
structure LayoutCheck where
  number : Nat
  kind : Nat
  keys : List Nat

/-- The detail of the first check that some item offends, with its lowest key. -/
def firstDetail : List LayoutCheck → Option Nat
  | [] => none
  | c :: cs => (c.keys.head?.map (layoutDetail c.number c.kind)).or (firstDetail cs)

theorem firstDetail_none {cs : List LayoutCheck} : firstDetail cs = none ↔ ∀ c ∈ cs, c.keys = [] := by
  induction cs with
  | nil => simp [firstDetail]
  | cons c cs ih => simp [firstDetail, ih]

/-- The order of the checks in the table. -/
def LayoutCheck.Before (a b : LayoutCheck) : Prop := a.number < b.number ∨ a.number = b.number ∧ a.kind < b.kind

theorem firstDetail_some {cs : List LayoutCheck} {d : Nat} (hcs : cs.Pairwise LayoutCheck.Before)
    (hkeys : ∀ c ∈ cs, c.keys.Pairwise (· < ·)) (h : firstDetail cs = some d) :
    ∃ c ∈ cs, ∃ k ∈ c.keys, d = layoutDetail c.number c.kind k ∧ ∀ c' ∈ cs, ∀ k' ∈ c'.keys,
      c.number < c'.number ∨ c.number = c'.number ∧ (c.kind < c'.kind ∨ c.kind = c'.kind ∧ k ≤ k') := by
  induction cs with
  | nil => exact nomatch h
  | cons c cs ih =>
    obtain ⟨hbefore, hcs⟩ := List.pairwise_cons.1 hcs
    obtain ⟨hc, hkeys⟩ := List.forall_mem_cons.1 hkeys
    cases hk : c.keys with
    | nil =>
      rw [firstDetail, hk] at h
      obtain ⟨a, ha, k, hka, hd, hleast⟩ := ih hcs hkeys h
      refine ⟨a, List.mem_cons_of_mem _ ha, k, hka, hd, fun c' hc' k' hk' => ?_⟩
      rcases List.mem_cons.1 hc' with rfl | hc'
      · rw [hk] at hk'
        exact nomatch hk'
      · exact hleast c' hc' k' hk'
    | cons k ks =>
      rw [firstDetail, hk] at h
      rw [hk, List.pairwise_cons] at hc
      refine ⟨c, List.mem_cons_self, k, by rw [hk]; exact List.mem_cons_self, (Option.some.inj h).symm,
        fun c' hc' k' hk' => ?_⟩
      rcases List.mem_cons.1 hc' with rfl | hc'
      · rw [hk] at hk'
        refine .inr ⟨rfl, .inr ⟨rfl, ?_⟩⟩
        rcases List.mem_cons.1 hk' with rfl | hk'
        · exact Nat.le_refl _
        · exact Nat.le_of_lt (hc.1 k' hk')
      · exact (hbefore c' hc').imp_right fun hsame => ⟨hsame.1, .inl hsame.2⟩

/-- The keys of the items that fail a test. -/
def offenders {α : Type} (key : α → Nat) (ok : α → Bool) (items : List α) : List Nat :=
  (items.filter fun i => !ok i).map key

theorem firstOffence_eq {α : Type} (check kind : Nat) (key : α → Nat) (ok : α → Bool) (items : List α) :
    firstOffence check kind key ok items = (offenders key ok items).head?.map (layoutDetail check kind) := by
  rw [firstOffence, offenders, List.head?_map, List.head?_filter, Option.map_map]
  rfl

theorem mem_offenders {α : Type} {key : α → Nat} {ok : α → Bool} {items : List α} {k : Nat} :
    k ∈ offenders key ok items ↔ ∃ i ∈ items, ok i = false ∧ key i = k := by
  simp [offenders, and_assoc]

theorem offenders_sorted {α : Type} {key : α → Nat} {ok : α → Bool} {items : List α}
    (h : (items.map key).Pairwise (· < ·)) : (offenders key ok items).Pairwise (· < ·) :=
  h.sublist (List.filter_sublist.map key)

/-! ## The items of the layout -/

section Layout

variable {s : State}

theorem State.mem_cranesDefined {e : CraneId × ParamSet} :
    e ∈ s.cranesDefined ↔ s.lsu.active.get e.1 = some e.2 := by
  obtain ⟨c, p⟩ := e
  constructor
  · intro h
    obtain ⟨d, -, hd⟩ := List.mem_filterMap.1 h
    obtain ⟨q, hq, he⟩ := Option.map_eq_some_iff.1 hd
    cases he
    exact hq
  · exact fun h => List.mem_filterMap.2 ⟨c, by cases c <;> decide, by rw [h]; rfl⟩

theorem State.mem_baysDefined {e : BayId × BayGeom} :
    e ∈ s.baysDefined ↔ s.lsu.bays.get e.1 = some e.2 := by
  obtain ⟨b, g⟩ := e
  constructor
  · intro h
    obtain ⟨d, -, hd⟩ := List.mem_filterMap.1 h
    obtain ⟨q, hq, he⟩ := Option.map_eq_some_iff.1 hd
    cases he
    exact hq
  · exact fun h => List.mem_filterMap.2 ⟨b, by cases b <;> decide, by rw [h]; rfl⟩

theorem State.mem_runwaysDefined {e : RunwayId × Nat} :
    e ∈ s.runwaysDefined ↔ s.lsu.runways.get e.1 = some e.2 := by
  obtain ⟨r, n⟩ := e
  constructor
  · intro h
    obtain ⟨d, -, hd⟩ := List.mem_filterMap.1 h
    obtain ⟨q, hq, he⟩ := Option.map_eq_some_iff.1 hd
    cases he
    exact hq
  · exact fun h => List.mem_filterMap.2 ⟨r, by cases r <;> decide, by rw [h]; rfl⟩

/-- Items looked up by a rising list of numbers come by rising keys. -/
theorem sorted_filterMap {ι α : Type} {key : ι → Nat} {get : ι → Option α} {l : List ι}
    (h : (l.map key).Pairwise (· < ·)) :
    ((l.filterMap fun i => (get i).map fun a => (i, a)).map fun e => key e.1).Pairwise (· < ·) := by
  induction l with
  | nil => exact List.Pairwise.nil
  | cons i l ih =>
    obtain ⟨hi, hl⟩ := List.pairwise_cons.1 h
    cases ha : get i with
    | none => simpa only [List.filterMap_cons, ha, Option.map_none] using ih hl
    | some a =>
      simp only [List.filterMap_cons, ha, Option.map_some, List.map_cons]
      refine List.pairwise_cons.2 ⟨fun k hk => ?_, ih hl⟩
      obtain ⟨e, he, rfl⟩ := List.mem_map.1 hk
      obtain ⟨j, hj, hje⟩ := List.mem_filterMap.1 he
      obtain ⟨b, -, rfl⟩ := Option.map_eq_some_iff.1 hje
      exact hi _ (List.mem_map_of_mem hj)

/-- A position along a defined runway. -/
def State.Along (s : State) (r : RunwayId) (x : Nat) : Prop := ∃ n, s.lsu.runways.get r = some n ∧ x ≤ n

theorem State.onRunway_iff {r : RunwayId} {x : Nat} : s.onRunway r x = true ↔ s.Along r x := by
  unfold State.onRunway State.Along
  cases s.lsu.runways.get r <;> simp

theorem State.onRunway_eq_false {r : RunwayId} {x : Nat} : s.onRunway r x = false ↔ ¬ s.Along r x := by
  rw [← State.onRunway_iff, Bool.not_eq_true]

/-- The order indices of a runway's cranes. -/
def State.ordersOf (s : State) (r : RunwayId) : List Nat :=
  allNum4.filterMap fun c =>
    match s.lsu.active.get c with
    | some p => if p.runway = r then some p.order else none
    | none => none

theorem State.ordersOf_eq (r : RunwayId) :
    (s.cranesDefined.filter fun e => e.2.runway == r).map (·.2.order) = s.ordersOf r := by
  unfold State.cranesDefined State.ordersOf
  induction allNum4 with
  | nil => rfl
  | cons c l ih =>
    cases hp : s.lsu.active.get c with
    | none => simpa only [List.filterMap_cons, hp, Option.map_none] using ih
    | some p =>
      by_cases hr : p.runway = r
      · simp only [List.filterMap_cons, hp, Option.map_some, hr, if_true, ← ih, List.filter_cons,
          beq_self_eq_true, List.map_cons]
      · simp only [List.filterMap_cons, hp, Option.map_some, hr, if_false, ← ih, List.filter_cons,
          beq_eq_false_iff_ne.2 hr, Bool.false_eq_true]

/-- A list holds each of 1 to its length exactly when it lists them in some order. -/
theorem contains_iff_perm (l : List Nat) :
    ((List.range l.length).all fun k => l.contains (k + 1)) = true ↔ l.Perm (List.range' 1 l.length) := by
  simp only [List.all_eq_true, List.mem_range, List.contains_iff_mem]
  constructor
  · intro h
    have hsub : List.range' 1 l.length ⊆ l := fun x hx => by
      obtain ⟨h1, h2⟩ := List.mem_range'_1.1 hx
      have := h (x - 1) (by omega)
      rwa [Nat.sub_add_cancel h1] at this
    have hsubperm := List.subperm_of_subset List.nodup_range' hsub
    exact (hsubperm.perm_of_length_le (by simp)).symm
  · exact fun h k hk => h.mem_iff.2 (List.mem_range'_1.2 (by omega))

theorem State.orderOk_eq_false {r : RunwayId} :
    s.orderOk r = false ↔ ¬ (s.ordersOf r).Perm (List.range' 1 (s.ordersOf r).length) := by
  rw [← contains_iff_perm, ← State.ordersOf_eq, Bool.not_eq_true]
  exact Iff.rfl

/-! ## Slots -/

/-- A slot of the table and its geometry. -/
def State.SlotIs (s : State) (i : Nat) (g : SlotGeom) : Prop := ∃ v, s.slot? i = some v ∧ v.geom = g

/-- Two slots of one row. -/
def SlotGeom.OneRow (g h : SlotGeom) : Prop := h.runway = g.runway ∧ h.row = g.row

/-- A support of a tier-2 slot is a tier-1 slot of its row (check 4a). -/
def State.Supports (s : State) (i : Nat) (g : SlotGeom) (beside : Nat → Prop) : Prop :=
  ∃ h m, s.SlotIs i h ∧ h.tier = .one m ∧ g.OneRow h ∧ beside h.y

section Table

variable (hwf : Table.wf s.smu.slots)

include hwf

theorem State.slotIs_iff {i : Nat} {g : SlotGeom} : s.SlotIs i g ↔ ∃ e ∈ s.smu.slots, e.1 = i ∧ e.2.geom = g := by
  constructor
  · rintro ⟨v, hv, rfl⟩
    exact ⟨(i, v), (Table.find_iff_mem hwf i v).1 hv, rfl, rfl⟩
  · rintro ⟨⟨j, v⟩, he, rfl, rfl⟩
    exact ⟨v, (Table.find_iff_mem hwf j v).2 he, rfl⟩

end Table

/-- The first record of a table that passes a test is the one with the lowest key. -/
theorem Table.find?_iff_lowest {α : Type} {t : List (Nat × α)} (h : Table.wf t) {p : Nat × α → Bool}
    {f : Nat × α} :
    t.find? p = some f ↔ f ∈ t ∧ p f = true ∧ ∀ e ∈ t, p e = true → f.1 ≤ e.1 := by
  have hlowest : ∀ {f}, t.find? p = some f → f ∈ t ∧ p f = true ∧ ∀ e ∈ t, p e = true → f.1 ≤ e.1 := by
    intro f hf
    refine ⟨List.mem_of_find?_eq_some hf, List.find?_some hf, fun e he hpe => ?_⟩
    obtain ⟨-, as, bs, rfl, has⟩ := List.find?_eq_some_iff_append.1 hf
    rw [Table.wf, List.map_append, List.map_cons, List.pairwise_append, List.pairwise_cons] at h
    rcases List.mem_append.1 he with he | he
    · have hfail := has e he
      rw [hpe] at hfail
      exact nomatch hfail
    · rcases List.mem_cons.1 he with rfl | he
      · exact Nat.le_refl _
      · exact Nat.le_of_lt (h.2.1.1 _ (List.mem_map_of_mem he))
  refine ⟨hlowest, fun ⟨hmem, hp, hlow⟩ => ?_⟩
  obtain ⟨f', hf'⟩ := Option.isSome_iff_exists.1 (List.find?_isSome.2 ⟨f, hmem, hp⟩)
  obtain ⟨hmem', hp', hlow'⟩ := hlowest hf'
  have hkey : f.1 = f'.1 := Nat.le_antisymm (hlow f' hmem' hp') (hlow' f hmem hp)
  have hval : some f.2 = some f'.2 :=
    ((Table.find_iff_mem h f.1 f.2).2 hmem).symm.trans (hkey ▸ (Table.find_iff_mem h f'.1 f'.2).2 hmem')
  rw [hf', Prod.ext hkey.symm (Option.some.inj hval).symm]

section Table

variable (hwf : Table.wf s.smu.slots)

include hwf

theorem State.rowOk_eq_false {e : Nat × Slot} (he : e ∈ s.smu.slots) :
    rowOk s.smu.slots e = false ↔ ∃ i h, s.SlotIs i h ∧ e.2.geom.OneRow h ∧
      (∀ j k, s.SlotIs j k → e.2.geom.OneRow k → i ≤ j) ∧ h.x ≠ e.2.geom.x := by
  have hrow : ∀ f : Nat × Slot, (f.2.geom.runway == e.2.geom.runway && f.2.geom.row == e.2.geom.row) = true ↔
      e.2.geom.OneRow f.2.geom := fun f => by simp [SlotGeom.OneRow]
  have hsome : (s.smu.slots.find? fun f =>
      f.2.geom.runway == e.2.geom.runway && f.2.geom.row == e.2.geom.row).isSome :=
    List.find?_isSome.2 ⟨e, he, (hrow e).2 ⟨rfl, rfl⟩⟩
  obtain ⟨f, hf⟩ := Option.isSome_iff_exists.1 hsome
  obtain ⟨hmem, hp, hlow⟩ := (Table.find?_iff_lowest hwf).1 hf
  unfold rowOk
  rw [hf]
  dsimp only
  rw [beq_eq_false_iff_ne]
  constructor
  · intro hx
    refine ⟨f.1, f.2.geom, (State.slotIs_iff hwf).2 ⟨f, hmem, rfl, rfl⟩, (hrow f).1 hp, fun j k hj hk => ?_, hx⟩
    obtain ⟨e', he', rfl, rfl⟩ := (State.slotIs_iff hwf).1 hj
    exact hlow e' he' ((hrow e').2 hk)
  · rintro ⟨i, h, hi, hone, hleast, hx⟩
    obtain ⟨e', he', rfl, rfl⟩ := (State.slotIs_iff hwf).1 hi
    have hfind : s.smu.slots.find? _ = some e' := (Table.find?_iff_lowest hwf).2 ⟨he', (hrow e').2 hone,
      fun d hd hpd => hleast d.1 d.2.geom ((State.slotIs_iff hwf).2 ⟨d, hd, rfl, rfl⟩) ((hrow d).1 hpd)⟩
    rw [hf] at hfind
    cases hfind
    exact hx

omit hwf in
theorem State.supportFits_iff {g : SlotGeom} {i : Nat} {lt : Nat → Bool} :
    supportFits s.smu.slots g i lt = true ↔ s.Supports i g fun y => lt y = true := by
  unfold supportFits State.Supports State.SlotIs State.slot?
  cases Table.find i s.smu.slots with
  | none => simp
  | some t => cases ht : t.geom.tier <;> simp [SlotGeom.OneRow, ht, and_assoc]

omit hwf in
theorem State.supportsOk_eq_false {e : Nat × Slot} :
    supportsOk s.smu.slots e = false ↔ ∃ l r, e.2.geom.tier = .two l r ∧
      ¬ (s.Supports l e.2.geom (· < e.2.geom.y) ∧ s.Supports r e.2.geom (e.2.geom.y < ·)) := by
  unfold supportsOk
  cases ht : e.2.geom.tier with
  | one m => simp [ht]
  | two l r =>
    simp only [ht]
    rw [← Bool.not_eq_true, Bool.and_eq_true, State.supportFits_iff, State.supportFits_iff]
    simp

theorem State.supportsAlone_eq_false {e : Nat × Slot} :
    supportsAlone s.smu.slots e = false ↔ ∃ l r i h l' r', e.2.geom.tier = .two l r ∧ s.SlotIs i h ∧
      h.tier = .two l' r' ∧ i < e.1 ∧ (l' = l ∨ r' = r) := by
  unfold supportsAlone
  cases ht : e.2.geom.tier with
  | one m => simp
  | two l r =>
    dsimp only
    rw [List.all_eq_false]
    constructor
    · rintro ⟨f, hf, hfalse⟩
      cases htf : f.2.geom.tier with
      | one m => simp [htf] at hfalse
      | two l' r' =>
        refine ⟨l, r, f.1, f.2.geom, l', r', rfl, (State.slotIs_iff hwf).2 ⟨f, hf, rfl, rfl⟩, htf, ?_⟩
        simp only [htf] at hfalse
        simp at hfalse
        exact ⟨hfalse.1, by tauto⟩
    · rintro ⟨_, _, i, h, l', r', heq, hi, hh, hlt, hor⟩
      cases heq
      obtain ⟨f, hf, rfl, rfl⟩ := (State.slotIs_iff hwf).1 hi
      refine ⟨f, hf, ?_⟩
      simp only [hh]
      simp
      exact ⟨hlt, by tauto⟩

end Table

/-! ## The checks of the layout -/

theorem selected_eq_false {a : InAssign} : selected a = false ↔ a.selection < 2 ∨ 33 < a.selection := by
  rw [selected, ← Bool.not_eq_true, within_iff]
  omega

/-- The checks of Table 1-8 with the keys that offend them. -/
def State.layoutChecks (s : State) : List LayoutCheck :=
  [⟨1, 1, if s.cranesDefined.isEmpty then [0] else []⟩,
   ⟨1, 2, if s.smu.slots.isEmpty then [0] else []⟩,
   ⟨2, 1, offenders (fun e => numVal e.1) (fun e => s.onRunway e.2.runway e.2.xRef) s.cranesDefined⟩,
   ⟨3, 0, offenders (fun e => runwayVal e.1) (fun e => s.orderOk e.1) s.runwaysDefined⟩,
   ⟨4, 2, offenders (·.1) (fun e => s.onRunway e.2.geom.runway e.2.geom.x) s.smu.slots⟩,
   ⟨5, 2, offenders (·.1) (rowOk s.smu.slots) s.smu.slots⟩,
   ⟨6, 2, offenders (·.1) (supportsOk s.smu.slots) s.smu.slots⟩,
   ⟨7, 2, offenders (·.1) (supportsAlone s.smu.slots) s.smu.slots⟩,
   ⟨8, 3, offenders (fun e => numVal e.1)
     (fun e => decide (e.2.xLo < e.2.xHi) && s.onRunway e.2.runway e.2.xHi) s.baysDefined⟩,
   ⟨9, 1, offenders (fun e => numVal e.1) (fun e => selected (s.dio.inputs.ref.get e.1)) s.cranesDefined⟩,
   ⟨10, 0, offenders (fun e => runwayVal e.1) (fun e => selected (s.dio.inputs.estop.get e.1))
     s.runwaysDefined⟩]

theorem State.layoutOffence_eq (s : State) : s.layoutOffence = firstDetail s.layoutChecks := by
  unfold State.layoutOffence State.layoutChecks
  simp only [firstDetail, firstOffence_eq, Option.or_none]
  split
  · rfl
  · split <;> rfl

theorem State.layoutChecks_ordered (s : State) : s.layoutChecks.Pairwise LayoutCheck.Before := by
  simp [State.layoutChecks, LayoutCheck.Before]

theorem State.layoutChecks_sorted (hwf : Table.wf s.smu.slots) :
    ∀ c ∈ s.layoutChecks, c.keys.Pairwise (· < ·) := by
  have hcranes : (s.cranesDefined.map fun e => numVal e.1).Pairwise (· < ·) := sorted_filterMap (by decide)
  have hbays : (s.baysDefined.map fun e => numVal e.1).Pairwise (· < ·) := sorted_filterMap (by decide)
  have hrunways : (s.runwaysDefined.map fun e => runwayVal e.1).Pairwise (· < ·) := sorted_filterMap (by decide)
  have hone : ∀ b : Bool, (if b then [0] else [] : List Nat).Pairwise (· < ·) := by decide
  simp only [State.layoutChecks, List.forall_mem_cons]
  exact ⟨hone _, hone _, offenders_sorted hcranes, offenders_sorted hrunways, offenders_sorted hwf,
    offenders_sorted hwf, offenders_sorted hwf, offenders_sorted hwf, offenders_sorted hbays,
    offenders_sorted hcranes, offenders_sorted hrunways, nofun⟩

end Layout

end Sys2Proof.Machine
end

section
/-! SUPPORT. What offends each check of Table 1-8, and the statement about COMMIT-LAYOUT, settled. -/

namespace Sys2Proof.Machine

/-- A line function whose selection is not a line. -/
def InAssign.Unassigned (a : InAssign) : Prop := a.selection < 2 ∨ 33 < a.selection

/-- The item of a kind with a key offends a check of Table 1-8. -/
def State.Offends (s : State) (check kind key : Nat) : Prop :=
  match check, kind with
  | 1, 1 => key = 0 ∧ ∀ c, s.lsu.active.get c = none
  | 1, 2 => key = 0 ∧ s.smu.slots = []
  | 2, 1 => ∃ c p, key = numVal c ∧ s.lsu.active.get c = some p ∧ ¬ s.Along p.runway p.xRef
  | 3, 0 => ∃ r n, key = runwayVal r ∧ s.lsu.runways.get r = some n ∧
      ¬ (s.ordersOf r).Perm (List.range' 1 (s.ordersOf r).length)
  | 4, 2 => ∃ g, s.SlotIs key g ∧ ¬ s.Along g.runway g.x
  | 5, 2 => ∃ g i h, s.SlotIs key g ∧ s.SlotIs i h ∧ g.OneRow h ∧
      (∀ j k, s.SlotIs j k → g.OneRow k → i ≤ j) ∧ h.x ≠ g.x
  | 6, 2 => ∃ g l r, s.SlotIs key g ∧ g.tier = .two l r ∧
      ¬ (s.Supports l g (· < g.y) ∧ s.Supports r g (g.y < ·))
  | 7, 2 => ∃ g l r i h l' r', s.SlotIs key g ∧ g.tier = .two l r ∧ s.SlotIs i h ∧ h.tier = .two l' r' ∧
      i < key ∧ (l' = l ∨ r' = r)
  | 8, 3 => ∃ b g, key = numVal b ∧ s.lsu.bays.get b = some g ∧ ¬ (g.xLo < g.xHi ∧ s.Along g.runway g.xHi)
  | 9, 1 => ∃ c p, key = numVal c ∧ s.lsu.active.get c = some p ∧ (s.dio.inputs.ref.get c).Unassigned
  | 10, 0 => ∃ r n, key = runwayVal r ∧ s.lsu.runways.get r = some n ∧ (s.dio.inputs.estop.get r).Unassigned
  | _, _ => False

section Offences

variable {s : State} {key : Nat}

theorem mem_zero_if {b : Bool} : key ∈ (if b then [0] else [] : List Nat) ↔ key = 0 ∧ b = true := by
  cases b <;> simp

theorem State.offends_noCrane : key ∈ (if s.cranesDefined.isEmpty then [0] else [] : List Nat) ↔
    s.Offends 1 1 key := by
  rw [mem_zero_if, List.isEmpty_iff, List.eq_nil_iff_forall_not_mem]
  refine and_congr_right fun _ => ⟨fun h c => ?_, fun h e he => ?_⟩
  · by_contra hp
    obtain ⟨p, hp⟩ := Option.ne_none_iff_exists'.1 hp
    exact h (c, p) (State.mem_cranesDefined.2 hp)
  · have hsome := State.mem_cranesDefined.1 he
    rw [h e.1] at hsome
    exact nomatch hsome

theorem State.offends_noSlot : key ∈ (if s.smu.slots.isEmpty then [0] else [] : List Nat) ↔
    s.Offends 1 2 key := by
  rw [mem_zero_if, List.isEmpty_iff]
  exact Iff.rfl

/-- The cranes that fail a test. -/
theorem State.mem_offenders_cranes {ok : CraneId × ParamSet → Bool} {P : CraneId → ParamSet → Prop}
    (h : ∀ c p, ok (c, p) = false ↔ P c p) :
    key ∈ offenders (fun e => numVal e.1) ok s.cranesDefined ↔
      ∃ c p, key = numVal c ∧ s.lsu.active.get c = some p ∧ P c p := by
  rw [mem_offenders]
  constructor
  · rintro ⟨⟨c, p⟩, he, hok, rfl⟩
    exact ⟨c, p, rfl, State.mem_cranesDefined.1 he, (h c p).1 hok⟩
  · rintro ⟨c, p, rfl, hp, hP⟩
    exact ⟨(c, p), State.mem_cranesDefined.2 hp, (h c p).2 hP, rfl⟩

/-- The runways that fail a test. -/
theorem State.mem_offenders_runways {ok : RunwayId × Nat → Bool} {P : RunwayId → Prop}
    (h : ∀ r n, ok (r, n) = false ↔ P r) :
    key ∈ offenders (fun e => runwayVal e.1) ok s.runwaysDefined ↔
      ∃ r n, key = runwayVal r ∧ s.lsu.runways.get r = some n ∧ P r := by
  rw [mem_offenders]
  constructor
  · rintro ⟨⟨r, n⟩, he, hok, rfl⟩
    exact ⟨r, n, rfl, State.mem_runwaysDefined.1 he, (h r n).1 hok⟩
  · rintro ⟨r, n, rfl, hn, hP⟩
    exact ⟨(r, n), State.mem_runwaysDefined.2 hn, (h r n).2 hP, rfl⟩

/-- The bays that fail a test. -/
theorem State.mem_offenders_bays {ok : BayId × BayGeom → Bool} {P : BayGeom → Prop}
    (h : ∀ b g, ok (b, g) = false ↔ P g) :
    key ∈ offenders (fun e => numVal e.1) ok s.baysDefined ↔
      ∃ b g, key = numVal b ∧ s.lsu.bays.get b = some g ∧ P g := by
  rw [mem_offenders]
  constructor
  · rintro ⟨⟨b, g⟩, he, hok, rfl⟩
    exact ⟨b, g, rfl, State.mem_baysDefined.1 he, (h b g).1 hok⟩
  · rintro ⟨b, g, rfl, hg, hP⟩
    exact ⟨(b, g), State.mem_baysDefined.2 hg, (h b g).2 hP, rfl⟩

/-- The slots that fail a test. -/
theorem State.mem_offenders_slots (hwf : Table.wf s.smu.slots) {ok : Nat × Slot → Bool}
    {P : Nat → SlotGeom → Prop} (h : ∀ e ∈ s.smu.slots, ok e = false ↔ P e.1 e.2.geom) :
    key ∈ offenders (·.1) ok s.smu.slots ↔ ∃ g, s.SlotIs key g ∧ P key g := by
  rw [mem_offenders]
  constructor
  · rintro ⟨e, he, hok, rfl⟩
    exact ⟨e.2.geom, (State.slotIs_iff hwf).2 ⟨e, he, rfl, rfl⟩, (h e he).1 hok⟩
  · rintro ⟨g, hg, hP⟩
    obtain ⟨e, he, rfl, rfl⟩ := (State.slotIs_iff hwf).1 hg
    exact ⟨e, he, (h e he).2 hP, rfl⟩

theorem State.bayOk_eq_false {g : BayGeom} : (decide (g.xLo < g.xHi) && s.onRunway g.runway g.xHi) = false ↔
    ¬ (g.xLo < g.xHi ∧ s.Along g.runway g.xHi) := by
  rw [← Bool.not_eq_true, Bool.and_eq_true, decide_eq_true_iff, State.onRunway_iff]

/-- The keys that offend each check. -/
theorem State.mem_layoutChecks_keys (hwf : Table.wf s.smu.slots) :
    ∀ c ∈ s.layoutChecks, ∀ key, key ∈ c.keys ↔ s.Offends c.number c.kind key := by
  simp only [State.layoutChecks, List.forall_mem_cons]
  refine ⟨fun key => State.offends_noCrane, fun key => State.offends_noSlot,
    fun key => State.mem_offenders_cranes fun c p => State.onRunway_eq_false,
    fun key => State.mem_offenders_runways fun r n => State.orderOk_eq_false,
    fun key => State.mem_offenders_slots hwf (P := fun _ g => ¬ s.Along g.runway g.x)
      fun e he => State.onRunway_eq_false,
    fun key => (State.mem_offenders_slots hwf (P := fun _ g => ∃ i h, s.SlotIs i h ∧ g.OneRow h ∧
      (∀ j k, s.SlotIs j k → g.OneRow k → i ≤ j) ∧ h.x ≠ g.x)
      fun e he => State.rowOk_eq_false hwf he).trans ?row,
    fun key => (State.mem_offenders_slots hwf (P := fun _ g => ∃ l r, g.tier = .two l r ∧
      ¬ (s.Supports l g (· < g.y) ∧ s.Supports r g (g.y < ·)))
      fun e he => State.supportsOk_eq_false).trans ?supports,
    fun key => (State.mem_offenders_slots hwf (P := fun i g => ∃ l r j h l' r', g.tier = .two l r ∧
      s.SlotIs j h ∧ h.tier = .two l' r' ∧ j < i ∧ (l' = l ∨ r' = r))
      fun e he => State.supportsAlone_eq_false hwf).trans ?alone,
    fun key => State.mem_offenders_bays fun b g => State.bayOk_eq_false,
    fun key => State.mem_offenders_cranes fun c p => selected_eq_false,
    fun key => State.mem_offenders_runways fun r n => selected_eq_false, nofun⟩
  case row => simp only [State.Offends, exists_and_left]
  case supports => simp only [State.Offends, exists_and_left]
  case alone => simp only [State.Offends, exists_and_left]

theorem State.offends_row {check kind : Nat} (h : s.Offends check kind key) :
    ∃ c ∈ s.layoutChecks, c.number = check ∧ c.kind = kind := by
  unfold State.Offends at h
  split at h
  case h_12 => exact h.elim
  all_goals simp [State.layoutChecks]

theorem State.offends_iff (hwf : Table.wf s.smu.slots) {check kind : Nat} : s.Offends check kind key ↔
    ∃ c ∈ s.layoutChecks, c.number = check ∧ c.kind = kind ∧ key ∈ c.keys := by
  constructor
  · intro h
    obtain ⟨c, hc, rfl, rfl⟩ := State.offends_row h
    exact ⟨c, hc, rfl, rfl, (State.mem_layoutChecks_keys hwf c hc key).2 h⟩
  · rintro ⟨c, hc, rfl, rfl, hk⟩
    exact (State.mem_layoutChecks_keys hwf c hc key).1 hk

end Offences

theorem State.layoutOffence_none_iff {s : State} (hwf : Table.wf s.smu.slots) :
    s.layoutOffence = none ↔ ∀ check kind key, ¬ s.Offends check kind key := by
  rw [State.layoutOffence_eq, firstDetail_none]
  constructor
  · intro h check kind key hoff
    obtain ⟨c, hc, -, -, hk⟩ := (State.offends_iff hwf).1 hoff
    rw [h c hc] at hk
    exact nomatch hk
  · exact fun h c hc => List.eq_nil_iff_forall_not_mem.2 fun k hk =>
      h c.number c.kind k ((State.offends_iff hwf).2 ⟨c, hc, rfl, rfl, hk⟩)

theorem State.layoutOffence_some {s : State} (hwf : Table.wf s.smu.slots) {d : Nat}
    (h : s.layoutOffence = some d) :
    ∃ check kind key, d = 4096 * check + 1024 * kind + key ∧ s.Offends check kind key ∧
      ∀ check' kind' key', s.Offends check' kind' key' → check < check' ∨ check = check' ∧
        (kind < kind' ∨ kind = kind' ∧ key ≤ key') := by
  rw [State.layoutOffence_eq] at h
  obtain ⟨c, hc, k, hk, rfl, hfirst⟩ :=
    firstDetail_some s.layoutChecks_ordered (State.layoutChecks_sorted hwf) h
  refine ⟨c.number, c.kind, k, rfl, (State.offends_iff hwf).2 ⟨c, hc, rfl, rfl, hk⟩,
    fun check' kind' key' hoff => ?_⟩
  obtain ⟨c', hc', rfl, rfl, hk'⟩ := (State.offends_iff hwf).1 hoff
  exact hfirst c' hc' key' hk'

end Sys2Proof.Machine

namespace Sys2Proof

open Machine

/-- Settles O15: the committed yard, whose cranes rest, and the offence reported. -/
theorem commitFixesTheLayout : Obligations.CommitFixesTheLayout := by
  refine ⟨fun tag s s0 h => ⟨fun d hd => congrArg Host.Outcome.next (State.serve_nak noSelector h ?offence),
    fun hnone => ⟨s0.committedYard.enterStage .inventory .commit,
      congrArg Host.Outcome.next (State.serve_ack noSelector h ?commit), ?committed⟩⟩,
    fun s hwf => ⟨State.layoutOffence_none_iff hwf, fun d => State.layoutOffence_some hwf⟩, rfl, rfl,
    fun live mode => rfl⟩
  case offence => simp only [ownCommit, hd]
  case commit => simp only [ownCommit, hnone]
  case committed =>
    have hrest := s0.committedYard_rests
    have hviews : _ = s0.committedYard.rcu.views := congrArg (·.rcu.views) hrest.same
    have hzones : _ = s0.committedYard.rcu.zones := congrArg (·.rcu.zones) hrest.same
    have hports : _ = s0.committedYard.ports := congrArg (·.ports) hrest.same
    have hbays : ∀ b, s0.committedYard.bcu.bays.get b =
        (s0.lsu.bays.get b).map fun _ => Bay.fresh (s0.dio.bayInputs b) .latched := Quad.get_map _ _
    rw [State.enterStage_eq]
    dsimp only at hviews hzones hports ⊢
    simp only [State.evaluateYard_keeps, hviews, hzones, hports]
    refine ⟨rfl, rfl, rfl, rfl, Quad.get_map _ _, Quad.get_map _ _, hbays, Duo.get_map _ _, fun b => ?zones,
      fun c => (hrest.defined c).trans ?defined, hrest.idle, fun c => ?ports, rfl, rfl, rfl, rfl, rfl⟩
    case zones => exact (Quad.get_map _ _ b).trans rfl
    case defined =>
      have hcranes : s0.committedYard.rcu.cranes.get c = (s0.lsu.active.get c).map fun _ => RcuCrane.fresh :=
        Quad.get_map _ _ c
      exact (congrArg Option.isSome hcranes).trans Option.isSome_map
    case ports =>
      have hport : s0.committedYard.ports.get c = { s0.ports.get c with lastSent := .stopRecord } :=
        Quad.get_map _ _ c
      rw [hport]
      exact ⟨rfl, rfl⟩

end Sys2Proof
end

section
/-! SUPPORT. RESTART YARD: what is sent on the ports, and the flags that are raised again. -/

namespace Sys2Proof.Machine

/-! ## The ports -/

/-- The port of a crane after RESTART YARD has stopped it; that of an undefined crane stays. -/
def State.stoppedPort (s : State) (c : CraneId) (p : Port) : Port :=
  if (s.links.get c).isSome then p.stop s.now (s.linkActive c) (s.record c .stop .stop false) else p

theorem State.stopCrane_setPorts (s : State) (q : Quad Port) (c : CraneId) :
    (s.setPorts q).stopCrane c = s.setPorts (q.modify c (s.stoppedPort c)) := by
  have hport : s.stoppedPort c = fun p =>
      if (s.links.get c).isSome then p.stop s.now (s.linkActive c) (s.record c .stop .stop false) else p := rfl
  unfold State.stopCrane
  rw [hport]
  by_cases hl : (s.links.get c).isSome
  · simp only [State.links_setPorts, hl, if_true]
    rfl
  · simp only [State.links_setPorts, hl, if_false, Quad.modify, Quad.set_get, Bool.false_eq_true]

/-- RESTART YARD stops each defined crane on its own port. -/
theorem State.foldl_stopCrane (s : State) :
    allNum4.foldl State.stopCrane s = s.setPorts (s.ports.map s.stoppedPort) := by
  have hports : ((((s.ports.modify .n1 (s.stoppedPort .n1)).modify .n2 (s.stoppedPort .n2)).modify .n3
      (s.stoppedPort .n3)).modify .n4 (s.stoppedPort .n4)) = s.ports.map s.stoppedPort := rfl
  have hstart : allNum4.foldl State.stopCrane s =
      ((((s.setPorts s.ports).stopCrane .n1).stopCrane .n2).stopCrane .n3).stopCrane .n4 := rfl
  rw [hstart, State.stopCrane_setPorts, State.stopCrane_setPorts, State.stopCrane_setPorts,
    State.stopCrane_setPorts, hports]

/-- Without tasks and halts a STOP record carries order NONE (R59). -/
theorem State.record_of_no_task {s : State} (hq : s.tcu.queues = .all []) (hh : s.tcu.halts = .all none)
    (c : CraneId) : (s.record c .stop .stop false).fwd = .stop ∧ (s.record c .stop .stop false).rev = .stop ∧
      (s.record c .stop .stop false).lower = false ∧ (s.record c .stop .stop false).order = .none ∧
      (s.record c .stop .stop false).task = 0 := by
  have hnone : s.inFlight? c = none := by simp [State.inFlight?, hq]
  simp [State.record, State.orderOf, hnone, hh]

/-! ## The collision records -/

/-- What RESTART YARD leaves of a collision record. -/
def RcuCrane.RestartsAs (r k : RcuCrane) : Prop :=
  k.motion = r.motion ∧ k.load = r.load ∧ k.claim = r.claim ∧ k.awaiting = true ∧ k.runEnable = false ∧
    k.finalF = .stop ∧ k.finalR = .stop ∧ k.lower = false

/-- The caps alone differ. -/
structure State.Recaps (s t : State) : Prop where
  same : t = { s with rcu := { s.rcu with cranes := t.rcu.cranes } }
  crane : ∀ c r, s.rcu.cranes.get c = some r → ∃ caps, t.rcu.cranes.get c = some { r with caps := caps }

theorem State.recap_recaps {s t : State} (h : s.Recaps t) (c : CraneId) : s.Recaps (t.recap c) where
  same := congrArg (fun u : State => { u with rcu := { u.rcu with cranes := (t.recap c).rcu.cranes } }) h.same
  crane d r hr := by
    obtain ⟨caps, hcaps⟩ := h.crane d r hr
    have hget : (t.recap c).rcu.cranes = t.rcu.cranes.modify c
        (Option.map fun r => { r with caps := t.capsOf c r }) := rfl
    by_cases hd : d = c
    · subst hd
      exact ⟨t.capsOf d { r with caps := caps }, by rw [hget, Quad.get_modify_same, hcaps]; rfl⟩
    · exact ⟨caps, by rw [hget, Quad.get_modify_ne _ _ hd, hcaps]⟩

theorem State.foldl_recap_recaps (s : State) (cs : List CraneId) : s.Recaps (cs.foldl State.recap s) :=
  List.foldlRecOn cs State.recap ⟨rfl, fun _ r hr => ⟨r.caps, hr⟩⟩ fun _ h c _ => State.recap_recaps h c

/-! ## The flags raised again -/

/-- The flags and the beacons alone differ, the beacons in their levels and stretches (R171). -/
structure State.Tells (s t : State) : Prop where
  same : t = { s with fnu := t.fnu, dio := t.dio }
  lines : t.dio.lines = s.dio.lines ∧ t.dio.inputs = s.dio.inputs ∧ t.dio.outputs = s.dio.outputs
  beacons : ∀ c, (t.dio.beacons.get c).mode = (s.dio.beacons.get c).mode ∧
    (t.dio.beacons.get c).hostLevel = (s.dio.beacons.get c).hostLevel

theorem State.Tells.refl (s : State) : s.Tells s := ⟨rfl, ⟨rfl, rfl, rfl⟩, fun _ => ⟨rfl, rfl⟩⟩

theorem State.Tells.trans {s t u : State} (h : s.Tells t) (h' : t.Tells u) : s.Tells u where
  same := by
    rw [h'.same]
    exact congrArg (fun x : State => { x with fnu := u.fnu, dio := u.dio }) h.same
  lines := ⟨h'.lines.1.trans h.lines.1, h'.lines.2.1.trans h.lines.2.1, h'.lines.2.2.trans h.lines.2.2⟩
  beacons c := ⟨(h'.beacons c).1.trans (h.beacons c).1, (h'.beacons c).2.trans (h.beacons c).2⟩

/-- A beacon changed keeps what the change of each keeps. -/
theorem State.Tells.of_beacon (s : State) (u : Fnu) {c : CraneId} {f : Beacon → Beacon}
    (h : ∀ b, (f b).mode = b.mode ∧ (f b).hostLevel = b.hostLevel) :
    s.Tells ((s.setFnu u).setDio { s.dio with beacons := s.dio.beacons.modify c f }) where
  same := rfl
  lines := ⟨rfl, rfl, rfl⟩
  beacons d := by
    by_cases hd : d = c
    · subst hd
      simpa using h (s.dio.beacons.get d)
    · simp [Quad.get_modify_ne _ _ hd]

theorem Beacon.onSet_keeps (b : Beacon) (now stretch : Nat) :
    (b.onSet now stretch).mode = b.mode ∧ (b.onSet now stretch).hostLevel = b.hostLevel := by
  unfold Beacon.onSet
  split
  · exact ⟨rfl, rfl⟩
  · split <;> exact ⟨rfl, rfl⟩

theorem Beacon.judge_keeps (b : Beacon) (anySet : Bool) :
    (b.judge anySet).mode = b.mode ∧ (b.judge anySet).hostLevel = b.hostLevel := by
  unfold Beacon.judge
  split
  · exact ⟨rfl, rfl⟩
  · split <;> exact ⟨rfl, rfl⟩

theorem State.raise_tells (s : State) (f : FlagId) : s.Tells (s.raise f) := by
  have hsame : s.Tells ((s.setFnu (s.fnu.raise f)).setDio s.dio) :=
    ⟨rfl, ⟨rfl, rfl, rfl⟩, fun _ => ⟨rfl, rfl⟩⟩
  unfold State.raise
  split
  · exact hsame
  · unfold Dio.flagSet
    split
    · exact hsame
    · exact .of_beacon s _ fun b => b.onSet_keeps _ _

theorem State.raiseAgain_tells (s : State) (f : FlagId) : s.Tells (s.raiseAgain f) := by
  unfold State.raiseAgain
  split
  · exact s.raise_tells f
  · exact .refl s

theorem State.judgeBeacon_tells (s : State) (c : CraneId) : s.Tells (s.judgeBeacon c) :=
  .of_beacon s s.fnu fun b => b.judge_keeps _

theorem State.Tells.foldl {α : Type} {op : State → α → State} (h : ∀ (s : State) (a : α), s.Tells (op s a)) (l : List α)
    (s : State) : s.Tells (l.foldl op s) :=
  List.foldlRecOn l op (.refl s) fun t ht a _ => ht.trans (h t a)

/-- The owners of the conditions are not those of the flags. -/
theorem State.Tells.conditionLive {s t : State} (h : s.Tells t) : t.conditionLive = s.conditionLive := by
  rw [h.same]
  funext f
  cases f with
  | crane k c => cases k <;> rfl
  | _ => rfl

/-- A flag raised where its condition is live. -/
def Fnu.raiseIf (live : FlagId → Bool) (u : Fnu) (f : FlagId) : Fnu := if live f then u.raise f else u

theorem State.fnu_foldl_raiseAgain (l : List FlagId) (s : State) :
    (l.foldl State.raiseAgain s).fnu = l.foldl (Fnu.raiseIf s.conditionLive) s.fnu := by
  induction l generalizing s with
  | nil => rfl
  | cons f l ih =>
    have hstep : (s.raiseAgain f).fnu = Fnu.raiseIf s.conditionLive s.fnu f := by
      unfold State.raiseAgain Fnu.raiseIf
      split <;> rfl
    rw [List.foldl_cons, List.foldl_cons, ih, hstep, (s.raiseAgain_tells f).conditionLive]

/-- A live condition is that of a condition kind. -/
theorem State.isCondition_of_live {s : State} {f : FlagId} (h : s.conditionLive f = true) :
    f.isCondition = true := by
  cases f with
  | crane k c =>
    cases k with
    | positionJump | refDrift | zeroDrift => exact nomatch h
    | linkLost | orderConflict | overspeed | driveFault | overload | underload | cellSaturated => rfl
  | bayIntrusion _ | estop _ | hostSilent => rfl
  | noticeLost | powerUp | restarted => exact nomatch h

/-! ## The offer of a notice -/

theorem Fnu.offer_notices {u : Fnu} {l : List Notice} (h : u.notices = l.take Config.noticeMax) (n : Notice) :
    (u.offer n).notices = (l ++ [n]).take Config.noticeMax := by
  unfold Fnu.offer
  have hlen : u.notices.length = min Config.noticeMax l.length := by rw [h, List.length_take]
  split
  · next hroom =>
    have hl : l.length < Config.noticeMax := by omega
    rw [List.take_of_length_le (by simpa using hl), h, List.take_of_length_le (Nat.le_of_lt hl)]
  · next hfull =>
    have hl : Config.noticeMax ≤ l.length := by omega
    rw [List.take_append_of_le_length hl]
    exact h

theorem Fnu.flag_offer_ne {u : Fnu} {n : Notice} {f : FlagId} (h : f ≠ .noticeLost) :
    (u.offer n).flag f = u.flag f := by
  unfold Fnu.offer
  split
  · rfl
  · exact Fnu.flag_setFlag_ne u _ h

theorem Fnu.masks_offer (u : Fnu) (n : Notice) : (u.offer n).masks = u.masks := by
  unfold Fnu.offer
  split <;> rfl

theorem Fnu.masks_raise (u : Fnu) (f : FlagId) : (u.raise f).masks = u.masks := by
  unfold Fnu.raise
  dsimp only
  split
  · rfl
  · exact Fnu.masks_offer _ _

/-- A clear flag raised is set and told (R175). -/
theorem Fnu.raise_of_clear {u : Fnu} {f : FlagId} (h : u.isSet f = false) (hf : f ≠ .noticeLost) :
    u.raise f = (u.setFlag f ⟨some 1, f.isCondition⟩).offer
      (.faultRaised f (if f.isCondition then some true else none)) := by
  have hcount := Fnu.isSet_eq_false.1 h
  simp only [Fnu.raise, h, Bool.false_or, beq_iff_eq, if_neg hf, Flag.raised, hcount]

/-- The flags and notices of RESTART YARD once the flags of a list have been judged (R19). -/
structure Fnu.Again (live : FlagId → Bool) (masks : List FaultKind) (l : List FlagId) (u : Fnu) : Prop where
  notices : u.notices = ([Notice.faultRaised .restarted none] ++
    (l.filter live).map fun f => Notice.faultRaised f (some true)).take Config.noticeMax
  masks : u.masks = masks
  restarted : u.isSet .restarted = true
  only : ∀ f, u.isSet f = true → f = .restarted ∨ f = .noticeLost ∨ f ∈ l ∧ live f = true
  again : ∀ f ∈ l, live f = true → u.isSet f = true ∧ (u.flag f).live = true

section Again

variable {live : FlagId → Bool} (hcond : ∀ f, live f = true → f.isCondition = true)

include hcond

theorem Fnu.Again.raiseIf {masks : List FaultKind} {l : List FlagId} {u : Fnu} (h : u.Again live masks l)
    {f : FlagId} (hf : f ∉ l) : (Fnu.raiseIf live u f).Again live masks (l ++ [f]) := by
  have hlost : ∀ {g}, live g = true → g ≠ .noticeLost := by
    rintro g hg rfl
    exact nomatch hcond _ hg
  have hrestarted : ∀ {g}, live g = true → g ≠ .restarted := by
    rintro g hg rfl
    exact nomatch hcond _ hg
  unfold Fnu.raiseIf
  split
  · next hlive =>
    have hclear : u.isSet f = false := by
      by_contra hset
      rcases h.only f (by simpa using hset) with heq | heq | ⟨hmem, -⟩
      · exact hrestarted hlive heq
      · exact hlost hlive heq
      · exact hf hmem
    rw [Fnu.raise_of_clear hclear (hlost hlive), hcond f hlive, if_pos rfl]
    have hflag : ∀ g, g ≠ .noticeLost → g ≠ f →
        (((u.setFlag f ⟨some 1, true⟩).offer (.faultRaised f (some true))).flag g) = u.flag g :=
      fun g hg hgf => by rw [Fnu.flag_offer_ne hg, Fnu.flag_setFlag_ne _ _ hgf]
    have hflagf : (((u.setFlag f ⟨some 1, true⟩).offer (.faultRaised f (some true))).flag f) = ⟨some 1, true⟩ := by
      rw [Fnu.flag_offer_ne (hlost hlive), Fnu.flag_setFlag_same]
    refine ⟨?_, (Fnu.masks_offer _ _).trans h.masks, ?_, fun g hg => ?_, fun g hg hgl => ?_⟩
    · rw [Fnu.offer_notices (u := u.setFlag f _) h.notices, List.filter_append, List.map_append,
        ← List.append_assoc, List.filter_singleton, hlive]
      rfl
    · have hne : FlagId.restarted ≠ f := fun heq => hrestarted hlive heq.symm
      simpa only [Fnu.isSet, hflag .restarted (by decide) hne] using h.restarted
    · by_cases hgl : g = .noticeLost
      · exact .inr (.inl hgl)
      · by_cases hgf : g = f
        · exact .inr (.inr ⟨by simp [hgf], hgf ▸ hlive⟩)
        · simp only [Fnu.isSet, hflag g hgl hgf] at hg
          exact (h.only g hg).imp_right (Or.imp_right fun hm => ⟨List.mem_append_left _ hm.1, hm.2⟩)
    · by_cases hgf : g = f
      · subst hgf
        simp only [Fnu.isSet, hflagf, Option.isSome_some, and_self]
      · have hmem : g ∈ l := by simpa [hgf] using hg
        simpa only [Fnu.isSet, hflag g (hlost hgl) hgf] using h.again g hmem hgl
  · next hdead =>
    refine ⟨?_, h.masks, h.restarted, fun g hg => (h.only g hg).imp_right
      (Or.imp_right fun hm => ⟨List.mem_append_left _ hm.1, hm.2⟩), fun g hg hgl => h.again g ?_ hgl⟩
    · rw [h.notices, List.filter_append, List.filter_singleton, Bool.eq_false_iff.2 hdead, cond_false,
        List.append_nil]
    · rcases List.mem_append.1 hg with hg | hg
      · exact hg
      · rw [List.mem_singleton.1 hg] at hgl
        exact absurd hgl hdead

theorem Fnu.Again.foldl {masks : List FaultKind} (l : List FlagId) : ∀ {done : List FlagId} {u : Fnu},
    u.Again live masks done → (done ++ l).Nodup →
    (l.foldl (Fnu.raiseIf live) u).Again live masks (done ++ l) := by
  induction l with
  | nil =>
    intro done u h _
    rwa [List.append_nil]
  | cons f l ih =>
    intro done u h hnd
    have hf : f ∉ done := fun hmem =>
      (List.nodup_append.1 hnd).2.2 f hmem f List.mem_cons_self rfl
    rw [List.append_cons] at hnd ⊢
    exact ih (h.raiseIf hcond hf) hnd

end Again

theorem allFlags_nodup : allFlags.Nodup := by
  decide

end Sys2Proof.Machine
end

section
/-! SUPPORT. RESTART YARD as a whole, and the statement about it, settled. -/

namespace Sys2Proof.Machine

theorem Fnu.again_of_clear {live : FlagId → Bool} {u : Fnu} (hclear : ∀ f, u.isSet f = false)
    (hnotices : u.notices = []) : (u.raise .restarted).Again live u.masks [] := by
  rw [Fnu.raise_of_clear (hclear _) (by decide)]
  refine ⟨?_, Fnu.masks_offer _ _, ?_, fun f hf => ?_, nofun⟩
  · exact Fnu.offer_notices (u := u.setFlag .restarted _) (l := []) hnotices _
  · exact Fnu.isSet_eq_true.2 ⟨1, by
      rw [Fnu.flag_offer_ne (by decide)]
      exact congrArg Flag.count (Fnu.flag_setFlag_same _ _ _)⟩
  · by_cases heq : f = .restarted
    · exact .inl heq
    · refine .inr (.inl ?_)
      by_contra hlost
      have hflag : ((u.setFlag .restarted ⟨some 1, false⟩).offer (.faultRaised .restarted none)).flag f = u.flag f := by
        rw [Fnu.flag_offer_ne hlost, Fnu.flag_setFlag_ne _ _ heq]
      have hcl := hclear f
      rw [Fnu.isSet, ← hflag] at hcl
      exact Bool.false_ne_true (hcl.symm.trans hf)

/-- The notice of the stage at the end of the listing. -/
theorem Fnu.Again.offer {live : FlagId → Bool} {masks : List FaultKind} {l : List FlagId} {u : Fnu}
    (h : u.Again live masks l) (hlost : live .noticeLost = false) (n : Notice) :
    (u.offer n).masks = masks ∧ (u.offer n).isSet .restarted = true ∧
    (u.offer n).notices = ([Notice.faultRaised .restarted none] ++
      (l.filter live).map (fun f => Notice.faultRaised f (some true)) ++ [n]).take Config.noticeMax ∧
    (∀ f, (u.offer n).isSet f = true → f = .restarted ∨ f = .noticeLost ∨ f ∈ l ∧ live f = true) ∧
    (∀ f ∈ l, live f = true → (u.offer n).isSet f = true ∧ ((u.offer n).flag f).live = true) := by
  refine ⟨(Fnu.masks_offer u n).trans h.masks, ?_, Fnu.offer_notices h.notices n, fun f hf => ?_,
    fun f hf hl => ?_⟩
  · rw [Fnu.isSet, Fnu.flag_offer_ne (by decide)]
    exact h.restarted
  · by_cases hne : f = .noticeLost
    · exact .inr (.inl hne)
    · rw [Fnu.isSet, Fnu.flag_offer_ne hne] at hf
      exact h.only f hf
  · have hne : f ≠ .noticeLost := by
      rintro rfl
      exact Bool.false_ne_true (hlost.symm.trans hl)
    rw [Fnu.isSet, Fnu.flag_offer_ne hne]
    exact h.again f hf hl

theorem Fnu.Again.afterStage {live : FlagId → Bool} {masks : List FaultKind} {l : List FlagId} {u : Fnu}
    (h : u.Again live masks l) (hall : ∀ f, f ∈ l) (hlost : live .noticeLost = false) (n : Notice)
    (told : Prop) [Decidable told] :
    (if told then u.offer n else u).masks = masks ∧ (if told then u.offer n else u).isSet .restarted = true ∧
    (if told then u.offer n else u).notices = ([Notice.faultRaised .restarted none] ++
      (l.filter live).map (fun f => Notice.faultRaised f (some true)) ++
      (if told then [n] else [])).take Config.noticeMax ∧
    (∀ f, (if told then u.offer n else u).isSet f = true → f = .restarted ∨ f = .noticeLost ∨ live f = true) ∧
    (∀ f, live f = true → (if told then u.offer n else u).isSet f = true ∧
      ((if told then u.offer n else u).flag f).live = true) := by
  by_cases htold : told
  · simp only [if_pos htold]
    obtain ⟨hmasks, hset, hnotices, honly, hagain⟩ := h.offer hlost n
    exact ⟨hmasks, hset, hnotices, fun f hf => (honly f hf).imp_right (Or.imp_right And.right),
      fun f hf => hagain f (hall f) hf⟩
  · simp only [if_neg htold, List.append_nil]
    exact ⟨h.masks, h.restarted, h.notices, fun f hf => (h.only f hf).imp_right (Or.imp_right And.right),
      fun f hf => h.again f (hall f) hf⟩

/-- RESTART YARD clears, stops the cranes, forms the caps again, and then raises flags and queues notices. -/
theorem State.restartYard_steps (s : State) : ∃ q e : State,
    (s.cleared.setPorts (s.cleared.ports.map s.cleared.stoppedPort)).Recaps q ∧ q.Tells e ∧
    e.fnu.Again e.conditionLive s.fnu.masks allFlags ∧
    s.restartYard = { e with
      fnu := if s.lsu.stage = .run then e.fnu.offer (.stageChanged .inventory .restart) else e.fnu } := by
  have hq := State.foldl_recap_recaps (s.cleared.setPorts (s.cleared.ports.map s.cleared.stoppedPort)) allNum4
  generalize hqeq : allNum4.foldl State.recap
    (s.cleared.setPorts (s.cleared.ports.map s.cleared.stoppedPort)) = q at hq
  have hraise := q.raise_tells .restarted
  have hagain := State.Tells.foldl State.raiseAgain_tells allFlags (q.raise .restarted)
  have hjudge := State.Tells.foldl State.judgeBeacon_tells allNum4
    (allFlags.foldl State.raiseAgain (q.raise .restarted))
  refine ⟨q, allNum4.foldl State.judgeBeacon (allFlags.foldl State.raiseAgain (q.raise .restarted)), hq,
    (hraise.trans hagain).trans hjudge, ?_, ?_⟩
  · have hfnu : (allNum4.foldl State.judgeBeacon (allFlags.foldl State.raiseAgain (q.raise .restarted))).fnu =
        allFlags.foldl (Fnu.raiseIf q.conditionLive) (q.fnu.raise .restarted) := by
      rw [foldl_keeps State.judgeBeacon State.fnu (fun _ _ => rfl), State.fnu_foldl_raiseAgain,
        hraise.conditionLive]
      rfl
    have hqfnu : q.fnu = s.cleared.fnu := by
      rw [hq.same]
      rfl
    rw [hfnu, ((hraise.trans hagain).trans hjudge).conditionLive, hqfnu]
    have hstart : (s.cleared.fnu.raise .restarted).Again q.conditionLive s.cleared.fnu.masks [] :=
      Fnu.again_of_clear (fun f => by simp [Fnu.isSet, Fnu.flag, State.cleared]) rfl
    exact hstart.foldl (fun f => State.isCondition_of_live) allFlags allFlags_nodup
  · unfold State.restartYard
    rw [State.foldl_stopCrane]
    dsimp only
    rw [hqeq]
    generalize allNum4.foldl State.judgeBeacon (allFlags.foldl State.raiseAgain (q.raise .restarted)) = e
    split <;> rfl

end Sys2Proof.Machine

namespace Sys2Proof

open Machine

/-- Settles O18: what is cleared and kept unit by unit, the ports, and the flags raised again. -/
theorem restartYardKeepsTheCranes : Obligations.RestartYardKeepsTheCranes := by
  refine ⟨fun tag s s0 h => ?restart, fun s f => ?live⟩
  case restart =>
    obtain ⟨htake, hbuild, hstage⟩ := h
    have hexec : exec (.restartYard tag (.fields ())) s =
        .next (s0.ackWhole ⟨tag, 0x09, .ack .empty⟩).restartYard := by
      have hrun : exec (.restartYard tag (.fields ())) s = execRestartYard tag (.fields ()) s := rfl
      rw [hrun]
      simp only [execRestartYard, htake, State.judge, hbuild, hstage, if_true, Verdict.settle]
      rfl
    refine ⟨_, hexec, ?_⟩
    generalize ha : s0.ackWhole ⟨tag, 0x09, .ack .empty⟩ = a
    obtain ⟨q, e, hq, he, hagain, hyard⟩ := a.restartYard_steps
    have hrcu : e.rcu = q.rcu := by rw [he.same]
    have hown : e = { a.cleared with
        ports := a.cleared.ports.map a.cleared.stoppedPort, rcu := e.rcu, fnu := e.fnu, dio := e.dio } := by
      refine he.same.trans ?_
      rw [hrcu]
      exact congrArg (fun u : State => { u with rcu := q.rcu, fnu := e.fnu, dio := e.dio }) hq.same
    have hlive : a.restartYard.conditionLive = e.conditionLive := by
      rw [hyard]
      funext f
      cases f with
      | crane k c => cases k <;> rfl
      | _ => rfl
    have hport : ∀ c, e.ports.get c = a.cleared.stoppedPort c { s0.ports.get c with errors := 0 } := fun c => by
      rw [hown, ← ha]
      simp only [Quad.get_map]
      exact congrArg (State.stoppedPort _ c) (Quad.get_map _ _ c)
    have hlinks : ∀ c, a.cleared.links.get c =
        (s0.links.get c).map fun l => { l with overCount := 0, overspeed := false } := fun c => by
      rw [← ha]
      exact Quad.get_map _ _ c
    have hlines : e.dio.lines = s0.dio.lines ∧ e.dio.inputs = s0.dio.inputs ∧ e.dio.outputs = s0.dio.outputs := by
      have hdio : q.dio = s0.dio := by rw [hq.same, ← ha]; rfl
      rw [← hdio]
      exact he.lines
    have hbeacons : ∀ c, (e.dio.beacons.get c).mode = (s0.dio.beacons.get c).mode ∧
        (e.dio.beacons.get c).hostLevel = (s0.dio.beacons.get c).hostLevel := by
      have hdio : q.dio = s0.dio := by rw [hq.same, ← ha]; rfl
      rw [← hdio]
      exact he.beacons
    have hactive : ∀ c, a.cleared.linkActive c = s0.linkActive c := fun c => by
      unfold State.linkActive
      rw [hlinks]
      cases s0.links.get c <;> rfl
    have hrecord := fun c => State.record_of_no_task (s := a.cleared) rfl rfl c
    have hdefined : ∀ c, (s0.links.get c).isSome = true → e.ports.get c =
        ({ s0.ports.get c with errors := 0 } : Port).stop a.cleared.now (s0.linkActive c)
          (a.cleared.record c .stop .stop false) := fun c hc => by
      rw [hport, State.stoppedPort, hlinks, Option.isSome_map, if_pos hc, hactive]
    have hundefined : ∀ c, s0.links.get c = none → e.ports.get c = { s0.ports.get c with errors := 0 } :=
      fun c hc => by rw [hport, State.stoppedPort, hlinks, hc]; rfl
    have hcranes : ∀ c r, s0.rcu.cranes.get c = some r → ∃ k, e.rcu.cranes.get c = some k ∧ r.RestartsAs k :=
      fun c r hr => by
        have hcleared : a.cleared.rcu.cranes.get c = some r.restarted := by
          rw [← ha]
          exact (Quad.get_map _ _ c).trans (congrArg (Option.map RcuCrane.restarted) hr)
        obtain ⟨caps, hcaps⟩ := hq.crane c r.restarted hcleared
        exact ⟨{ r.restarted with caps := caps }, (congrArg (·.cranes.get c) hrcu).trans hcaps,
          rfl, rfl, rfl, rfl, rfl, rfl, rfl, rfl⟩
    have hstage : a.lsu.stage = s0.lsu.stage := by rw [← ha]; rfl
    have hmasks : a.fnu.masks = s0.fnu.masks := by rw [← ha]; rfl
    rw [hmasks] at hagain
    obtain ⟨hm, hset, hn, honly, hag⟩ := hagain.afterStage mem_allFlags rfl (.stageChanged .inventory .restart)
      (s0.lsu.stage = .run)
    rw [hlive, hyard, hstage]
    refine ⟨?lsu, ?slots, ?coils, ?tcu, ?hoists, fun c => ?links, fun b => ?bays, ?build, hcranes,
      fun c hc => ?stopped, fun c hc => ?sent, fun c hc => ?undef, hlines.1, hlines.2.1, hlines.2.2, hbeacons,
      hm, hset, hn, honly, hag, ?inbound, ?frameErrors, ?overruns, ?receiver, ?handling,
      ?lastSent, ?now, ?pending⟩
    case stopped =>
      have hlink : (a.cleared.links.get c).isSome = true := by
        rw [hown] at hc
        exact hc
      rw [hlinks, Option.isSome_map] at hlink
      obtain ⟨hfwd, hrev, -⟩ := hrecord c
      dsimp only
      rw [hdefined c hlink, Port.stop_eq]
      split
      · exact ⟨rfl, rfl, rfl⟩
      · exact ⟨rfl, hfwd, hrev⟩
      · exact ⟨rfl, rfl, rfl⟩
    case sent =>
      dsimp only
      rw [hdefined c hc, Port.stop_eq]
      refine ⟨fun hact hidle => ?_, fun x hact hbusy => ?_, fun hact => ?_⟩
      · simp only [hact, hidle]
        exact ⟨_, hrecord c, rfl, rfl, trivial⟩
      · simp only [hact, hbusy]
        exact ⟨_, hrecord c, trivial, rfl, rfl⟩
      · simp only [hact]
        exact ⟨trivial, rfl, trivial⟩
    case undef =>
      dsimp only
      rw [hundefined c hc]
      exact ⟨rfl, rfl, rfl⟩
    all_goals
      rw [hown, ← ha]
    case links => exact Quad.get_map _ _ c
    case bays => exact Quad.get_map _ _ b
    all_goals rfl
  case live =>
    unfold State.conditionLive
    cases f with
    | crane k c =>
      cases k with
      | linkLost => cases hget : s.links.get c <;> simp [hget]
      | orderConflict => exact Iff.rfl
      | overspeed => cases hget : s.links.get c <;> simp [hget]
      | driveFault => unfold State.driveFault; cases hget : s.links.get c <;> simp [hget]
      | overload => cases hget : s.hoists.get c <;> simp [hget]
      | underload => cases hget : s.hoists.get c <;> simp [hget]
      | cellSaturated => cases hget : s.hoists.get c <;> simp [hget]
      | positionJump | refDrift | zeroDrift => simp
    | bayIntrusion b => cases hget : s.bcu.bays.get b <;> simp [hget]
    | estop r => cases hget : s.rcu.views.get r <;> simp [hget]
    | hostSilent => exact Iff.rfl
    | noticeLost | powerUp | restarted => simp

end Sys2Proof
end

section
/-! SUPPORT. The store: the field checks of COIL-ADD, the occupant and the fit of a slot, what rests on a slot, and
the reservation of one slot. -/

namespace Sys2Proof.Machine

theorem within_eq_false {lo hi n : Nat} (h : ¬ (lo ≤ n ∧ n ≤ hi)) : within lo hi n = false :=
  Bool.eq_false_iff.2 fun ht => h (within_iff.1 ht)

/-! ## COIL-ADD -/

/-- A measured weight, where one is carried, lies in its range (Table 2-3). -/
def measuredOk (m : Option Int) : Bool := m.all fun m => decide (-65000 ≤ m) && decide (m ≤ 66000)

theorem measuredOk_iff {m : Option Int} : measuredOk m = true ↔ ∀ w, m = some w → -65000 ≤ w ∧ w ≤ 66000 := by
  cases m <;> simp [measuredOk]

theorem coilAddChecks_eq (v : CoilAdd) :
    coilAddChecks v = [coilIdOk v.coil, within 600 2100 v.width, within 900 2400 v.diameter,
      within 1000 45000 v.declared, within 0 255 v.group, measuredOk v.measured, slotOk v.slot] := by
  unfold coilAddChecks measuredOk
  cases v.measured <;> rfl

theorem coilAddChecks_pass {v : CoilAdd} (h : 1 ≤ v.coil ∧ v.coil ≤ 4294967295)
    (hw : 600 ≤ v.width ∧ v.width ≤ 2100) (hd : 900 ≤ v.diameter ∧ v.diameter ≤ 2400)
    (hm : 1000 ≤ v.declared ∧ v.declared ≤ 45000) (hg : v.group ≤ 255) (hs : v.slot ≤ 1023)
    (hmeas : ∀ w, v.measured = some w → -65000 ≤ w ∧ w ≤ 66000) : ∀ b ∈ coilAddChecks v, b = true := by
  rw [coilAddChecks_eq]
  simp only [List.forall_mem_cons]
  exact ⟨within_iff.2 h, within_iff.2 hw, within_iff.2 hd, within_iff.2 hm, within_iff.2 ⟨Nat.zero_le _, hg⟩,
    measuredOk_iff.2 hmeas, slotOk_iff.2 hs, nofun⟩

/-! ## Tables -/

theorem Table.modify_modify {α : Type} (k : Nat) (f g : α → α) (t : List (Nat × α)) :
    Table.modify k g (Table.modify k f t) = Table.modify k (fun a => g (f a)) t := by
  unfold Table.modify
  rw [List.map_map]
  refine List.map_congr_left fun e _ => ?_
  by_cases he : e.1 = k <;> simp [he]

theorem Smu.reserve_setState (u : Smu) (i : Nat) (v : SlotState) (r : Reservation) :
    (u.setState i v).reserve i r =
      { u with slots := Table.modify i (fun t => { t with state := v, resv := r }) u.slots } := by
  simp only [Smu.reserve, Smu.setState, Table.modify_modify]

/-! ## The occupant and the fit -/

theorem Smu.occupant?_iff {u : Smu} {i : Nat} {k : Coil} : u.occupant? i = some k ↔
    ∃ t id, u.slot? i = some t ∧ t.state = .occupied id ∧ u.coil? id = some k := by
  unfold Smu.occupant?
  cases u.slot? i with
  | none => simp
  | some t => cases hs : t.state <;> simp [hs]

theorem Smu.bears_iff {u : Smu} {d : CoilDesc} {i : Nat} : u.bears d i = true ↔
    ∃ a, u.occupant? i = some a ∧ d.weight ≤ a.weight ∧ d.width ≤ a.width := by
  unfold Smu.bears
  cases u.occupant? i <;> simp

/-- A slot bears a coil between its supports where each of them does (R25). -/
theorem Smu.fits_two_iff {u : Smu} {d : CoilDesc} {l r : Nat} : (u.bears d l && u.bears d r) = true ↔
    ∃ a b, u.occupant? l = some a ∧ u.occupant? r = some b ∧ d.weight ≤ a.weight ∧ d.weight ≤ b.weight ∧
      d.width ≤ a.width ∧ d.width ≤ b.width := by
  rw [Bool.and_eq_true, Smu.bears_iff, Smu.bears_iff]
  constructor
  · rintro ⟨⟨a, ha, hwa, hda⟩, b, hb, hwb, hdb⟩
    exact ⟨a, b, ha, hb, hwa, hwb, hda, hdb⟩
  · rintro ⟨a, b, ha, hb, hwa, hwb, hda, hdb⟩
    exact ⟨⟨a, ha, hwa, hda⟩, b, hb, hwb, hdb⟩

/-! ## What rests on a slot -/

theorem SlotState.isOccupied_iff {v : SlotState} : v.isOccupied = true ↔ ∃ id, v = .occupied id := by
  cases v <;> simp [SlotState.isOccupied]

theorem Reservation.isSource_eq_false {v : Reservation} : v.isSource = false ↔ ∀ k, v ≠ .source k := by
  cases v <;> simp [Reservation.isSource]

theorem Slot.inUse_eq_false {t : Slot} : t.inUse = false ↔ (∀ id, t.state ≠ .occupied id) ∧ t.resv = .none := by
  unfold Slot.inUse
  rw [Bool.or_eq_false_iff, ← Bool.not_eq_true, SlotState.isOccupied_iff, not_exists, bne_eq_false_iff_eq]

/-- A tier-2 slot that is in use and has slot `i` as its left, or as its right support. -/
def Slot.bearsOn (i : Nat) (left : Bool) (t : Slot) : Bool :=
  t.inUse && match t.geom.tier with
    | .one _ => false
    | .two l r => if left then l == i else r == i

theorem Slot.bearsOn_iff {i : Nat} {left : Bool} {t : Slot} : t.bearsOn i left = true ↔
    t.inUse = true ∧ ∃ l r, t.geom.tier = .two l r ∧ (if left then l else r) = i := by
  unfold Slot.bearsOn
  cases t.geom.tier <;> cases left <;> simp

theorem firstKey_eq (a b : Option (Nat × Slot)) :
    (match a.map (·.1) with | some j => some j | none => b.map (·.1)) = (a.or b).map (·.1) := by
  cases a <;> rfl

theorem Smu.blockedAbove_eq (u : Smu) (i : Nat) :
    u.blockedAbove i = ((u.slots.find? fun e => e.2.bearsOn i true).or
      (u.slots.find? fun e => e.2.bearsOn i false)).map (·.1) :=
  firstKey_eq (u.slots.find? fun e => e.2.bearsOn i true) (u.slots.find? fun e => e.2.bearsOn i false)

theorem Smu.blockedAbove_none_iff {u : Smu} {i : Nat} : u.blockedAbove i = none ↔
    ∀ e ∈ u.slots, ∀ l r, e.2.geom.tier = .two l r → l = i ∨ r = i →
      (∀ id, e.2.state ≠ .occupied id) ∧ e.2.resv = .none := by
  rw [Smu.blockedAbove_eq, Option.map_eq_none_iff, Option.or_eq_none_iff, List.find?_eq_none, List.find?_eq_none,
    ← forall₂_and]
  refine forall₂_congr fun e _ => ?_
  rw [Slot.bearsOn_iff, Slot.bearsOn_iff, ← Slot.inUse_eq_false, ← not_or, ← and_or_left]
  simp only [if_true, Bool.false_eq_true, if_false]
  constructor
  · intro h l r htier hor
    by_contra hin
    exact h ⟨by simpa using hin, hor.imp (fun hl => ⟨l, r, htier, hl⟩) fun hr => ⟨l, r, htier, hr⟩⟩
  · rintro h ⟨hin, ⟨l, r, htier, hi⟩ | ⟨l, r, htier, hi⟩⟩
    · exact Bool.false_ne_true ((h l r htier (.inl hi)).symm.trans hin)
    · exact Bool.false_ne_true ((h l r htier (.inr hi)).symm.trans hin)

theorem Smu.blockedAbove_some {u : Smu} {i j : Nat} (h : u.blockedAbove i = some j) :
    ∃ e ∈ u.slots, j = e.1 ∧ ∃ l r, e.2.geom.tier = .two l r ∧ (l = i ∨ r = i) := by
  rw [Smu.blockedAbove_eq, Option.map_eq_some_iff] at h
  obtain ⟨e, he, rfl⟩ := h
  rcases Option.or_eq_some_iff.1 he with he | ⟨-, he⟩
  · have hbears : e.2.bearsOn i true = true := List.find?_some (p := fun e : Nat × Slot => e.2.bearsOn i true) he
    obtain ⟨-, l, r, htier, hl⟩ := Slot.bearsOn_iff.1 hbears
    exact ⟨e, List.mem_of_find?_eq_some he, rfl, l, r, htier, .inl hl⟩
  · have hbears : e.2.bearsOn i false = true := List.find?_some (p := fun e : Nat × Slot => e.2.bearsOn i false) he
    obtain ⟨-, l, r, htier, hr⟩ := Slot.bearsOn_iff.1 hbears
    exact ⟨e, List.mem_of_find?_eq_some he, rfl, l, r, htier, .inr hr⟩

theorem Smu.supportOk_iff {u : Smu} {i : Nat} : u.supportOk i = true ↔
    ∃ t id, u.slot? i = some t ∧ t.state = .occupied id ∧ ∀ k, t.resv ≠ .source k := by
  unfold Smu.supportOk
  cases u.slot? i with
  | none => simp
  | some t =>
    simp only [Bool.and_eq_true, Bool.not_eq_true', SlotState.isOccupied_iff, Reservation.isSource_eq_false]
    simp

theorem Smu.failingSupport_one {u : Smu} {g : SlotGeom} {m : Nat} (h : g.tier = .one m) :
    u.failingSupport g = none := by
  simp only [Smu.failingSupport, h]

theorem Smu.failingSupport_two {u : Smu} {g : SlotGeom} {l r : Nat} (h : g.tier = .two l r) :
    u.failingSupport g =
      if u.supportOk l = false then some l else if u.supportOk r = false then some r else none := by
  simp only [Smu.failingSupport, h, Bool.not_eq_true']

/-! ## Reservations -/

section Dest

variable {u : Smu} {r : RunwayId} {i : Nat} {d : CoilDesc} {t : Slot} (h : u.slot? i = some t)

include h

theorem Smu.testDest_of_slot : u.testDest r i d =
    if t.geom.runway ≠ r then some ⟨.badValue, i⟩
    else if t.state ≠ .free then some ⟨.stateConflict, 0⟩
    else if t.resv ≠ .none then some ⟨.reserved, 0⟩
    else ((u.failingSupport t.geom).map fun j => (⟨.supportConflict, j⟩ : Nak)).or
      (if u.fits d t.geom then none else some ⟨.notFit, i⟩) := by
  simp only [Smu.testDest, h]
  cases u.failingSupport t.geom <;> rfl

theorem Smu.isCandidate_iff_testDest : u.isCandidate r d t = true ↔ u.testDest r i d = none := by
  rw [Smu.testDest_of_slot h]
  unfold Smu.isCandidate
  cases u.failingSupport t.geom <;> by_cases hr : t.geom.runway = r <;> by_cases hs : t.state = .free <;>
    by_cases hv : t.resv = .none <;> simp [hr, hs, hv]

theorem Smu.testSource_of_slot {coil : Nat} : u.testSource i coil =
    if t.state ≠ .occupied coil then some ⟨.locationMismatch, 0⟩
    else if t.resv ≠ .none then some ⟨.reserved, 0⟩
    else (u.blockedAbove i).map fun j => ⟨.supportConflict, j⟩ := by
  simp only [Smu.testSource, h]
  cases u.blockedAbove i <;> rfl

/-- The slot of a table that is changed by its index, and the slots that stay. -/
theorem Smu.modify_becomes (f : Slot → Slot) :
    let v : Smu := { u with slots := Table.modify i f u.slots }
    v.slot? i = some (f t) ∧ v.coils = u.coils ∧ ∀ j, j ≠ i → v.slot? j = u.slot? j := by
  have hfind : Table.find i u.slots = some t := h
  refine ⟨?_, rfl, fun j hj => ?_⟩
  · simp [Smu.slot?, Table.find_modify, hfind]
  · simp [Smu.slot?, Table.find_modify, hj]

end Dest

/-! ## SLOT-SUGGEST -/

theorem Coil.slot?_eq_some {k : Coil} {i : Nat} : k.slot? = some i ↔ k.location = .slot i := by
  unfold Coil.slot?
  cases k.location <;> simp

theorem State.suggestMap_of_stored {s : State} {id i : Nat} {k : Coil} {t : Slot} {m : Nat}
    (hk : s.coil? id = some k) (hl : k.location = .slot i) (ht : s.slot? i = some t)
    (hm : t.geom.tier = .one m) : s.suggestMap (.coil id) = s.smu.reserve i (.source 0) := by
  simp only [State.suggestMap, hk, Option.bind_some, Coil.slot?_eq_some.2 hl, ht, hm]

theorem State.suggestMap_of_other {s : State} {id : Nat} {k : Coil} (hk : s.coil? id = some k)
    (h : ∀ i t m, k.location = .slot i → s.slot? i = some t → t.geom.tier ≠ .one m) :
    s.suggestMap (.coil id) = s.smu := by
  simp only [State.suggestMap, hk, Option.bind_some]
  cases hslot : k.slot? with
  | none => rfl
  | some i =>
    dsimp only
    cases ht : s.slot? i with
    | none => rfl
    | some t =>
      dsimp only
      cases hm : t.geom.tier with
      | one m => exact absurd hm (h i t m (Coil.slot?_eq_some.1 hslot) ht)
      | two l r => rfl

/-- What a SLOT-SUGGEST that is granted answers (R52). -/
theorem ownSlotSuggest_of {s : State} {v : SlotSuggest} {c : CraneId} {r : RunwayId} {x : Int} {l : CraneLink}
    {d : CoilDesc} (hpass : ∀ b ∈ suggestChecks v, b = true) (hc : v.crane = numVal c)
    (hl : s.links.get c = some l) (hx : l.seenPos = some x) (hr : s.craneRunway c = some r)
    (hd : s.suggested v.about = .ok d) :
    ownSlotSuggest s v = .ok (s, .suggestion (suggestion
      ((s.suggestMap v.about).select s.lsu.settings.tier2Penalty r x d)
      ((s.suggestMap v.about).slots.filter fun e => (s.suggestMap v.about).isCandidate r d e.2).length)) := by
  have hpos : s.position? c = some x := by rw [State.position?, hl]; exact hx
  simp only [ownSlotSuggest, checkFrom_all _ _ hpass, except_ok_bind, hc, readNum_numVal, hl, Option.isSome_some,
    require_true, hr, requireSome_some, hpos, hd, Smu.candidates, List.length_map]
  rfl

end Sys2Proof.Machine
end

section
/-! SUPPORT. The statements about the store, settled. -/

namespace Sys2Proof

open Machine

/-- Settles O19: the checks of Table 2-6 in their order. -/
theorem coilAddIsJudged : Obligations.CoilAddIsJudged := by
  refine ⟨fun tag v t s s0 h h1 h2 h3 h4 h5 h6 h7 h8 h9 h10 h11 hdup ht hfree hres hsup hfit hroom =>
      congrArg Host.Outcome.next (State.serve_ack noSelector h ?added),
    fun tag v s s0 h => ?fields, fun tag v s s0 h hpass => ?checks⟩
  case added =>
    have hpass := coilAddChecks_pass ⟨h1, h2⟩ ⟨h3, h4⟩ ⟨h5, h6⟩ ⟨h7, h8⟩ h9 h10 h11
    have hlt : s0.smu.coils.length < Config.coilMax := hroom
    have hfits : s0.smu.fits (addedDesc v) t.geom = true := hfit
    simp only [ownCoilAdd, checkFrom_all _ _ hpass, except_ok_bind, hdup, Option.isNone_none, require_true, ht,
      requireSome_some, hfree, hres, beq_self_eq_true, hsup, Option.map_none, requireNone_none, hfits, hlt,
      decide_true]
    rfl
  case fields =>
    have hrefuse : ∀ n, checkFrom 1 (coilAddChecks v) = .error ⟨.badValue, n⟩ →
        exec (.coilAdd tag (.fields v)) s = .next (s0.nacked tag ReqKind.coilAdd.code .badValue n) := fun n hn =>
      congrArg Host.Outcome.next (State.serve_nak noSelector h (by
        simp only [ownCoilAdd, hn, except_error_bind]))
    rw [coilAddChecks_eq] at hrefuse
    refine ⟨fun h1 => hrefuse 1 ?_, fun h1 h2 => hrefuse 2 ?_, fun h1 h2 h3 => hrefuse 3 ?_,
      fun h1 h2 h3 h4 => hrefuse 4 ?_, fun h1 h2 h3 h4 h5 => hrefuse 5 ?_,
      fun h1 h2 h3 h4 h5 h6 => hrefuse 6 ?_, fun h1 h2 h3 h4 h5 h6 h7 => hrefuse 7 ?_⟩
    · rw [coilIdOk, within_eq_false h1, checkFrom_false]
    · rw [coilIdOk, within_iff.2 h1, within_eq_false h2, checkFrom_true, checkFrom_false]
    · rw [coilIdOk, within_iff.2 h1, within_iff.2 h2, within_eq_false h3, checkFrom_true, checkFrom_true,
        checkFrom_false]
    · rw [coilIdOk, within_iff.2 h1, within_iff.2 h2, within_iff.2 h3, within_eq_false h4, checkFrom_true,
        checkFrom_true, checkFrom_true, checkFrom_false]
    · rw [coilIdOk, within_iff.2 h1, within_iff.2 h2, within_iff.2 h3, within_iff.2 h4,
        within_eq_false fun hg => h5 hg.2, checkFrom_true, checkFrom_true, checkFrom_true, checkFrom_true,
        checkFrom_false]
    · rw [coilIdOk, within_iff.2 h1, within_iff.2 h2, within_iff.2 h3, within_iff.2 h4,
        within_iff.2 ⟨Nat.zero_le _, h5⟩, Bool.eq_false_iff.2 fun hm => h6 (measuredOk_iff.1 hm), checkFrom_true,
        checkFrom_true, checkFrom_true, checkFrom_true, checkFrom_true, checkFrom_false]
    · rw [coilIdOk, within_iff.2 h1, within_iff.2 h2, within_iff.2 h3, within_iff.2 h4,
        within_iff.2 ⟨Nat.zero_le _, h5⟩, measuredOk_iff.2 h6, Bool.eq_false_iff.2 fun hs => h7 (slotOk_iff.1 hs),
        checkFrom_true, checkFrom_true, checkFrom_true, checkFrom_true, checkFrom_true, checkFrom_true,
        checkFrom_false]
  case checks =>
    have hrefuse : ∀ code detail, ownCoilAdd s0 v = .error ⟨code, detail⟩ →
        exec (.coilAdd tag (.fields v)) s = .next (s0.nacked tag ReqKind.coilAdd.code code detail) :=
      fun code detail hn => congrArg Host.Outcome.next (State.serve_nak noSelector h hn)
    have hfields : checkFrom 1 (coilAddChecks v) = .ok () := checkFrom_all _ _ hpass
    refine ⟨fun hdup => hrefuse _ _ ?_, fun hnew => ⟨fun hslot => hrefuse _ _ ?_, fun t ht => ⟨fun hs => hrefuse _ _ ?_,
      fun hs => ⟨fun hr => hrefuse _ _ ?_, fun hr => ⟨fun j hj => hrefuse _ _ ?_, fun hsup =>
        ⟨fun hfit => hrefuse _ _ ?_, fun hfit hfull => hrefuse _ _ ?_⟩⟩⟩⟩⟩⟩
    · have hnone : (s0.coil? v.coil).isNone = false :=
        Option.isNone_eq_false_iff.2 (Option.isSome_iff_ne_none.2 hdup)
      simp only [ownCoilAdd, hfields, except_ok_bind, hnone, require_false, except_error_bind]
    · simp only [ownCoilAdd, hfields, except_ok_bind, hnew, Option.isNone_none, require_true, hslot,
        requireSome_none, except_error_bind]
    · simp only [ownCoilAdd, hfields, except_ok_bind, hnew, Option.isNone_none, require_true, ht,
        requireSome_some, beq_eq_false_iff_ne.2 hs, require_false, except_error_bind]
    · simp only [ownCoilAdd, hfields, except_ok_bind, hnew, Option.isNone_none, require_true, ht,
        requireSome_some, hs, beq_self_eq_true, beq_eq_false_iff_ne.2 hr, require_false, except_error_bind]
    · simp only [ownCoilAdd, hfields, except_ok_bind, hnew, Option.isNone_none, require_true, ht,
        requireSome_some, hs, hr, beq_self_eq_true, hj, Option.map_some, requireNone_some, except_error_bind]
    · have hfits : s0.smu.fits (addedDesc v) t.geom = false := hfit
      simp only [ownCoilAdd, hfields, except_ok_bind, hnew, Option.isNone_none, require_true, ht,
        requireSome_some, hs, hr, beq_self_eq_true, hsup, Option.map_none, requireNone_none, hfits, require_false,
        except_error_bind]
    · have hfits : s0.smu.fits (addedDesc v) t.geom = true := hfit
      have hroom : decide (s0.smu.coils.length < Config.coilMax) = false := decide_eq_false (Nat.not_lt.2 hfull)
      simp only [ownCoilAdd, hfields, except_ok_bind, hnew, Option.isNone_none, require_true, ht,
        requireSome_some, hs, hr, beq_self_eq_true, hsup, Option.map_none, requireNone_none, hfits, hroom,
        require_false, except_error_bind]

/-- Settles O20: the three requests that are granted. -/
theorem storeIsKeptInStep : Obligations.StoreIsKeptInStep := by
  refine ⟨fun tag id i k s s0 h hk hl ht hp hb => congrArg Host.Outcome.next (State.serve_ack noSelector h ?removed),
    fun tag i t s s0 h ht hs hr => congrArg Host.Outcome.next (State.serve_ack noSelector h ?blocked),
    fun tag i t s s0 h ht hs => congrArg Host.Outcome.next (State.serve_ack noSelector h ?unblocked)⟩
  case removed =>
    simp only [ownCoilRemove, hk, requireSome_some, except_ok_bind, Coil.slot?_eq_some.2 hl, ht, hp,
      Option.isNone_none, require_true, hb, Option.map_none, requireNone_none]
    rfl
  case blocked =>
    simp only [ownSlotBlock, ht, requireSome_some, except_ok_bind, hs, hr, beq_self_eq_true, require_true]
    rfl
  case unblocked =>
    simp only [ownSlotUnblock, ht, requireSome_some, except_ok_bind, hs, beq_self_eq_true, require_true,
      Smu.reserve_setState]
    rfl

/-- Settles O21: the two tiers, and the occupant of a slot. -/
theorem fitTest : Obligations.FitTest := by
  refine ⟨fun u d g => ?_, fun u i k => Smu.occupant?_iff, fun k => rfl⟩
  rw [Smu.fits, Bool.and_eq_true, decide_eq_true_iff]
  refine and_congr_right fun _ => ?_
  cases g.tier with
  | one m => exact decide_eq_true_iff
  | two l r => exact Smu.fits_two_iff

/-- Settles O22: the tests in their order, the supports, and the grant and release of one slot. -/
theorem reservationTests : Obligations.ReservationTests := by
  refine ⟨fun u i coil t h => ?source, fun u r i d t h => ?dest,
    fun u i g => ⟨Smu.supportOk_iff, fun m => Smu.failingSupport_one, fun l r => Smu.failingSupport_two⟩,
    fun u task coil r d src dst => ?both, fun u task i t h => ?becomes,
    fun u task b k => ⟨rfl, rfl, rfl, rfl, rfl, rfl⟩⟩
  case source =>
    rw [Smu.testSource_of_slot h]
    refine ⟨fun hs => if_pos hs, fun hs hr => ?_, fun hs hr => ?_⟩
    · rw [if_neg (not_not.2 hs), if_pos hr]
    · rw [if_neg (not_not.2 hs), if_neg (not_not.2 hr), Option.map_eq_none_iff]
      refine ⟨Smu.blockedAbove_none_iff, fun n hn => ?_⟩
      obtain ⟨j, hj, rfl⟩ := Option.map_eq_some_iff.1 hn
      exact ⟨rfl, Smu.blockedAbove_some hj⟩
  case dest =>
    refine ⟨fun hr => ?_, fun hr hs => ?_, fun hr hs hv => ?_, fun hr hs hv => ⟨fun a b htier => ⟨fun ha => ?_,
      fun ha hb => ?_⟩, fun hsup => ?_⟩, Smu.isCandidate_iff_testDest h⟩
    · rw [Smu.testDest_of_slot h, if_pos hr]
    · rw [Smu.testDest_of_slot h, if_neg (not_not.2 hr), if_pos hs]
    · rw [Smu.testDest_of_slot h, if_neg (not_not.2 hr), if_neg (not_not.2 hs), if_pos hv]
    · rw [Smu.testDest_of_slot h, if_neg (not_not.2 hr), if_neg (not_not.2 hs), if_neg (not_not.2 hv),
        Smu.failingSupport_two htier, if_pos ha]
      rfl
    · rw [Smu.testDest_of_slot h, if_neg (not_not.2 hr), if_neg (not_not.2 hs), if_neg (not_not.2 hv),
        Smu.failingSupport_two htier, if_neg (by simp [ha]), if_pos hb]
      rfl
    · rw [Smu.testDest_of_slot h, if_neg (not_not.2 hr), if_neg (not_not.2 hs), if_neg (not_not.2 hv), hsup]
      rfl
  case both =>
    refine ⟨?_, ?_, ?_, ?_⟩
    · rintro i n rfl hn
      simp only [Smu.testBoth, hn]
    · rintro i j rfl hn rfl
      simp only [Smu.testBoth, hn]
    · rintro b k j rfl rfl
      rfl
    · intro hsrc hdst
      unfold Smu.testBoth
      cases src with
      | slot i =>
        simp only [hsrc i rfl]
        cases dst with
        | auto => rfl
        | place p =>
          cases p with
          | slot j => exact absurd rfl (hdst j)
          | cradle b k => rfl
      | cradle b k =>
        cases dst with
        | auto => rfl
        | place p =>
          cases p with
          | slot j => exact absurd rfl (hdst j)
          | cradle b k => rfl
  case becomes =>
    exact ⟨Smu.modify_becomes h _, Smu.modify_becomes h _, Smu.modify_becomes h _, Smu.modify_becomes h _⟩

/-- Settles O25: the outcome for a described coil and for a stored one. -/
theorem suggestionReservesNothing : Obligations.SuggestionReservesNothing := by
  refine ⟨fun n => rfl, fun i c n => rfl,
    fun tag c w d m g r x l s s0 h hw hw' hd hd' hm hm' hg hl hx hr =>
      congrArg Host.Outcome.next (State.serve_ack noSelector h
        (ownSlotSuggest_of ?described rfl hl hx hr rfl)),
    fun tag c id r x k l s s0 h hid hid' hl hx hr hk => ?stored⟩
  case described =>
    simp [suggestChecks, within_of_le hw hw', within_of_le hd hd', within_of_le hm hm',
      within_of_le (Nat.zero_le _) hg]
  case stored =>
    have hpass : ∀ b ∈ suggestChecks ⟨numVal c, .coil id⟩, b = true := by
      simp [suggestChecks, coilIdOk, within_of_le hid hid']
    have hsug : s0.suggested (.coil id) = .ok k.desc := by
      simp only [State.suggested, hk, requireSome_some, except_ok_bind]
    have hown := ownSlotSuggest_of hpass rfl hl hx hr hsug
    refine ⟨fun i t n hloc ht htier => congrArg Host.Outcome.next (State.serve_ack noSelector h ?_),
      fun hother => congrArg Host.Outcome.next (State.serve_ack noSelector h ?_)⟩
    · rw [hown, State.suggestMap_of_stored hk hloc ht htier]
    · rw [hown, State.suggestMap_of_other hk hother]

end Sys2Proof
end

section
/-! SUPPORT. TASK-SUBMIT: its fields as a source and a destination, and the tests of Table 4-4 in their order. -/

namespace Sys2Proof.Machine

theorem readPlace_codes (p : Place) : readPlace p.codes.1 p.codes.2.1 p.codes.2.2 = some p := by
  cases p <;> simp [Place.codes, readPlace]

theorem readDest_codes (d : Dest) : readDest d.codes.1 d.codes.2.1 d.codes.2.2 = some d := by
  cases d with
  | auto => rfl
  | place p => cases p <;> simp [Dest.codes, readDest]

theorem sourceChecks_pass {p : Place} (h : p.fits) :
    ∀ b ∈ sourceChecks p.codes.1 p.codes.2.1 p.codes.2.2, b = true := by
  cases p with
  | slot i =>
    have hi : slotOk i = true := slotOk_iff.2 h
    simp [sourceChecks, Place.codes, hi, within]
  | cradle b k =>
    have hk : cradleOk k = true := within_iff.2 h
    simp [sourceChecks, Place.codes, hk, within]

theorem destChecks_pass {d : Dest} (h : d.fits) :
    ∀ b ∈ destChecks d.codes.1 d.codes.2.1 d.codes.2.2, b = true := by
  cases d with
  | auto => decide
  | place p =>
    cases p with
    | slot i =>
      have hi : slotOk i = true := slotOk_iff.2 h
      simp [destChecks, Dest.codes, hi, within]
    | cradle b k =>
      have hk : cradleOk k = true := within_iff.2 h
      simp [destChecks, Dest.codes, hk, within]

theorem submitChecks_pass {task coil : Nat} {c : CraneId} {flags : Byte} {src : Place} {dst : Dest}
    (h1 : 1 ≤ task) (h2 : task ≤ 65535) (h3 : 1 ≤ coil) (h4 : coil ≤ 4294967295) (h5 : flags.toNat < 4)
    (hsrc : src.fits) (hdst : dst.fits) : ∀ b ∈ submitChecks (submitOf task c coil flags src dst), b = true := by
  simp only [submitChecks, List.forall_mem_append]
  refine ⟨⟨?_, sourceChecks_pass hsrc⟩, destChecks_pass hdst⟩
  simp [submitOf, taskIdOk, coilIdOk, within_of_le h1 h2, within_of_le h3 h4, h5]

theorem onHook_eq_false {l : Location} : onHook l = false ↔ ∀ d, l ≠ .hook d := by
  cases l <;> simp [onHook]

theorem BayState.occupied_iff {v : BayState} :
    v.occupied = true ↔ v = .present ∨ v = .secured ∨ v = .working := by
  cases v <;> simp [BayState.occupied]

theorem State.entryIs_iff {s : State} {b : BayId} {n coil : Nat} {kind : PlanKind} {status : EntryStatus} :
    s.entryIs b n coil kind status = true ↔ ∃ y p, s.bcu.bays.get b = some y ∧ y.plan = some p ∧
      p.head.kind = kind ∧ ⟨n, coil, status⟩ ∈ p.entries := by
  unfold State.entryIs State.plan?
  cases s.bcu.bays.get b with
  | none => simp
  | some y =>
    simp only [Option.bind_some]
    cases hp : y.plan <;> simp [hp]

/-- A source cradle holds the coil on a trailer the bay serves (R57). -/
theorem State.sourceOk_cradle_iff {s : State} {k : Coil} {coil n : Nat} {b : BayId} :
    s.sourceOk k coil (.cradle b n) = true ↔ s.entryIs b n coil .unload .onTruck = true ∧
      k.location = .cradle b n ∧
      ∃ y, s.bcu.bays.get b = some y ∧ (y.state = .present ∨ y.state = .secured ∨ y.state = .working) := by
  unfold State.sourceOk
  rw [Bool.and_eq_true, Bool.and_eq_true, beq_iff_eq, and_assoc]
  refine and_congr_right fun _ => and_congr_right fun _ => ?_
  cases s.bcu.bays.get b <;> simp [BayState.occupied_iff]

theorem State.sourceOk_iff {s : State} {k : Coil} {coil : Nat} {src : Place} : s.sourceOk k coil src = true ↔
    ∀ b n, src = .cradle b n → s.entryIs b n coil .unload .onTruck = true ∧ k.location = .cradle b n ∧
      ∃ y, s.bcu.bays.get b = some y ∧ (y.state = .present ∨ y.state = .secured ∨ y.state = .working) := by
  cases src with
  | slot i => exact ⟨fun _ b n h => (nomatch h), fun _ => rfl⟩
  | cradle b n =>
    rw [State.sourceOk_cradle_iff]
    exact ⟨fun h b' n' heq => by cases heq; exact h, fun h => h b n rfl⟩

theorem State.destOk_iff {s : State} {coil : Nat} {dst : Dest} : s.destOk coil dst = true ↔
    ∀ b n, dst = .place (.cradle b n) → s.entryIs b n coil .load .pending = true := by
  cases dst with
  | auto => exact ⟨fun _ b n h => (nomatch h), fun _ => rfl⟩
  | place p =>
    cases p with
    | slot i => exact ⟨fun _ b n h => (nomatch h), fun _ => rfl⟩
    | cradle b n => exact ⟨fun h b' n' heq => by cases heq; exact h, fun h => h b n rfl⟩

theorem isCradle_iff {p : Place} : isCradle p = true ↔ ∃ b n, p = .cradle b n := by
  cases p <;> simp [isCradle]

/-- A test of a destination's place that passes. -/
theorem Dest.all_place_iff {d : Dest} {ok : Place → Bool} :
    d.place?.all ok = true ↔ ∀ q, d = .place q → ok q = true := by
  cases d <;> simp [Dest.place?]

/-- Source and destination are not both cradles (R57). -/
theorem both_cradles_iff {src : Place} {dst : Dest} : (!(isCradle src && dst.place?.any isCradle)) = true ↔
    ∀ b n, src = .cradle b n → ∀ b' n', dst ≠ .place (.cradle b' n') := by
  cases src with
  | slot i => simp [isCradle]
  | cradle b n =>
    cases dst with
    | auto => simp [Dest.place?]
    | place q => cases q <;> simp [isCradle, Dest.place?]

/-! ## The tests of Table 4-4 -/

section Submit

variable {s : State} {task coil : Nat} {c : CraneId} {flags : Byte} {src : Place} {dst : Dest}

/-- The checks of Table 4-4 after that of the fields. -/
def State.judgeSubmit (s : State) (task coil : Nat) (c : CraneId) (flags : Byte) (src : Place) (dst : Dest) :
    Verdict := do
  require ((s.links.get c).isSome && !s.tcu.detached.get c) .stateConflict (numVal c)
  let r ← requireSome (s.craneRunway c) .stateConflict (numVal c)
  require (decide ((s.tcu.queues.get c).length < Config.queueMax)) .queueFull (numVal c)
  require (s.task? task).isNone .duplicate task
  let k ← requireSome (s.coil? coil) .noSuchItem 0
  require (!onHook k.location) .locationMismatch 0
  require k.task.isNone .stateConflict (k.task.getD 0)
  require (s.placeDefined src) .noSuchItem src.codes.2.1
  require (dst.place?.all s.placeDefined) .noSuchItem dst.codes.2.1
  require (s.placeRunway src == some r) .badValue src.codes.2.1
  require (dst.place?.all fun p => s.placeRunway p == some r) .badValue dst.codes.2.1
  require (!(isCradle src && dst.place?.any isCradle)) .badValue dst.codes.2.1
  require (s.sourceOk k coil src) .locationMismatch src.codes.2.1
  require (s.destOk coil dst) .locationMismatch dst.codes.2.1
  requireNone (s.smu.testBoth task coil r k.desc src dst)
  let t := submitted (submitOf task c coil flags src dst) src dst
  .ok (s.accept c t, .taskQueued t.id c t.kind (placeIn t.id (placeTask t (s.tcu.queues.get c))))

theorem ownTaskSubmit_eq (hpass : ∀ b ∈ submitChecks (submitOf task c coil flags src dst), b = true) :
    ownTaskSubmit s (submitOf task c coil flags src dst) = s.judgeSubmit task coil c flags src dst := by
  unfold ownTaskSubmit
  rw [checkFrom_all _ _ hpass]
  simp only [submitOf, except_ok_bind, readNum_numVal, readPlace_codes, readDest_codes, requireSome_some]
  rfl

section Known

variable {l : CraneLink} {p : ParamSet} (hl : s.links.get c = some l) (hp : s.lsu.active.get c = some p)
  (hd : s.tcu.detached.get c = false)

theorem State.judgeSubmit_of_unavailable (h : s.links.get c = none ∨ s.tcu.detached.get c = true) :
    s.judgeSubmit task coil c flags src dst = .error ⟨.stateConflict, numVal c⟩ := by
  have hfail : ((s.links.get c).isSome && !s.tcu.detached.get c) = false := by
    rcases h with h | h <;> simp [h]
  simp only [State.judgeSubmit, hfail, require_false, except_error_bind]

include hl hp hd

theorem State.judgeSubmit_of_full (hfull : ¬ (s.tcu.queues.get c).length < Config.queueMax) :
    s.judgeSubmit task coil c flags src dst = .error ⟨.queueFull, numVal c⟩ := by
  simp only [State.judgeSubmit, State.craneRunway, hl, hp, hd, Option.isSome_some, Bool.not_false, Bool.and_self,
    Option.map_some, require_true, requireSome_some, except_ok_bind, decide_eq_false hfull, require_false,
    except_error_bind]

section Room

variable (hroom : (s.tcu.queues.get c).length < Config.queueMax)

include hroom

theorem State.judgeSubmit_of_duplicate (hdup : s.task? task ≠ none) :
    s.judgeSubmit task coil c flags src dst = .error ⟨.duplicate, task⟩ := by
  have hsome : (s.task? task).isNone = false := Option.isNone_eq_false_iff.2 (Option.isSome_iff_ne_none.2 hdup)
  simp only [State.judgeSubmit, State.craneRunway, hl, hp, hd, Option.isSome_some, Bool.not_false, Bool.and_self,
    Option.map_some, require_true, requireSome_some, except_ok_bind, decide_eq_true hroom, hsome, require_false,
    except_error_bind]

variable (hnew : s.task? task = none)

include hnew

theorem State.judgeSubmit_of_no_coil (hk : s.coil? coil = none) :
    s.judgeSubmit task coil c flags src dst = .error ⟨.noSuchItem, 0⟩ := by
  simp only [State.judgeSubmit, State.craneRunway, hl, hp, hd, Option.isSome_some, Bool.not_false, Bool.and_self,
    Option.map_some, require_true, requireSome_some, except_ok_bind, decide_eq_true hroom, hnew, Option.isNone_none,
    hk, requireSome_none, except_error_bind]

/-- The checks of Table 4-4 from that of the coil's place on. -/
def State.judgeMove (s : State) (task coil : Nat) (c : CraneId) (flags : Byte) (src : Place) (dst : Dest)
    (r : RunwayId) (k : Coil) : Verdict := do
  require (!onHook k.location) .locationMismatch 0
  require k.task.isNone .stateConflict (k.task.getD 0)
  require (s.placeDefined src) .noSuchItem src.codes.2.1
  require (dst.place?.all s.placeDefined) .noSuchItem dst.codes.2.1
  require (s.placeRunway src == some r) .badValue src.codes.2.1
  require (dst.place?.all fun p => s.placeRunway p == some r) .badValue dst.codes.2.1
  require (!(isCradle src && dst.place?.any isCradle)) .badValue dst.codes.2.1
  require (s.sourceOk k coil src) .locationMismatch src.codes.2.1
  require (s.destOk coil dst) .locationMismatch dst.codes.2.1
  requireNone (s.smu.testBoth task coil r k.desc src dst)
  let t := submitted (submitOf task c coil flags src dst) src dst
  .ok (s.accept c t, .taskQueued t.id c t.kind (placeIn t.id (placeTask t (s.tcu.queues.get c))))

theorem State.judgeSubmit_of_coil {k : Coil} (hk : s.coil? coil = some k) :
    s.judgeSubmit task coil c flags src dst = s.judgeMove task coil c flags src dst p.runway k := by
  simp only [State.judgeSubmit, State.craneRunway, hl, hp, hd, Option.isSome_some, Bool.not_false, Bool.and_self,
    Option.map_some, require_true, requireSome_some, except_ok_bind, decide_eq_true hroom, hnew, Option.isNone_none,
    hk]
  rfl

end Room

end Known

section Move

variable {r : RunwayId} {k : Coil}

theorem State.judgeMove_of_hook {d : CraneId} (h : k.location = .hook d) :
    s.judgeMove task coil c flags src dst r k = .error ⟨.locationMismatch, 0⟩ := by
  simp only [State.judgeMove, h, onHook, Bool.not_true, require_false, except_error_bind]

variable (hhook : ∀ d, k.location ≠ .hook d)

include hhook

theorem State.judgeMove_of_busy {other : Nat} (h : k.task = some other) :
    s.judgeMove task coil c flags src dst r k = .error ⟨.stateConflict, other⟩ := by
  simp only [State.judgeMove, onHook_eq_false.2 hhook, Bool.not_false, require_true, except_ok_bind, h,
    Option.isNone_some, require_false, Option.getD_some, except_error_bind]

variable (hfree : k.task = none)

include hfree

theorem State.judgeMove_of_no_source (h : s.placeDefined src = false) :
    s.judgeMove task coil c flags src dst r k = .error ⟨.noSuchItem, src.codes.2.1⟩ := by
  simp only [State.judgeMove, onHook_eq_false.2 hhook, Bool.not_false, require_true, except_ok_bind, hfree,
    Option.isNone_none, h, require_false, except_error_bind]

variable (hsrc : s.placeDefined src = true)

include hsrc

theorem State.judgeMove_of_no_dest {q : Place} (hq : dst = .place q) (h : s.placeDefined q = false) :
    s.judgeMove task coil c flags src dst r k = .error ⟨.noSuchItem, dst.codes.2.1⟩ := by
  have hall : dst.place?.all s.placeDefined = false := by rw [hq]; exact h
  simp only [State.judgeMove, onHook_eq_false.2 hhook, Bool.not_false, require_true, except_ok_bind, hfree,
    Option.isNone_none, hsrc, hall, require_false, except_error_bind]

variable (hdst : ∀ q, dst = .place q → s.placeDefined q = true)

include hdst

theorem State.judgeMove_of_source_elsewhere (h : s.placeRunway src ≠ some r) :
    s.judgeMove task coil c flags src dst r k = .error ⟨.badValue, src.codes.2.1⟩ := by
  simp only [State.judgeMove, onHook_eq_false.2 hhook, Bool.not_false, require_true, except_ok_bind, hfree,
    Option.isNone_none, hsrc, Dest.all_place_iff.2 hdst, beq_eq_false_iff_ne.2 h, require_false,
    except_error_bind]

variable (hsrcRun : s.placeRunway src = some r)

include hsrcRun

theorem State.judgeMove_of_dest_elsewhere {q : Place} (hq : dst = .place q) (h : s.placeRunway q ≠ some r) :
    s.judgeMove task coil c flags src dst r k = .error ⟨.badValue, dst.codes.2.1⟩ := by
  have hall : (dst.place?.all fun p => s.placeRunway p == some r) = false := by
    rw [hq]
    exact beq_eq_false_iff_ne.2 h
  simp only [State.judgeMove, onHook_eq_false.2 hhook, Bool.not_false, require_true, except_ok_bind, hfree,
    Option.isNone_none, hsrc, Dest.all_place_iff.2 hdst, hsrcRun, beq_self_eq_true, hall, require_false,
    except_error_bind]

variable (hdstRun : ∀ q, dst = .place q → s.placeRunway q = some r)

include hdstRun

theorem State.judgeMove_of_along : s.judgeMove task coil c flags src dst r k = (do
    require (!(isCradle src && dst.place?.any isCradle)) .badValue dst.codes.2.1
    require (s.sourceOk k coil src) .locationMismatch src.codes.2.1
    require (s.destOk coil dst) .locationMismatch dst.codes.2.1
    requireNone (s.smu.testBoth task coil r k.desc src dst)
    let t := submitted (submitOf task c coil flags src dst) src dst
    .ok (s.accept c t, .taskQueued t.id c t.kind (placeIn t.id (placeTask t (s.tcu.queues.get c))))) := by
  have hall : (dst.place?.all fun p => s.placeRunway p == some r) = true :=
    Dest.all_place_iff.2 fun q hq => beq_iff_eq.2 (hdstRun q hq)
  simp only [State.judgeMove, onHook_eq_false.2 hhook, Bool.not_false, require_true, except_ok_bind, hfree,
    Option.isNone_none, hsrc, Dest.all_place_iff.2 hdst, hsrcRun, beq_self_eq_true, hall]

end Move

end Submit

/-! ## The accepted task -/

theorem State.entryTo_setSmu (s : State) (u : Smu) (d : Dest) (coil : Nat) (x y : EntryStatus) :
    (s.setSmu u).entryTo d coil x y = (s.entryTo d coil x y).setSmu u := by
  cases d with
  | auto => rfl
  | place p => cases p <;> rfl

/-- The number that a detail gives for a place. -/
theorem Place.codes_number (p : Place) : p.codes.2.1 = p.number := by
  cases p <;> rfl

theorem Dest.codes_number (p : Place) : (Dest.place p).codes.2.1 = p.number := by
  cases p <;> rfl

theorem State.task?_none_iff {s : State} {id : Nat} :
    s.task? id = none ↔ ∀ c, ∀ t ∈ s.tcu.queues.get c, t.id ≠ id := by
  simp only [State.task?, List.findSome?_eq_none_iff, Option.map_eq_none_iff, List.find?_eq_none, beq_iff_eq]
  exact ⟨fun h c t ht => h c (by cases c <;> decide) t ht, fun h c _ t ht => h c t ht⟩

theorem State.task?_some {s : State} {id : Nat} {c : CraneId} {t : Task} (h : s.task? id = some (c, t)) :
    t ∈ s.tcu.queues.get c ∧ t.id = id := by
  obtain ⟨d, -, hd⟩ := List.exists_of_findSome?_eq_some h
  obtain ⟨u, hu, heq⟩ := Option.map_eq_some_iff.1 hd
  cases heq
  exact ⟨List.mem_of_find?_eq_some hu, by simpa using List.find?_some hu⟩

/-- The place of a task behind tasks with other ids. -/
theorem placeIn_append {t : Task} {before after : List Task} (h : ∀ u ∈ before, u.id ≠ t.id) :
    placeIn t.id (before ++ t :: after) = before.length + 1 := by
  have htake : (before ++ t :: after).takeWhile (fun u => u.id != t.id) = before := by
    rw [List.takeWhile_append_of_pos fun u hu => by simpa using h u hu, List.takeWhile_cons]
    simp
  rw [placeIn, htake]

end Sys2Proof.Machine
end

section
/-! SUPPORT. The statements about the acceptance and the placement of a task, settled. -/

namespace Sys2Proof

open Machine

/-- Settles O26: the checks of Table 4-4 in their order, and the accepted task. -/
theorem taskIsAccepted : Obligations.TaskIsAccepted := by
  refine ⟨fun tag task coil c flags src dst k l p s s0 h h1 h2 h3 h4 h5 hsf hdf hl hp hdet hroom hnew hk hhook hfree
      hsd hsr hdr hsrc hdst htest => ?accepted,
    fun tag task coil c flags src dst s s0 h h1 h2 h3 h4 h5 hsf hdf => ?judged,
    fun s i b n coil kind status => ⟨?slotDefined, ?bayDefined, rfl, rfl, State.entryIs_iff⟩,
    fun i j n m a b => ⟨rfl, rfl, rfl, fun d => rfl⟩, fun t before after hb => placeIn_append hb,
    fun s id => ⟨State.task?_none_iff, fun c t => State.task?_some⟩⟩
  case accepted =>
    have hboth : (!(isCradle src && dst.place?.any isCradle)) = true :=
      both_cradles_iff.2 fun b n hb => (hsrc b n hb).1
    have hsource : s0.sourceOk k coil src = true := State.sourceOk_iff.2 fun b n hb => (hsrc b n hb).2
    have hown : ownTaskSubmit s0 (submitOf task c coil flags src dst) = _ :=
      (ownTaskSubmit_eq (submitChecks_pass h1 h2 h3 h4 h5 hsf hdf)).trans
        ((State.judgeSubmit_of_coil hl hp hdet hroom hnew hk).trans
          (State.judgeMove_of_along hhook hfree hsd (fun q hq => (hdr q hq).1) hsr fun q hq => (hdr q hq).2))
    simp only [hboth, hsource, State.destOk_iff.2 hdst, htest, require_true, except_ok_bind,
      requireNone_none] at hown
    refine ⟨_, congrArg Host.Outcome.next (State.serve_ack noSelector h hown), ?_⟩
    simp only [State.accept, State.entryTo_setSmu]
    refine ⟨?_, rfl, rfl, ?_, ?_, ?_, ?_, ?_, ?_, ?_, ?_, ?_, ?_⟩ <;>
      simp [State.notify, State.setQueue, submitted, submitOf, Task.notice]
  case judged =>
    have hrefuse : ∀ code detail, s0.judgeSubmit task coil c flags src dst = .error ⟨code, detail⟩ →
        exec (.taskSubmit tag (.fields (submitOf task c coil flags src dst))) s =
          .next (s0.nacked tag ReqKind.taskSubmit.code code detail) := fun code detail hn =>
      congrArg Host.Outcome.next (State.serve_nak noSelector h
        ((ownTaskSubmit_eq (submitChecks_pass h1 h2 h3 h4 h5 hsf hdf)).trans hn))
    refine ⟨fun h => hrefuse _ _ (State.judgeSubmit_of_unavailable h), fun l p hl hp hd =>
      ⟨fun hfull => hrefuse _ _ (State.judgeSubmit_of_full hl hp hd hfull),
       fun hroom hdup => hrefuse _ _ (State.judgeSubmit_of_duplicate hl hp hd hroom hdup),
       fun hroom hnew hk => hrefuse _ _ (State.judgeSubmit_of_no_coil hl hp hd hroom hnew hk),
       fun k hroom hnew hk => ?move⟩⟩
    case move =>
      rw [State.judgeSubmit_of_coil hl hp hd hroom hnew hk] at hrefuse
      refine ⟨fun d hhook => hrefuse _ _ (State.judgeMove_of_hook hhook), fun hhook =>
        ⟨fun other hbusy => hrefuse _ _ (State.judgeMove_of_busy hhook hbusy), fun hfree =>
          ⟨fun hs => ?noSource, fun q hs hq hn => ?noDest, fun hs hdd => ⟨fun hr => ?sourceElsewhere,
            fun q hr hq hn => ?destElsewhere, fun hr hdr => ?along⟩⟩⟩⟩
      case noSource =>
        have hfail := hrefuse _ _ (State.judgeMove_of_no_source hhook hfree hs)
        cases src <;> exact hfail
      case noDest =>
        have hfail := hrefuse _ _ (State.judgeMove_of_no_dest hhook hfree hs hq hn)
        subst hq
        cases q <;> exact hfail
      case sourceElsewhere =>
        have hfail := hrefuse _ _ (State.judgeMove_of_source_elsewhere hhook hfree hs hdd hr)
        cases src <;> exact hfail
      case destElsewhere =>
        have hfail := hrefuse _ _ (State.judgeMove_of_dest_elsewhere hhook hfree hs hdd hr hq hn)
        subst hq
        cases q <;> exact hfail
      case along =>
        rw [State.judgeMove_of_along hhook hfree hs hdd hr hdr] at hrefuse
        refine ⟨?bothCradles, ?sourceCradle, ?destCradle, fun e hsrc hdst htest => hrefuse _ _ ?reserved⟩
        case bothCradles =>
          rintro b n b' n' rfl rfl
          exact hrefuse _ _ rfl
        case sourceCradle =>
          rintro b n rfl hnot hfail
          have hboth : (!(isCradle (.cradle b n) && dst.place?.any isCradle)) = true :=
            both_cradles_iff.2 fun _ _ _ => hnot
          have hsource : s0.sourceOk k coil (.cradle b n) = false :=
            Bool.eq_false_iff.2 fun hok => hfail (State.sourceOk_cradle_iff.1 hok)
          exact hrefuse _ _ (by
            simp only [hboth, hsource, require_true, require_false, except_ok_bind, except_error_bind]
            rfl)
        case destCradle =>
          rintro i b n rfl rfl hfail
          have hdest : s0.destOk coil (.place (.cradle b n)) = false := hfail
          exact hrefuse _ _ (by
            simp only [isCradle, State.sourceOk, hdest, Bool.false_and, Bool.not_false, require_true, require_false,
              except_ok_bind, except_error_bind]
            rfl)
        case reserved =>
          have hboth : (!(isCradle src && dst.place?.any isCradle)) = true :=
            both_cradles_iff.2 fun b n hb => (hsrc b n hb).1
          have hsource : s0.sourceOk k coil src = true := State.sourceOk_iff.2 fun b n hb => (hsrc b n hb).2
          simp only [hboth, hsource, State.destOk_iff.2 hdst, htest, require_true, except_ok_bind,
            requireNone_some, except_error_bind]
  case slotDefined => exact Option.isSome_iff_ne_none
  case bayDefined => exact Option.isSome_iff_ne_none

/-- Settles O27: the tail without PRIORITY, and what goes ahead with it. -/
theorem priorityPlacement : Obligations.PriorityPlacement := by
  intro t flight urgent rest hf hu hr
  refine ⟨fun hp => by simp [placeTask, hp], fun hp => ?_⟩
  have hahead : (flight ++ urgent ++ rest).takeWhile (fun u => u.inFlight || u.priority) = flight ++ urgent := by
    rw [List.takeWhile_append_of_pos]
    · cases rest with
      | nil => simp
      | cons a rest =>
        obtain ⟨hq, hnp⟩ := hr a List.mem_cons_self
        simp [Task.inFlight, hq, hnp]
    · intro u hmem
      rcases List.mem_append.1 hmem with hmem | hmem
      · simp [Task.inFlight, hf u hmem]
      · simp [(hu u hmem).2]
  simp only [placeTask, hp, if_true, hahead, List.drop_left]

end Sys2Proof
end

section
/-! SUPPORT. The orders of a task, its dispatch, and what a record does to it. -/

namespace Sys2Proof.Machine

/-! ## Orders -/

theorem State.inFlight?_iff {s : State} {c : CraneId} {t : Task} : s.inFlight? c = some t ↔
    t.phase ≠ .queued ∧ ∃ rest, s.tcu.queues.get c = t :: rest := by
  unfold State.inFlight?
  cases s.tcu.queues.get c with
  | nil => simp
  | cons u rest =>
    by_cases hu : u.inFlight = true
    · simp only [hu, if_true, Option.some.injEq, List.cons.injEq, exists_eq_right']
      refine ⟨?_, fun h => h.2⟩
      rintro rfl
      exact ⟨by simpa [Task.inFlight] using hu, rfl⟩
    · simp only [hu, if_false, Bool.false_eq_true, List.cons.injEq, exists_eq_right', reduceCtorEq, false_iff]
      rintro ⟨hq, rfl⟩
      exact hu (by simpa [Task.inFlight] using hq)

/-- The order of a task in flight (R59). -/
theorem State.orderOf_of_inFlight {s : State} {c : CraneId} {t : Task} (h : s.inFlight? c = some t) :
    s.orderOf c = (if (s.tcu.halts.get c).isSome || t.held then .hold else phaseOrder t.phase, t.id,
      s.orderTarget t) := by
  simp only [State.orderOf, h]

theorem State.target?_cradle {s : State} {b : BayId} {n x : Nat} {g : BayGeom} {y : Bay} {p : Plan}
    (hg : s.lsu.bays.get b = some g) (hy : s.bcu.bays.get b = some y) (hp : y.plan = some p) (hn : 1 ≤ n)
    (hx : p.head.cradles[n - 1]? = some x) :
    s.target? (.cradle b n) = some ((g.kingpinX : Int) + g.direction * (x : Int), g.trailerY) := by
  have hplan : s.plan? b = some p := by rw [State.plan?, hy]; exact hp
  have hpos : p.head.position? n = some x := by rw [PlanHead.position?, if_neg (by omega), hx]
  simp only [State.target?, hg, hplan, Option.bind_some, hpos]

/-! ## Dispatch -/

theorem State.linkActive_iff {s : State} {c : CraneId} :
    s.linkActive c = true ↔ ∃ l d, s.links.get c = some l ∧ l.link = .active d := by
  unfold State.linkActive
  cases s.links.get c with
  | none => simp
  | some l => cases hl : l.link <;> simp [hl]

theorem State.referenced_iff {s : State} {c : CraneId} :
    s.referenced c = true ↔ ∃ l, s.links.get c = some l ∧ l.referenced = true := by
  unfold State.referenced
  cases s.links.get c <;> simp

theorem State.zeroInDate_iff {s : State} {c : CraneId} :
    s.zeroInDate c = true ↔ ∃ h, s.hoists.get c = some h ∧ (h.state = .zeroed ∨ h.state = .due) := by
  unfold State.zeroInDate
  cases s.hoists.get c <;> simp [WeighState.zeroInDate_iff]

theorem State.mayDispatch_iff {s : State} {c : CraneId} {t : Task} : s.mayDispatch c t = true ↔
    t.phase = .queued ∧ s.lsu.stage = .run ∧
    (∃ l d, s.links.get c = some l ∧ l.link = .active d ∧ l.referenced = true) ∧
    s.tcu.halts.get c = none ∧ s.lsu.shadow.get c = none ∧ s.tcu.detached.get c = false ∧
    s.hlu.silent = false ∧
    (t.noVerify = true ∨ ∃ h, s.hoists.get c = some h ∧ (h.state = .zeroed ∨ h.state = .due)) := by
  have hlink : (s.linkActive c = true ∧ s.referenced c = true) ↔
      ∃ l d, s.links.get c = some l ∧ l.link = .active d ∧ l.referenced = true := by
    rw [State.linkActive_iff, State.referenced_iff]
    constructor
    · rintro ⟨⟨l, d, hl, hd⟩, l', hl', hr⟩
      rw [hl] at hl'
      cases hl'
      exact ⟨l, d, hl, hd, hr⟩
    · rintro ⟨l, d, hl, hd, hr⟩
      exact ⟨⟨l, d, hl, hd⟩, l, hl, hr⟩
  simp only [State.mayDispatch, Bool.and_eq_true, Bool.or_eq_true, Bool.not_eq_true', beq_iff_eq,
    Option.isNone_iff_eq_none, ← hlink, ← State.zeroInDate_iff]
  tauto

/-- The ids of one queue are all different. -/
theorem State.TasksUnique.queue {s : State} (h : s.TasksUnique) (c : CraneId) :
    ((s.tcu.queues.get c).map (·.id)).Nodup := by
  unfold State.TasksUnique at h
  rw [List.map_flatMap, List.nodup_flatMap] at h
  exact h.1 c (by cases c <;> decide)

/-- The head of a queue written, where its id is its own. -/
theorem map_head_of_nodup {t u : Task} {rest : List Task} (h : ((t :: rest).map (·.id)).Nodup) :
    (t :: rest).map (fun q => if q.id = t.id then u else q) = u :: rest := by
  rw [List.map_cons, if_pos rfl]
  refine congrArg (u :: ·) ?_
  conv_rhs => rw [← List.map_id rest]
  refine List.map_congr_left fun q hq => if_neg fun hid => ?_
  rw [List.map_cons, List.nodup_cons] at h
  exact h.1 (List.mem_map.2 ⟨q, hq, hid⟩)

/-! ## Phase reports -/

/-- The task's own report of the phase that its state expects (R62). -/
theorem Task.matches_iff {t : Task} {r : StatusRec} (h : t.hold = none) : t.matches r = true ↔
    t.phase = .dispatched ∧ (r.task = t.id ∧ r.phase = .arrivedPick) ∨
      t.phase = .picking ∧ (r.task = t.id ∧ r.phase = .lifted) ∨
      t.phase = .carrying ∧ (r.task = t.id ∧ r.phase = .arrivedPlace) ∨
      t.phase = .placing ∧ (r.task = t.id ∧ r.phase = .released) := by
  unfold Task.matches Task.expected
  rw [h, Bool.and_eq_true, beq_iff_eq, beq_iff_eq]
  cases t.phase <;> simp [eq_comm]

theorem State.countMismatch_eq (s : State) (t : Task) (r : StatusRec) : s.countMismatch t r =
    { s with
      tcu :=
        { s.tcu with
          mismatches :=
            if r.task ≠ 0 ∧ r.task ≠ t.id then min (s.tcu.mismatches + 1) 65535 else s.tcu.mismatches } } := by
  simp only [State.countMismatch, bump_eq_min]
  rfl

/-- A report of the task's own id counts no mismatch. -/
theorem State.countMismatch_own {s : State} {t : Task} {r : StatusRec} (h : r.task = t.id) :
    s.countMismatch t r = s := by
  rw [State.countMismatch_eq, if_neg fun hne => hne.2 h]

theorem State.taskActs_held {s : State} {c : CraneId} {t : Task} {r : StatusRec} {x : Int} {w : WeighResult}
    {why : HoldReason} (h : s.inFlight? c = some t) (hh : t.hold = some why) :
    s.taskActs c r x w =
      if why = .planOrder then (s.countMismatch t r).recheckOrder c t else s.countMismatch t r := by
  simp only [State.taskActs, h, hh]

theorem State.taskActs_weighing {s : State} {c : CraneId} {t : Task} {r : StatusRec} {x : Int} {w : WeighResult}
    (h : s.inFlight? c = some t) (hh : t.hold = none) (hp : t.phase = .weighing) :
    s.taskActs c r x w = (s.countMismatch t r).judgeWeight c t w := by
  simp only [State.taskActs, h, hh, hp, if_true]

theorem State.taskActs_phase {s : State} {c : CraneId} {t : Task} {r : StatusRec} {x : Int} {w : WeighResult}
    (h : s.inFlight? c = some t) (hh : t.hold = none) (hp : t.phase ≠ .weighing) :
    s.taskActs c r x w = (s.countMismatch t r).matchPhase c t r x := by
  simp only [State.taskActs, h, hh, hp, if_false]

/-- A fresh mark holds the expected report back; it goes at another (R63). -/
theorem State.matchPhase_fresh {s : State} {c : CraneId} {t : Task} {r : StatusRec} {x : Int}
    (hf : t.fresh = true) :
    s.matchPhase c t r x = if t.matches r = true then s else s.putTask c { t with fresh := false } := by
  unfold State.matchPhase
  rw [hf]
  cases t.matches r <;> rfl

theorem State.matchPhase_not_fresh {s : State} {c : CraneId} {t : Task} {r : StatusRec} {x : Int}
    (hf : t.fresh = false) :
    s.matchPhase c t r x = if t.matches r = true then s.actOnPhase c t r x else s := by
  unfold State.matchPhase
  rw [hf]
  cases t.matches r <;> rfl

/-- The expected report of a task without a fresh mark is acted on. -/
theorem State.taskActs_expected {s : State} {c : CraneId} {t : Task} {r : StatusRec} {x : Int} {w : WeighResult}
    (h : s.inFlight? c = some t) (hh : t.hold = none) (hf : t.fresh = false) (hr : r.task = t.id)
    (hm : t.matches r = true) (hp : t.phase ≠ .weighing) : s.taskActs c r x w = s.actOnPhase c t r x := by
  rw [State.taskActs_phase h hh hp, State.matchPhase_not_fresh hf, if_pos hm, State.countMismatch_own hr]

theorem atTarget_iff {tolerance y : Nat} {corrected : Int} {target : Option (Int × Nat)} :
    atTarget tolerance corrected y target = true ↔ ∃ tx ty, target = some (tx, ty) ∧
      (corrected - tx).natAbs ≤ tolerance ∧ ((y : Int) - (ty : Int)).natAbs ≤ tolerance := by
  unfold atTarget
  cases target with
  | none => simp
  | some e =>
    obtain ⟨tx, ty⟩ := e
    simp

/-! ## Plans -/

/-- The coils that stand at the cradles of a list, each at its current weight. -/
theorem Smu.filterMap_standing {u : Smu} {h : PlanHead} {l : List (Nat × Nat)} {coils : List (Int × Nat)}
    (hl : List.Forall₂ (fun (e : Nat × Nat) (x : Int × Nat) => ∃ r, u.coil? e.1 = some r ∧ 1 ≤ e.2 ∧
      h.cradles[e.2 - 1]? = some x.2 ∧ x.1 = r.measured.getD (r.declared : Int)) l coils) :
    (l.filterMap fun e => u.standing h e.1 e.2) = coils := by
  induction hl with
  | nil => rfl
  | @cons e x l coils hex _ ih =>
    obtain ⟨r, hr, hn, hx, hw⟩ := hex
    have hpos : h.position? e.2 = some x.2 := by rw [PlanHead.position?, if_neg (by omega), hx]
    have hstand : u.standing h e.1 e.2 = some x := by
      simp only [Smu.standing, hr, hpos]
      exact congrArg some (Prod.ext hw.symm rfl)
    simp only [List.filterMap_cons, hstand, ih]

theorem Smu.predict_of_standing {u : Smu} {p : Plan} {coil k : Nat} {coils : List (Int × Nat)}
    (h : List.Forall₂ (fun (e : Nat × Nat) (x : Int × Nat) => ∃ r, u.coil? e.1 = some r ∧ 1 ≤ e.2 ∧
      p.head.cradles[e.2 - 1]? = some x.2 ∧ x.1 = r.measured.getD (r.declared : Int))
      (((p.entries.takeWhile fun e => e.cradle != k).map fun e => (e.coil, e.cradle)) ++ [(coil, k)]) coils) :
    u.predict p coil k = p.head.within coils :=
  congrArg p.head.within (Smu.filterMap_standing h)

theorem Smu.finalCheck_of_standing {u : Smu} {p : Plan} {coil k : Nat} {coils : List (Int × Nat)}
    (h : List.Forall₂ (fun (e : Nat × Nat) (x : Int × Nat) => ∃ r, u.coil? e.1 = some r ∧ 1 ≤ e.2 ∧
      p.head.cradles[e.2 - 1]? = some x.2 ∧ x.1 = r.measured.getD (r.declared : Int))
      (((p.entries.filter fun e => e.status == .placed).map fun e => (e.coil, e.cradle)) ++ [(coil, k)]) coils) :
    u.finalCheck p coil k = p.head.within coils := by
  rw [← Smu.filterMap_standing h, List.filterMap_append, List.filterMap_map, Smu.finalCheck, Smu.placed]
  refine congrArg p.head.within (congrArg (_ ++ ·) ?_)
  cases hs : u.standing p.head coil k <;> simp [hs]

section Answer

variable {s : State} {t : Task}

theorem State.placeAnswer_of_own_source (h : t.dest = .place t.source) : s.placeAnswer t = .pass := by
  rw [State.placeAnswer, if_pos h]

theorem State.placeAnswer_of_slot {i : Nat} (h : t.dest = .place (.slot i)) : s.placeAnswer t = .pass := by
  unfold State.placeAnswer
  rw [h]
  split <;> rfl

/-- The two steps of R160 at a cradle of a LOAD plan. -/
theorem State.placeAnswer_of_load {b : BayId} {k : Nat} {p : Plan} (hs : t.dest ≠ .place t.source)
    (hd : t.dest = .place (.cradle b k)) (hp : s.plan? b = some p) (hk : p.head.kind = .load) :
    s.placeAnswer t = if p.orderReached k = false then .planOrder
      else if s.smu.finalCheck p t.coil k = true then .pass else .axleLimit := by
  unfold State.placeAnswer
  rw [if_neg hs, hd]
  simp only [hp, hk, ne_eq, not_true_eq_false, if_false, Bool.not_eq_true']

theorem Plan.orderReached_iff {p : Plan} {k : Nat} : p.orderReached k = true ↔
    ∀ e ∈ p.entries.takeWhile (fun e => e.cradle != k), e.status = .placed := by
  simp [Plan.orderReached, Plan.ahead]

theorem State.predicts_of_load {b : BayId} {k : Nat} {p : Plan} (hs : t.dest ≠ .place t.source)
    (hd : t.dest = .place (.cradle b k)) (hp : s.plan? b = some p) (hk : p.head.kind = .load) :
    s.predicts t = s.smu.predict p t.coil k := by
  unfold State.predicts
  rw [if_neg hs, hd]
  simp only [hp, hk, if_true]

/-- A destination that is no cradle of a LOAD plan passes (R159). -/
theorem State.predicts_of_no_load (h : ∀ b k p, t.dest = .place (.cradle b k) → s.plan? b = some p →
    p.head.kind ≠ .load) : s.predicts t = true := by
  unfold State.predicts
  split
  · rfl
  · split
    · next b k hd =>
      split
      · next p hp => exact if_neg (h b k p hd hp)
      · rfl
    · rfl
    · rfl

end Answer

/-! ## Lifts and releases of a coil -/

section Movement

variable (u : Smu)

theorem Smu.slot?_setState (i j : Nat) (v : SlotState) :
    (u.setState i v).slot? j = (u.slot? j).map fun t => if j = i then { t with state := v } else t := by
  unfold Smu.setState Smu.slot?
  rw [Table.find_modify]
  by_cases h : j = i <;> simp [h]

theorem Smu.slot?_release (i j : Nat) (v : Reservation) :
    (u.release i v).slot? j =
      (u.slot? j).map fun t => if j = i ∧ t.resv = v then { t with resv := .none } else t := by
  unfold Smu.release Smu.slot?
  rw [Table.find_modify]
  by_cases h : j = i <;> simp [h]

theorem Smu.slot?_releaseSource (id j : Nat) (p : Place) :
    (u.releaseSource id p).slot? j =
      (u.slot? j).map fun t => if p = .slot j ∧ t.resv = .source id then { t with resv := .none } else t := by
  cases p with
  | slot i =>
    simp only [Smu.releaseSource, Smu.slot?_release, Place.slot.injEq, eq_comm]
  | cradle b k => simp [Smu.releaseSource]

theorem Smu.slot?_releaseDest (id j : Nat) (d : Dest) :
    (u.releaseDest id d).slot? j = (u.slot? j).map fun t =>
      if d = .place (.slot j) ∧ t.resv = .dest id then { t with resv := .none } else t := by
  cases d with
  | auto => simp [Smu.releaseDest]
  | place p =>
    cases p with
    | slot i =>
      simp only [Smu.releaseDest, Smu.slot?_release, Dest.place.injEq, Place.slot.injEq, eq_comm]
    | cradle b k => simp [Smu.releaseDest]

theorem Smu.coil?_release (id : Nat) (t : Nat) (p : Place) (d : Dest) :
    ((u.releaseSource t p).releaseDest t d).coil? id = u.coil? id := by
  cases p <;> cases d with
  | auto => rfl
  | place q => cases q <;> rfl

theorem Smu.coil?_modCoil (id j : Nat) (f : Coil → Coil) :
    (u.modCoil id f).coil? j = if j = id then (u.coil? j).map f else u.coil? j :=
  Table.find_modify _ _ _ _

theorem Smu.coil?_lift (t : Task) (c : CraneId) (id : Nat) : (u.lift t c).coil? id =
    if id = t.coil then (u.coil? id).map fun k => { k with location := .hook c } else u.coil? id := by
  rw [← Smu.coil?_modCoil]
  unfold Smu.lift
  cases t.source <;> rfl

theorem Smu.slot?_lift (t : Task) (c : CraneId) (i : Nat) : (u.lift t c).slot? i =
    (u.slot? i).map fun v => if t.source = .slot i then { v with state := .free } else v := by
  unfold Smu.lift
  cases t.source with
  | slot j =>
    dsimp only
    rw [Smu.slot?_setState]
    simp only [Place.slot.injEq, eq_comm]
    rfl
  | cradle b k => simp [Smu.modCoil, Smu.slot?]

/-- A coil put down: its location, and its task field (R31). -/
def Coil.putAt (k : Coil) : Dest → Coil
  | .place (.slot i) => { k with location := .slot i, task := none }
  | .place (.cradle b n) => { k with location := .cradle b n, task := none }
  | .auto => { k with task := none }

theorem Smu.coil?_putDown (t : Task) (id : Nat) : (u.putDown t).coil? id =
    if id = t.coil then (u.coil? id).map fun k => k.putAt t.dest else u.coil? id := by
  rw [← Smu.coil?_modCoil, Smu.putDown, Smu.coil?_release]
  cases t.dest with
  | auto => rfl
  | place p => cases p <;> rfl

/-- The slot map with a coil put down, the reservations still granted (R31). -/
def Smu.laid (u : Smu) (t : Task) : Smu :=
  match t.dest with
  | .place (.slot i) =>
    (u.modCoil t.coil fun k => { k with location := .slot i, task := none }).setState i (.occupied t.coil)
  | .place (.cradle b n) => u.modCoil t.coil fun k => { k with location := .cradle b n, task := none }
  | .auto => u.modCoil t.coil fun k => { k with task := none }

theorem Smu.putDown_eq (t : Task) :
    u.putDown t = ((u.laid t).releaseSource t.id t.source).releaseDest t.id t.dest := rfl

theorem Smu.slot?_laid (t : Task) (i : Nat) : (u.laid t).slot? i = (u.slot? i).map fun v =>
    { v with state := if t.dest = .place (.slot i) then .occupied t.coil else v.state } := by
  unfold Smu.laid
  cases t.dest with
  | auto => simp [Smu.modCoil, Smu.slot?]
  | place p =>
    cases p with
    | slot j =>
      dsimp only
      rw [Smu.slot?_setState]
      refine congrArg (fun f => (u.slot? i).map f) (funext fun v => ?_)
      by_cases hij : i = j
      · simp [hij]
      · simp [hij, Ne.symm hij]
    | cradle b n => simp [Smu.modCoil, Smu.slot?]

theorem Smu.slot?_putDown (t : Task) (i : Nat) : (u.putDown t).slot? i = (u.slot? i).map fun v =>
    { v with
      state := if t.dest = .place (.slot i) then .occupied t.coil else v.state
      resv := if t.source = .slot i ∧ v.resv = .source t.id ∨ t.dest = .place (.slot i) ∧ v.resv = .dest t.id
        then .none else v.resv } := by
  rw [Smu.putDown_eq, Smu.slot?_releaseDest, Smu.slot?_releaseSource, Smu.slot?_laid, Option.map_map,
    Option.map_map]
  refine congrArg (fun f => (u.slot? i).map f) (funext fun v => ?_)
  by_cases hsrc : t.source = .slot i ∧ v.resv = .source t.id
  · simp [hsrc]
  · by_cases hdst : t.dest = .place (.slot i) ∧ v.resv = .dest t.id
    · simp [hdst]
    · simp [hsrc, hdst]

end Movement

end Sys2Proof.Machine
end

section
/-! SUPPORT. What follows an answer of the bay control unit, and the parts of the weighing exit. -/

namespace Sys2Proof.Machine

/-- What a task at its destination does on an answer of the bay control unit (R68). -/
def State.afterAnswer (s : State) (c : CraneId) (t : Task) : PlaceAnswer → State
  | .pass => s.advance c (t.working .placing false none)
  | .planOrder => s.holdTask c t .planOrder .carrying none
  | .axleLimit => s.holdTask c t .axleLimit .carrying none

theorem State.arrivedPlace_eq {s : State} {c : CraneId} {t : Task} {r : StatusRec} {x : Int} {p : Place}
    (hd : t.dest = .place p) : s.arrivedPlace c t r x =
      if atTarget s.lsu.settings.posTolerance x r.y (s.target? p) = true then
        s.afterAnswer c t (s.placeAnswer t)
      else s.holdTask c t .positionMismatch .carrying none := by
  unfold State.arrivedPlace
  rw [hd]
  dsimp only
  cases atTarget s.lsu.settings.posTolerance x r.y (s.target? p) with
  | true => cases s.placeAnswer t <;> rfl
  | false => rfl

/-- A task held with PLAN_ORDER stays where the order is still not reached (R69). -/
theorem State.recheckOrder_eq {s : State} {c : CraneId} {t : Task} :
    s.recheckOrder c t = if s.placeAnswer t = .planOrder then s else s.afterAnswer c t (s.placeAnswer t) := by
  unfold State.recheckOrder
  cases s.placeAnswer t <;> rfl

theorem State.judgeWeight_unstable {s : State} {c : CraneId} {t : Task} {w : WeighResult}
    (h : w.stable = false) : s.judgeWeight c t w = s := by
  unfold State.judgeWeight
  rw [h]

/-- A stable weight is verified against the declared one (R66, R117). -/
theorem State.judgeWeight_stable {s : State} {c : CraneId} {t : Task} {w : WeighResult} {kg : Int} {k : Coil}
    (h : w.stable = true) (hkg : w.recorded = some kg) (hk : s.coil? t.coil = some k) :
    s.judgeWeight c t w =
      if (kg - (k.declared : Int)).natAbs ≤ max (k.declared * s.lsu.settings.weightTolerance / 1000) 100 then
        s.weighExit c t (some kg)
      else s.holdTask c t .weightMismatch .weighing (some kg) := by
  simp only [State.judgeWeight, h, hkg, hk, verifies, decide_eq_true_eq]

/-! ## The weighing exit -/

section Exit

variable {s : State} {c : CraneId} {t : Task}

theorem State.exitSelect_of_none (hd : t.dest = .auto) (h : s.selectFor c t.coil = none) :
    s.exitSelect c t = s.holdTask c t .noSlot .weighing none := by
  simp only [State.exitSelect, hd, h]

theorem State.exitSelect_of_some {i : Nat} {cost : CostTerms} (hd : t.dest = .auto)
    (h : s.selectFor c t.coil = some (i, cost)) : s.exitSelect c t = s.grantChoice c t i := by
  simp only [State.exitSelect, hd, h]

theorem State.exitSelect_of_place (hd : t.dest ≠ .auto) : s.exitSelect c t = s.exitPredict c t := by
  unfold State.exitSelect
  split
  · rfl
  · next h => exact absurd h hd

theorem State.exitPredict_of_pass (h : s.predicts t = true) : s.exitPredict c t = s.exitCarry c t := if_pos h

theorem State.exitPredict_of_fail (h : s.predicts t = false) :
    s.exitPredict c t = s.holdTask c t .axleLimit .weighing none := if_neg (by simp [h])

theorem State.selectFor_eq {coil : Nat} {k : Coil} {p : ParamSet} {l : CraneLink} {x : Int}
    (hk : s.coil? coil = some k) (hp : s.lsu.active.get c = some p) (hl : s.links.get c = some l)
    (hx : l.seenPos = some x) :
    s.selectFor c coil = s.smu.select s.lsu.settings.tier2Penalty p.runway x k.desc := by
  have hpos : s.position? c = some x := by rw [State.position?, hl]; exact hx
  have hrun : s.craneRunway c = some p.runway := by rw [State.craneRunway, hp]; rfl
  simp only [State.selectFor, hrun, hpos, hk]

theorem State.settleDeadline?_iff {d : Nat} :
    s.settleDeadline? c = some (t, d) ↔ s.inFlight? c = some t ∧ t.deadline = some d := by
  unfold State.settleDeadline?
  cases s.inFlight? c with
  | none => simp
  | some u =>
    simp only [Option.map_eq_some_iff, Prod.mk.injEq, Option.some.injEq]
    constructor
    · rintro ⟨d', hd, rfl, rfl⟩
      exact ⟨rfl, hd⟩
    · rintro ⟨rfl, hd⟩
      exact ⟨d, hd, rfl, rfl⟩

end Exit

end Sys2Proof.Machine
end

section
/-! SUPPORT. The statements about the orders, the dispatch and the work of a task, settled. -/

namespace Sys2Proof

open Machine

/-- Settles O28: the order by the task's state, and its target. -/
theorem ordersFollowTheTask : Obligations.OrdersFollowTheTask := by
  refine fun s c => ⟨fun hn hh => ?_, fun hn hh => ?_, fun t ht => ?task, fun t => State.inFlight?_iff,
    fun i v hv => ?_, fun b n g y p x hg hy hp hn hx => State.target?_cradle hg hy hp hn hx⟩
  · simp [State.orderOf, hn, hh]
  · simp [State.orderOf, hn, Option.isSome_iff_ne_none.2 hh]
  case task =>
    rw [State.orderOf_of_inFlight ht]
    refine ⟨rfl, fun hor => ?held, fun hh hold => ⟨fun hp => ?_, fun hp => ?_, fun hp => ?_⟩, fun hp => ?source,
      fun hp => ?dest⟩
    case held =>
      have hheld : ((s.tcu.halts.get c).isSome || t.held) = true := by
        rw [Bool.or_eq_true]
        exact hor.imp Option.isSome_iff_ne_none.2 fun hne => by rw [Task.held]; exact Option.isSome_iff_ne_none.2 hne
      simp only [hheld, if_true]
    all_goals simp only [State.orderTarget, Task.onHook, Task.held]
    case source => rcases hp with hp | hp <;> simp only [hp] <;> rfl
    case dest =>
      refine ⟨fun hd => ?_, fun p hd => ?_⟩ <;> rcases hp with hp | hp | hp <;> simp only [hp, hd] <;> rfl
    · rcases hp with hp | hp <;> simp [hh, hold, hp, phaseOrder]
    · simp [hh, hold, hp, phaseOrder]
    · rcases hp with hp | hp <;> simp [hh, hold, hp, phaseOrder]
  · simp [State.target?, hv]

/-- Settles O29: the conditions one by one, and what a dispatch writes. -/
theorem dispatchConditions : Obligations.DispatchConditions := by
  intro s c t rest hq
  have hno : s.mayDispatch c t = false → s.dispatch c = s := fun h => by
    simp only [State.dispatch, hq, h, Bool.false_eq_true, if_false]
  have hyes : s.mayDispatch c t = true → s.dispatch c =
      ((s.putTask c (t.working .dispatched false none)).workStartAll (t.working .dispatched false none)).notify
        ((t.working .dispatched false none).notice c .dispatched) := fun h => by
    simp only [State.dispatch, hq, h, if_true]
  refine ⟨State.mayDispatch_iff, hno, fun h => ⟨?_, fun huniq => ?_, ?_, ?_, ?_⟩⟩
  · rw [hyes h, State.putTask, State.modTask, hq]
    rfl
  · have hids := huniq.queue c
    rw [hq] at hids
    rw [hyes h]
    simp only [State.notify_keeps, State.workStartAll_keeps, State.putTask, State.modTask, State.setQueue,
      State.tcu_setTcu, Quad.get_set_same, hq]
    exact map_head_of_nodup hids
  · simp only [State.dispatch_keeps]
  · simp only [State.dispatch_keeps]
  · simp only [State.dispatch_keeps]

/-- Settles O30: neither the report nor the fresh mark holds, so the task stays. -/
theorem unexpectedReportIsIgnored : Obligations.UnexpectedReportIsIgnored := by
  intro s c t r x result h hh hp hf hne
  have hm : ¬ t.matches r = true := fun hm => hne (by
    rcases (Task.matches_iff hh).1 hm with ⟨hp, hr, hph⟩ | ⟨hp, hr, hph⟩ | ⟨hp, hr, hph⟩ | ⟨hp, hr, hph⟩
    · exact ⟨hr, .inl ⟨hp, hph⟩⟩
    · exact ⟨hr, .inr (.inl ⟨hp, hph⟩)⟩
    · exact ⟨hr, .inr (.inr (.inl ⟨hp, hph⟩))⟩
    · exact ⟨hr, .inr (.inr (.inr ⟨hp, hph⟩))⟩)
  rw [State.taskActs_phase h hh hp, State.matchPhase_not_fresh hf, if_neg hm, State.countMismatch_eq]

/-- Settles O31: the record by the task's state, the answer at a LOAD cradle, and the coil moved. -/
theorem phaseReportsAreActedOn : Obligations.PhaseReportsAreActedOn := by
  refine ⟨fun s c t r x w h => ⟨fun hh hp hf => ?fresh, fun hh hf => ?expected, fun hh hp => ?weighing,
      fun hh => ?ordered, fun hh hne => ?held⟩,
    fun s t => ⟨State.placeAnswer_of_own_source, fun i => State.placeAnswer_of_slot,
      fun b k p hs hd hp hk => ?answer⟩, fun u t c k hk => ?moved⟩
  case fresh =>
    rw [State.taskActs_phase h hh hp, State.matchPhase_fresh hf]
    refine ⟨fun hexp => ?_, fun hexp => ?_⟩
    · rw [if_pos ((Task.matches_iff hh).2 hexp)]
      rcases hexp with ⟨-, hr, -⟩ | ⟨-, hr, -⟩ | ⟨-, hr, -⟩ | ⟨-, hr, -⟩ <;> exact State.countMismatch_own hr
    · rw [if_neg fun hm => hexp ((Task.matches_iff hh).1 hm), State.countMismatch_eq]
      rfl
  case expected =>
    refine ⟨fun hp hr => ?pick, fun hp hr => ?lifted, fun hp hr p hd => ?place, fun hp hr => ?released⟩
    case pick =>
      rw [State.taskActs_expected h hh hf hr.1 ((Task.matches_iff hh).2 (.inl ⟨hp, hr⟩)) (by simp [hp])]
      simp only [State.actOnPhase, hp, State.arrivedPick]
      exact ⟨fun hs => if_pos (atTarget_iff.2 hs), fun hs => if_neg fun hat => hs (atTarget_iff.1 hat)⟩
    case lifted =>
      rw [State.taskActs_expected h hh hf hr.1 ((Task.matches_iff hh).2 (.inr (.inl ⟨hp, hr⟩))) (by simp [hp])]
      simp only [State.actOnPhase, hp]
      have hzero : (((s.setSmu (s.smu.lift t c)).entryAt t.source t.coil .onTruck .removed).zeroInDate c) =
          s.zeroInDate c := by
        simp only [State.zeroInDate, State.entryAt_keeps, State.hoists_setSmu]
      unfold State.lifted
      dsimp only
      rw [hzero]
      refine ⟨fun hv hz => if_pos ?_, fun hor => (if_neg ?_).trans ?_⟩
      · rw [hv, Bool.true_and, Bool.not_eq_true', ← Bool.not_eq_true]
        exact fun hd => hz (State.zeroInDate_iff.1 hd)
      · rcases hor with hv | hz
        · simp [hv]
        · simp [State.zeroInDate_iff.2 hz]
      · simp only [State.entryAt_keeps, State.now_setSmu, State.lsu_setSmu]
        rfl
    case place =>
      rw [State.taskActs_expected h hh hf hr.1 ((Task.matches_iff hh).2 (.inr (.inr (.inl ⟨hp, hr⟩)))) (by simp [hp])]
      simp only [State.actOnPhase, hp]
      rw [State.arrivedPlace_eq hd]
      refine ⟨fun hs => if_neg fun hat => hs (atTarget_iff.1 hat), fun hs => ?_⟩
      rw [if_pos (atTarget_iff.2 hs)]
      exact ⟨fun ha => by rw [ha]; rfl, fun ha => by rw [ha]; rfl, fun ha => by rw [ha]; rfl⟩
    case released =>
      rw [State.taskActs_expected h hh hf hr.1 ((Task.matches_iff hh).2 (.inr (.inr (.inr ⟨hp, hr⟩)))) (by simp [hp])]
      have hact : s.actOnPhase c t r x = s.released c t := by simp only [State.actOnPhase, hp]
      rw [hact, State.released]
      refine congrArg (State.workStopAll · t) ?_
      simp only [State.removeTask, State.setQueue, State.modHoist, State.notify, State.setHoists, State.setTcu,
        State.setFnu, State.setSmu, State.entryTo_keeps]
      rfl
  case weighing =>
    rw [State.taskActs_weighing h hh hp, State.countMismatch_eq]
    refine ⟨fun hst => State.judgeWeight_unstable hst, fun kg k hst hrec hk => ?_⟩
    have hjudge := State.judgeWeight_stable (s := s.countMismatch t r) (c := c) hst hrec hk
    rw [State.countMismatch_eq] at hjudge
    rw [hjudge]
    exact ⟨fun hclose => if_pos hclose, fun hfar => if_neg hfar⟩
  case ordered =>
    rw [State.taskActs_held h hh, if_pos rfl, State.countMismatch_eq, State.recheckOrder_eq]
    refine ⟨fun ha => ?_, fun ha => if_pos ha, fun ha => ?_⟩
    · have hanswer : ({ s with tcu := { s.tcu with
          mismatches := if r.task ≠ 0 ∧ r.task ≠ t.id then min (s.tcu.mismatches + 1) 65535
            else s.tcu.mismatches } } : State).placeAnswer t = .pass := ha
      rw [hanswer, if_neg nofun]
      rfl
    · have hanswer : ({ s with tcu := { s.tcu with
          mismatches := if r.task ≠ 0 ∧ r.task ≠ t.id then min (s.tcu.mismatches + 1) 65535
            else s.tcu.mismatches } } : State).placeAnswer t = .axleLimit := ha
      rw [hanswer, if_neg nofun]
      rfl
  case held =>
    obtain ⟨why, hwhy⟩ := Option.ne_none_iff_exists'.1 hh
    rw [State.taskActs_held h hwhy, if_neg fun heq => hne (by rw [hwhy, heq]), State.countMismatch_eq]
  case answer =>
    dsimp only
    rw [State.placeAnswer_of_load hs hd hp hk]
    refine ⟨fun ⟨e, he, hne⟩ => if_pos ?_, fun hall coils hcoils => ?_⟩
    · rw [← Bool.not_eq_true, Plan.orderReached_iff]
      exact fun hall => hne (hall e he)
    · rw [if_neg (by simp [Plan.orderReached_iff.2 hall]), Smu.finalCheck_of_standing hcoils]
  case moved =>
    refine ⟨?_, fun id hid => ⟨?_, ?_⟩, fun i v hv => ?_, fun i hd => ?_, fun b n hd => ?_,
      fun i v hv => ⟨_, (u.slot?_putDown t i).trans (congrArg (Option.map _) hv), rfl, rfl, rfl⟩⟩
    · rw [Smu.coil?_lift, if_pos rfl, hk]
      rfl
    · rw [Smu.coil?_lift, if_neg hid]
    · rw [Smu.coil?_putDown, if_neg hid]
    · rw [Smu.slot?_lift, hv]
      rfl
    · rw [Smu.coil?_putDown, if_pos rfl, hk, hd]
      rfl
    · rw [Smu.coil?_putDown, if_pos rfl, hk, hd]
      rfl

/-- Settles O32: the three steps of the exit, its parts, and the expiry of the settle deadline. -/
theorem weighingExit : Obligations.WeighingExit := by
  refine ⟨fun s c t w => ⟨fun hd hsel => ?noSlot, fun i cost hd hsel => ?chosen, fun hd hpred => ?axle,
      fun hd hpred => ?carried⟩, fun s c t => rfl, fun s c coil k p l x hk hp hl hx => ?selection,
    fun s t => ⟨fun hor => ?passes, fun b k hd hno => ?noLoad, fun b k p coils hs hd hp hk hcoils => ?predicted⟩,
    fun s c => ⟨fun hn => ?noDeadline, fun t d => ?deadline⟩, fun s c t d hd => ?expired⟩
  case noSlot => exact State.exitSelect_of_none (s := s.setSmu _) hd hsel
  case chosen =>
    refine (State.exitSelect_of_some (s := s.setSmu _) hd hsel).trans (State.exitPredict_of_pass ?_)
    exact State.predicts_of_no_load fun b k p hcradle => nomatch hcradle
  case axle =>
    exact (State.exitSelect_of_place hd).trans (State.exitPredict_of_fail (s := s.setSmu _) hpred)
  case carried =>
    exact (State.exitSelect_of_place hd).trans (State.exitPredict_of_pass (s := s.setSmu _) hpred)
  case selection => exact State.selectFor_eq hk hp hl hx
  case passes =>
    rcases hor with hd | hd | ⟨i, hd⟩
    · exact if_pos hd
    · exact State.predicts_of_no_load fun b k p hcradle => by rw [hd] at hcradle; exact nomatch hcradle
    · exact State.predicts_of_no_load fun b k p hcradle => by rw [hd] at hcradle; exact nomatch hcradle
  case noLoad =>
    refine State.predicts_of_no_load fun b' k' p hcradle hp => ?_
    rw [hd] at hcradle
    cases hcradle
    exact hno p hp
  case predicted => exact (State.predicts_of_load hs hd hp hk).trans (Smu.predict_of_standing hcoils)
  case noDeadline =>
    have hrun : exec (.settleDeadlineExpiry c) s = execSettleDeadlineExpiry c s := rfl
    rw [hrun, execSettleDeadlineExpiry, hn]
  case deadline => exact State.settleDeadline?_iff
  case expired =>
    have hrun : exec (.settleDeadlineExpiry c) s = execSettleDeadlineExpiry c s := rfl
    rw [hrun, execSettleDeadlineExpiry, hd]
    rfl

end Sys2Proof
end

section
/-! SUPPORT. The resolutions: the task that a request names, cancelled, redirected, returned, or worked on again. -/

namespace Sys2Proof.Machine

section Resolution

variable {s : State} {id : Nat} {c : CraneId} {t : Task}

theorem State.resolutionAck_of_task {gone : Task} (h : s.task? id = some (c, t)) :
    s.resolutionAck id gone = .resolution ⟨id, t.state, t.dest, t.hold⟩ := by
  simp only [State.resolutionAck, h]

theorem State.resolutionAck_of_none (h : s.task? id = none) :
    s.resolutionAck id t = .resolution ⟨id, .cancelled, t.dest, none⟩ := by
  simp only [State.resolutionAck, h]

theorem State.liveTask_of (h : s.task? id = some (c, t)) : s.liveTask id = .ok (c, t) := by
  rw [State.liveTask, h]
  rfl

/-- The live task looks up nothing but the queues. -/
theorem State.task?_congr {u : State} (h : u.tcu.queues = s.tcu.queues) (id : Nat) : u.task? id = s.task? id := by
  unfold State.task?
  rw [h]

/-- The queues of a crane, one changed. -/
def State.withQueue (s : State) (c : CraneId) (q : List Task) : State :=
  { s with tcu := { s.tcu with queues := s.tcu.queues.set c q } }

/-- A task that leaves its queue is not live any more (R55). -/
theorem State.task?_removed (huniq : s.TasksUnique) (h : s.task? id = some (c, t)) :
    (s.withQueue c ((s.tcu.queues.get c).filter fun x => x.id != t.id)).task? id = none := by
  obtain ⟨hmem, rfl⟩ := State.task?_some h
  rw [State.task?_none_iff]
  intro d x hx
  by_cases hd : d = c
  · subst hd
    simp only [State.withQueue, Quad.get_set_same, List.mem_filter, bne_iff_ne] at hx
    exact hx.2
  · simp only [State.withQueue, Quad.get_set_ne _ _ hd] at hx
    intro hid
    unfold State.TasksUnique at huniq
    rw [List.map_flatMap, List.nodup_flatMap] at huniq
    have hne : ∀ {a b : CraneId} {x y : Task}, numVal a < numVal b → x ∈ s.tcu.queues.get a →
        y ∈ s.tcu.queues.get b → x.id ≠ y.id := by
      intro a b x y hab hxa hyb heq
      have hdisj : List.Pairwise (fun a b => List.Disjoint ((s.tcu.queues.get a).map (·.id))
          ((s.tcu.queues.get b).map (·.id))) allNum4 := huniq.2
      have hpair : List.Disjoint ((s.tcu.queues.get a).map (·.id)) ((s.tcu.queues.get b).map (·.id)) := by
        simp only [allNum4, List.pairwise_cons, List.mem_cons, List.not_mem_nil, or_false, forall_eq_or_imp,
          forall_eq] at hdisj
        revert hab
        cases a <;> cases b <;> simp_all [numVal]
      exact hpair (List.mem_map_of_mem hxa) (heq ▸ List.mem_map_of_mem hyb)
    rcases Nat.lt_trichotomy (numVal d) (numVal c) with hlt | heq | hgt
    · exact hne hlt hx hmem hid
    · exact hd (by revert heq; cases d <;> cases c <;> simp [numVal])
    · exact hne hgt hmem hx hid.symm

/-- A live task that is written over is found as it was written. -/
theorem State.task?_written {u : Task} (h : s.task? id = some (c, t)) (hu : u.id = t.id) :
    (s.withQueue c ((s.tcu.queues.get c).map fun x => if x.id = t.id then u else x)).task? id = some (c, u) := by
  obtain ⟨-, hid⟩ := State.task?_some h
  have hfind : ∀ (l : List Task) (v : Task), (l.find? fun x => x.id == id) = some v →
      ((l.map fun x => if x.id = t.id then u else x).find? fun x => x.id == id) = some u := by
    intro l v hv
    induction l with
    | nil => exact nomatch hv
    | cons x l ih =>
      by_cases hx : x.id = t.id
      · simp [hx, hu, hid]
      · have hne : (x.id == id) = false := by rw [beq_eq_false_iff_ne, ← hid]; exact hx
        simp only [List.map_cons, if_neg hx, List.find?_cons, hne] at hv ⊢
        exact ih hv
  have hother : ∀ d, d ≠ c → (s.withQueue c ((s.tcu.queues.get c).map fun x =>
      if x.id = t.id then u else x)).tcu.queues.get d = s.tcu.queues.get d := fun d hd => Quad.get_set_ne _ _ hd
  have hself : (s.withQueue c ((s.tcu.queues.get c).map fun x =>
      if x.id = t.id then u else x)).tcu.queues.get c =
      (s.tcu.queues.get c).map fun x => if x.id = t.id then u else x := Quad.get_set_same _ _ _
  unfold State.task? at h ⊢
  obtain ⟨before, d, after, hsplit, hd, hbefore⟩ := List.findSome?_eq_some_iff.1 h
  obtain ⟨v, hv, heq⟩ := Option.map_eq_some_iff.1 hd
  cases heq
  refine List.findSome?_eq_some_iff.2 ⟨before, c, after, hsplit, ?_, fun d hdmem => ?_⟩
  · rw [hself, hfind _ _ hv]
    rfl
  · by_cases hdc : d = c
    · subst hdc
      have hnone := hbefore d hdmem
      rw [hv] at hnone
      exact nomatch hnone
    · rw [hother d hdc]
      exact hbefore d hdmem

end Resolution

/-! ## Evaluation of one crane -/

@[simp] theorem State.evaluate_cranes (s : State) (c d : CraneId) : (s.evaluate c).rcu.cranes.get d =
    if d = c then (s.rcu.cranes.get c).map (s.evaluated c) else s.rcu.cranes.get d := by
  have hsend : (s.evaluate c).rcu = (s.evalCrane c).rcu := by
    unfold State.evaluate
    simp only [State.sendDowngrade_keeps]
  rw [hsend]
  by_cases hd : d = c
  · rw [if_pos hd, hd]
    exact Quad.get_modify_same _ _ _
  · rw [if_neg hd]
    exact Quad.get_modify_ne _ _ hd

theorem State.lowerAllowed_of_not_wanted {s : State} {c : CraneId} {r : RcuCrane} (h : s.wantsLower c = false) :
    s.lowerAllowed c r = false := by
  simp [State.lowerAllowed, h]

theorem State.wantsLower_of_idle {s : State} {c : CraneId} (h : ∀ x ∈ s.tcu.queues.get c, x.phase = .queued) :
    s.wantsLower c = false := by
  have hnone : s.inFlight? c = none := by
    by_contra hsome
    obtain ⟨t, ht⟩ := Option.ne_none_iff_exists'.1 hsome
    obtain ⟨hp, rest, hq⟩ := State.inFlight?_iff.1 ht
    exact hp (h t (by rw [hq]; exact List.mem_cons_self))
  simp only [State.wantsLower, hnone]

/-! ## The places of a task that changes -/

theorem Task.onHook_iff {t : Task} :
    t.onHook = true ↔ t.phase = .weighing ∨ t.phase = .carrying ∨ t.phase = .placing := by
  unfold Task.onHook
  cases t.phase <;> simp

theorem Task.onHook_eq_false {t : Task} :
    t.onHook = false ↔ t.phase = .queued ∨ t.phase = .dispatched ∨ t.phase = .picking := by
  unfold Task.onHook
  cases t.phase <;> simp

theorem Task.held_iff {t : Task} : t.held = true ↔ t.hold ≠ none := by
  rw [Task.held, Option.isSome_iff_ne_none]

theorem Task.inFlight_iff {t : Task} : t.inFlight = true ↔ t.phase ≠ .queued := by
  simp [Task.inFlight]

theorem Task.holdDetail_none {t : Task} (h : t.hold = none) : t.holdDetail = 0 := by
  simp only [Task.holdDetail, h]

theorem Task.holdDetail_some {t : Task} {why : HoldReason} (h : t.hold = some why) :
    t.holdDetail = holdCode why := by
  simp only [Task.holdDetail, h]

/-- A task cancelled, before its work at bays ends and its crane is evaluated (R79). -/
def State.gone (s : State) (c : CraneId) (t : Task) : State :=
  { s with
    smu := ((s.smu.releaseSource t.id t.source).releaseDest t.id t.dest).modCoil t.coil
      (fun k => { k with task := none })
    bcu := (s.entryTo t.dest t.coil .claimed .pending).bcu
    tcu := { s.tcu with queues := s.tcu.queues.set c ((s.tcu.queues.get c).filter fun x => x.id != t.id) }
    fnu := s.fnu.offer (.taskState ⟨t.id, c, t.coil, t.kind, .cancelled, t.dest, none⟩) }

theorem State.cancelTask_eq (s : State) (c : CraneId) (t : Task) : s.cancelTask c t =
    let u := if t.inFlight then (s.gone c t).workStopAll t else s.gone c t
    if t.phase = .picking then u.evaluate c else u := by
  have hgone : (((s.setSmu (((s.smu.releaseSource t.id t.source).releaseDest t.id t.dest).modCoil t.coil fun k =>
      { k with task := none })).entryTo t.dest t.coil .claimed .pending).removeTask c t.id).notify
        ({ t with hold := none }.notice c .cancelled) = s.gone c t := by
    rw [State.entryTo_setSmu]
    unfold State.gone
    cases t.dest with
    | auto => rfl
    | place p => cases p <;> rfl
  unfold State.cancelTask
  dsimp only
  rw [hgone]

theorem ownTaskCancel_of {s : State} {id : Nat} {c : CraneId} {t : Task} (h : s.task? id = some (c, t))
    (hh : t.onHook = false) :
    ownTaskCancel s id = .ok (s.cancelTask c t, (s.cancelTask c t).resolutionAck id t) := by
  simp only [ownTaskCancel, State.liveTask_of h, except_ok_bind, hh, Bool.not_false, require_true]
  rfl

/-- The state of a redirected task, before its work at bays changes (R76, R77). -/
def State.moved (s : State) (c : CraneId) (t : Task) (d : Dest) : State :=
  { s with
    smu := (s.smu.releaseDest t.id t.dest).grantDest t.id d
    bcu := ((s.entryTo t.dest t.coil .claimed .pending).entryTo d t.coil .pending .claimed).bcu
    tcu := { s.tcu with
      queues := s.tcu.queues.set c
        ((s.tcu.queues.get c).map fun x => if x.id = t.id then t.redirected d else x) } }

theorem State.entryTo_eq (s : State) (d : Dest) (coil : Nat) (x y : EntryStatus) :
    s.entryTo d coil x y = { s with bcu := (s.entryTo d coil x y).bcu } := by
  cases d with
  | auto => rfl
  | place p => cases p <;> rfl

theorem State.redirect_eq (s : State) (c : CraneId) (t : Task) (d : Dest) : s.redirect c t d =
    if t.inFlight then (s.moved c t d).moveWork t (t.redirected d) else s.moved c t d := by
  have hmoved : (((s.setSmu ((s.smu.releaseDest t.id t.dest).grantDest t.id d)).entryTo t.dest t.coil .claimed
      .pending).entryTo d t.coil .pending .claimed).putTask c (t.redirected d) = s.moved c t d := by
    rw [State.entryTo_setSmu, State.entryTo_setSmu]
    have hentries := (State.entryTo_eq (s.entryTo t.dest t.coil .claimed .pending) d t.coil .pending .claimed).trans
      (congrArg (fun u : State => { u with
        bcu := ((s.entryTo t.dest t.coil .claimed .pending).entryTo d t.coil .pending .claimed).bcu })
        (State.entryTo_eq s t.dest t.coil .claimed .pending))
    exact congrArg (fun u : State => (u.setSmu ((s.smu.releaseDest t.id t.dest).grantDest t.id d)).putTask c
      (t.redirected d)) hentries
  unfold State.redirect
  dsimp only
  rw [hmoved]

/-- A destination that passes the checks of a REDIRECT (R76). -/
theorem State.redirectTest_pass {s : State} {c : CraneId} {t : Task} {d : Dest}
    (hplace : ∀ p, d = .place p → d ≠ t.dest ∧ s.placeDefined p = true ∧ s.placeRunway p = s.craneRunway c)
    (hslot : ∀ i, d = .place (.slot i) → ∃ k r, s.coil? t.coil = some k ∧ s.craneRunway c = some r ∧
      s.smu.testDest r i k.desc = none)
    (hcradle : ∀ b n, d = .place (.cradle b n) → s.entryIs b n t.coil .load .pending = true) :
    s.redirectTest c t d = .ok () := by
  cases d with
  | auto => rfl
  | place p =>
    obtain ⟨hne, hdef, hrun⟩ := hplace p rfl
    have hbne : (Dest.place p != t.dest) = true := bne_iff_ne.2 hne
    cases p with
    | slot i =>
      obtain ⟨k, r, hk, hr, htest⟩ := hslot i rfl
      have hsame : (s.placeRunway (.slot i) == some r) = true := beq_iff_eq.2 (hrun.trans hr)
      simp only [State.redirectTest, hdef, hsame, hbne, require_true, except_ok_bind, hk, requireSome_some, hr,
        htest, requireNone_none]
    | cradle b n =>
      have hsame : (s.placeRunway (.cradle b n) == s.craneRunway c) = true := beq_iff_eq.2 hrun
      have hdest : s.destOk t.coil (.place (.cradle b n)) = true := hcradle b n rfl
      simp only [State.redirectTest, hdef, hsame, hbne, require_true, except_ok_bind, hdest]

theorem ownRedirect_of {s : State} {id : Nat} {d : Dest} {c : CraneId} {t : Task}
    (h : s.task? id = some (c, t)) (hh : t.onHook = false ∨ t.hold ≠ none) (hfits : d.fits)
    (htest : s.redirectTest c t d = .ok ()) :
    let u := if t.onHook then (s.redirect c t d).exitSelect c (t.redirected d) else s.redirect c t d
    ownRedirect s (redirectOf id d) = .ok (u, u.resolutionAck id t) := by
  have hready : (!t.onHook || t.held) = true := by
    rw [Bool.or_eq_true, Bool.not_eq_true']
    exact hh.imp_right Task.held_iff.2
  simp only [ownRedirect, redirectOf, State.liveTask_of h, except_ok_bind, hready, require_true,
    checkFrom_all _ _ (destChecks_pass hfits), readDest_codes, requireSome_some, htest]
  rfl

theorem ownRedirect_of_hook {s : State} {id : Nat} {d : Dest} {c : CraneId} {t : Task}
    (h : s.task? id = some (c, t)) (hh : t.onHook = true) (hn : t.hold = none) :
    ownRedirect s (redirectOf id d) = .error ⟨.stateConflict, 0⟩ := by
  have hheld : t.held = false := by simp [Task.held, hn]
  simp only [ownRedirect, redirectOf, State.liveTask_of h, except_ok_bind, hh, hheld, Bool.not_true,
    Bool.or_self, require_false, except_error_bind, Task.holdDetail_none hn]

end Sys2Proof.Machine
end

section
/-! SUPPORT. The statement about cancelled, redirected and returned tasks, settled. -/

namespace Sys2Proof

open Machine

/-- Settles O33: each request by the phase and the hold of the task. -/
theorem tasksAreCancelledOrRedirected : Obligations.TasksAreCancelledOrRedirected := by
  refine ⟨fun tag id c t s s0 h ht => ?cancel, fun tag id d c t s s0 h ht hfits hplace hslot hcradle => ?redirect,
    fun tag id c t s s0 h ht => ?back⟩
  case cancel =>
    have hcancelled : ∀ u : State, t.onHook = false → s0.cancelTask c t = u →
        u.tcu.queues = (s0.gone c t).tcu.queues →
        exec (.taskCancel tag (.fields id)) s = .next (u.acked tag .taskCancel (u.resolutionAck id t)) ∧
          (s0.TasksUnique → u.resolutionAck id t = .resolution ⟨id, .cancelled, t.dest, none⟩) := by
      rintro u hh rfl hq
      refine ⟨congrArg Host.Outcome.next (State.serve_ack noSelector h (ownTaskCancel_of ht hh)), fun huniq => ?_⟩
      exact State.resolutionAck_of_none ((State.task?_congr hq id).trans (State.task?_removed huniq ht))
    refine ⟨fun hp => ?_, fun hp => ?_, fun hp => ⟨?_, fun hrest k hk => ?_⟩, fun hp => ?_⟩
    · exact hcancelled _ (Task.onHook_eq_false.2 (.inl hp))
        (by simp [State.cancelTask_eq, Task.inFlight, hp]; rfl) rfl
    · refine hcancelled _ (Task.onHook_eq_false.2 (.inr (.inl hp)))
        (by simp [State.cancelTask_eq, Task.inFlight, hp]; rfl) ?_
      exact congrArg Tcu.queues (State.workStopAll_keeps (s0.gone c t) t).2.2.2.1
    · refine hcancelled _ (Task.onHook_eq_false.2 (.inr (.inr hp)))
        (by simp [State.cancelTask_eq, Task.inFlight, hp]; rfl) ?_
      simp only [State.evaluate_keeps, State.workStopAll_keeps]
      rfl
    · rw [State.evaluate_cranes, if_pos rfl] at hk
      obtain ⟨r, -, rfl⟩ := Option.map_eq_some_iff.1 hk
      refine State.lowerAllowed_of_not_wanted (State.wantsLower_of_idle fun x hx => ?_)
      simp only [State.workStopAll_keeps, Quad.get_set_same, List.mem_filter, bne_iff_ne] at hx
      exact hrest x hx.1 hx.2
    · exact congrArg Host.Outcome.next (State.serve_nak noSelector h (by
        simp only [ownTaskCancel, State.liveTask_of ht, except_ok_bind, Task.onHook_iff.2 hp, Bool.not_true,
          require_false, except_error_bind]))
  case redirect =>
    have htest := State.redirectTest_pass hplace hslot hcradle
    have hredirected : ∀ u : State, (t.onHook = false ∨ t.hold ≠ none) →
        (if t.onHook then (s0.redirect c t d).exitSelect c (t.redirected d) else s0.redirect c t d) = u →
        exec (.redirect tag (.fields (redirectOf id d))) s =
          .next (u.acked tag .redirect (u.resolutionAck id t)) := by
      rintro u hh rfl
      exact congrArg Host.Outcome.next (State.serve_ack noSelector h (ownRedirect_of ht hh hfits htest))
    refine ⟨fun hp => ?_, fun hp => ?_, fun hp => ⟨fun hh => ?_, fun hn => ?_⟩⟩
    · have hh : t.onHook = false := Task.onHook_eq_false.2 (.inl hp)
      have hf : t.inFlight = false := by simp [Task.inFlight, hp]
      refine hredirected _ (.inl hh) ?_
      rw [hh, State.redirect_eq, hf]
      rfl
    · have hh : t.onHook = false := Task.onHook_eq_false.2 (.inr hp)
      have hf : t.inFlight = true := Task.inFlight_iff.2 fun hq => by rcases hp with hp | hp <;> simp [hq] at hp
      refine hredirected _ (.inl hh) ?_
      rw [hh, State.redirect_eq, hf]
      rfl
    · have hhook : t.onHook = true := Task.onHook_iff.2 hp
      have hf : t.inFlight = true := Task.inFlight_iff.2 fun hq => by rcases hp with hp | hp | hp <;> simp [hq] at hp
      refine hredirected _ (.inr hh) ?_
      rw [hhook, State.redirect_eq, hf]
      rfl
    · exact congrArg Host.Outcome.next (State.serve_nak noSelector h
        (ownRedirect_of_hook ht (Task.onHook_iff.2 hp) hn))
  case back =>
    refine ⟨fun hh hp => ?_, fun hn => ?_, fun why hwhy hp => ?_⟩
    · have hready : (t.held && t.onHook) = true := by
        rw [Task.held_iff.2 hh, Task.onHook_iff.2 hp]
        rfl
      have hreturn : s0.returnTask c t = _ := congrArg (fun u : State => (u.moveWork t
        { t with dest := .place t.source }).exitCarry c { t with dest := .place t.source })
        ((State.entryTo_setSmu s0 (s0.smu.releaseDest t.id t.dest) t.dest t.coil .claimed .pending).trans
          (congrArg (State.setSmu · (s0.smu.releaseDest t.id t.dest))
            (State.entryTo_eq s0 t.dest t.coil .claimed .pending)))
      have hown : ownReturn s0 id = .ok (s0.returnTask c t, (s0.returnTask c t).resolutionAck id t) := by
        simp only [ownReturn, State.liveTask_of ht, except_ok_bind, hready, require_true]
        rfl
      have hfound : (s0.returnTask c t).task? id = some (c, { t with
          dest := .place t.source, phase := .carrying, hold := none, fresh := false, deadline := none
          offered := none }) := by
        rw [hreturn]
        refine (State.task?_congr ?_ id).trans (State.task?_written ht rfl)
        simp only [State.exitCarry, State.advance, State.notify, State.putTask, State.modTask, State.setQueue,
          State.tcu_setFnu, State.tcu_setTcu, State.moveWork_keeps, State.tcu_setSmu]
        rfl
      rw [State.resolutionAck_of_task hfound, hreturn] at hown
      exact congrArg Host.Outcome.next (State.serve_ack noSelector h hown)
    · have hheld : t.held = false := by simp [Task.held, hn]
      exact congrArg Host.Outcome.next (State.serve_nak noSelector h (by
        simp only [ownReturn, State.liveTask_of ht, except_ok_bind, hheld, Bool.false_and, require_false,
          except_error_bind, Task.holdDetail_none hn]))
    · exact congrArg Host.Outcome.next (State.serve_nak noSelector h (by
        simp only [ownReturn, State.liveTask_of ht, except_ok_bind, Task.onHook_eq_false.2 hp, Bool.and_false,
          require_false, except_error_bind, Task.holdDetail_some hwhy]))

end Sys2Proof
end

section
/-! SUPPORT. RETRY by the hold reason, halts with their evaluations, and the lists of the queries. -/

namespace Sys2Proof.Machine

/-! ## RETRY and ACCEPT-WEIGHT -/

section Retry

variable {s : State} {id : Nat} {c : CraneId} {t : Task} {why : HoldReason}

theorem ownRetry_of (h : s.task? id = some (c, t)) (hw : t.hold = some why) (ha : retryAllowed why = true) :
    ownRetry s id = requireSome (s.retry c t why) .conditionActive 0 >>= fun u => .ok (u, u.resolutionAck id t) := by
  simp only [ownRetry, State.liveTask_of h, except_ok_bind, hw, requireSome_some, ha, require_true]
  rfl

theorem State.finalPasses_of_cradle {b : BayId} {k : Nat} {p : Plan} (hd : t.dest = .place (.cradle b k))
    (hp : s.plan? b = some p) : s.finalPasses t = s.smu.finalCheck p t.coil k := by
  simp only [State.finalPasses, hd, hp]

/-- A task whose choice is a slot passes the prediction and is CARRYING (R46, R67). -/
theorem State.grantChoice_eq (i : Nat) : s.grantChoice c t i =
    (s.setSmu (s.smu.reserve i (.dest t.id))).advance c
      ({ t with dest := .place (.slot i) }.working .carrying false none) :=
  State.exitPredict_of_pass (State.predicts_of_no_load fun _ _ _ hcradle => nomatch hcradle)

end Retry

/-! ## Halts -/

section Halts

variable {s : State} {c : CraneId} {m : HaltMode}

/-- What a halt leaves of a crane's record at its evaluation (R80, R136). -/
def RcuCrane.Halted (m : HaltMode) (k : RcuCrane) : Prop :=
  k.finalF = .stop ∧ k.finalR = .stop ∧ k.lower = false ∧ (m = .hard → k.runEnable = false)

theorem State.evaluated_halted (h : s.tcu.halts.get c = some m) (r : RcuCrane) : (s.evaluated c r).Halted m := by
  have hcap : Cap.halt ∈ s.capsOf c (s.withDistances c r) :=
    State.mem_capsOf.2 (by simp [State.capHolds, h])
  have hstop := fun k => capped_of_mem_stop (cap := .halt) rfl hcap k
  refine ⟨hstop _, hstop _, ?_, ?_⟩
  · simp [State.evaluated, State.lowerAllowed, h]
  · rintro rfl
    simp [State.evaluated, State.runEnableOf, h]

/-- The record of a crane, if any, is that of a halted one. -/
def State.HaltedAt (s : State) (c : CraneId) (m : HaltMode) : Prop :=
  s.tcu.halts.get c = some m ∧ ∀ k, s.rcu.cranes.get c = some k → k.Halted m

theorem State.evaluate_haltedAt (h : s.tcu.halts.get c = some m) : (s.evaluate c).HaltedAt c m := by
  refine ⟨by simp only [State.evaluate_keeps, h], fun k hk => ?_⟩
  rw [State.evaluate_cranes, if_pos rfl] at hk
  obtain ⟨r, -, rfl⟩ := Option.map_eq_some_iff.1 hk
  exact State.evaluated_halted h r

theorem State.HaltedAt.evaluate (h : s.HaltedAt c m) (d : CraneId) : (s.evaluate d).HaltedAt c m := by
  by_cases hd : c = d
  · subst hd
    exact State.evaluate_haltedAt h.1
  · refine ⟨by simp only [State.evaluate_keeps, h.1], fun k hk => ?_⟩
    rw [State.evaluate_cranes, if_neg hd] at hk
    exact h.2 k hk

theorem State.HaltedAt.evaluateAll (h : s.HaltedAt c m) (cs : List CraneId) : (s.evaluateAll cs).HaltedAt c m :=
  List.foldlRecOn (motive := fun u => u.HaltedAt c m) cs State.evaluate h fun _ h d _ => h.evaluate d

theorem State.evaluateAll_haltedAt {cs : List CraneId} (h : s.tcu.halts.get c = some m) (hc : c ∈ cs) :
    (s.evaluateAll cs).HaltedAt c m := by
  obtain ⟨before, after, rfl⟩ := List.append_of_mem hc
  have hsplit : s.evaluateAll (before ++ c :: after) =
      ((s.evaluateAll before).evaluate c).evaluateAll after := by
    simp only [State.evaluateAll, List.foldl_append, List.foldl_cons]
  rw [hsplit]
  exact (State.evaluate_haltedAt (by simp only [State.evaluateAll_keeps, h])).evaluateAll after

/-- The crane of a runway that is evaluated stays halted through the runways after it. -/
theorem State.foldl_evaluateRunway_haltedAt {rs : List RunwayId} {r : RunwayId} (hr : r ∈ rs)
    (h : s.tcu.halts.get c = some m) (hc : c ∈ s.cranesOn r) :
    (rs.foldl State.evaluateRunway s).HaltedAt c m := by
  obtain ⟨before, after, rfl⟩ := List.append_of_mem hr
  rw [List.foldl_append, List.foldl_cons]
  have hbefore : (before.foldl State.evaluateRunway s).tcu = s.tcu :=
    foldl_keeps State.evaluateRunway State.tcu (fun t q => by simp only [State.evaluateRunway_keeps]) before s
  have hlsu : (before.foldl State.evaluateRunway s).lsu = s.lsu :=
    foldl_keeps State.evaluateRunway State.lsu (fun t q => by simp only [State.evaluateRunway_keeps]) before s
  have hlinks : (before.foldl State.evaluateRunway s).links = s.links :=
    foldl_keeps State.evaluateRunway State.links (fun t q => by simp only [State.evaluateRunway_keeps]) before s
  have hon : c ∈ (before.foldl State.evaluateRunway s).cranesOn r := by
    unfold State.cranesOn State.craneAt
    rw [hlsu, hlinks]
    exact hc
  have hself : ((before.foldl State.evaluateRunway s).evaluateRunway r).HaltedAt c m :=
    State.evaluateAll_haltedAt (by rw [hbefore, h]) hon
  exact List.foldlRecOn (motive := fun u => u.HaltedAt c m) after State.evaluateRunway hself
    fun _ h _ _ => h.evaluateAll _

/-- The state with the halts of some cranes written. -/
def State.withHalts (s : State) (cs : List CraneId) (m : Option HaltMode) : State :=
  { s with tcu := { s.tcu with halts := s.tcu.halts.map fun c h => if c ∈ cs then m else h } }

theorem State.setHalts_eq (s : State) (cs : List CraneId) (m : Option HaltMode) : s.setHalts cs m =
    (allRunways.filter fun r => cs.any fun c => s.craneRunway c == some r).foldl State.evaluateRunway
      (s.withHalts cs m) := by
  have hmap : (s.tcu.halts.map fun c h => if cs.contains c then m else h) =
      s.tcu.halts.map fun c h => if c ∈ cs then m else h := by
    simp only [List.contains_iff_mem]
  unfold State.setHalts State.withHalts
  rw [hmap]
  rfl

theorem State.withHalts_halts (cs : List CraneId) (v : Option HaltMode) (d : CraneId) :
    (s.withHalts cs v).tcu.halts.get d = if d ∈ cs then v else s.tcu.halts.get d :=
  Quad.get_map _ _ _

/-- Halts written and runways evaluated: the records and the ports follow, nothing else moves (R80, R136). -/
theorem State.setHalts_tcu (s : State) (cs : List CraneId) (m : Option HaltMode) :
    (s.setHalts cs m).tcu = (s.withHalts cs m).tcu := by
  rw [State.setHalts_eq]
  exact foldl_keeps State.evaluateRunway State.tcu (fun t q => by simp only [State.evaluateRunway_keeps]) _ _

theorem State.setHalts_halted {cs : List CraneId} {r : RunwayId} (hc : c ∈ cs) (hr : s.craneRunway c = some r)
    (hon : c ∈ s.cranesOn r) : (s.setHalts cs (some m)).HaltedAt c m := by
  rw [State.setHalts_eq]
  refine State.foldl_evaluateRunway_haltedAt (r := r) (List.mem_filter.2 ⟨by cases r <;> decide, ?_⟩) ?_ hon
  · exact List.any_eq_true.2 ⟨c, hc, beq_iff_eq.2 hr⟩
  · rw [State.withHalts_halts, if_pos hc]

/-- The cranes that a target names (R80). -/
theorem State.haltTargets_of {target : HaltTarget} {cs : List CraneId}
    (h : (∃ c l, target = .crane (numVal c) ∧ s.links.get c = some l ∧ cs = [c]) ∨
      (∃ r v, target = .runway (.known r) ∧ s.rcu.views.get r = some v ∧
        cs = allNum4.filter fun c => (s.links.get c).isSome && s.craneRunway c == some r) ∨
      (target = .all ∧ cs = allNum4.filter fun c => (s.links.get c).isSome)) :
    s.haltTargets target = .ok cs ∧ targetOk target = true := by
  rcases h with ⟨c, l, rfl, hl, rfl⟩ | ⟨r, v, rfl, hv, rfl⟩ | ⟨rfl, rfl⟩
  · refine ⟨?_, num4Ok_numVal c⟩
    simp only [State.haltTargets, State.readCrane, readNum_numVal, except_ok_bind, hl, Option.isSome_some,
      require_true]
  · refine ⟨?_, rfl⟩
    simp only [State.haltTargets, readCoded_known, except_ok_bind, hv, Option.isSome_some, require_true]
  · exact ⟨rfl, rfl⟩

theorem State.readCrane_of {l : CraneLink} (h : s.links.get c = some l) : s.readCrane (numVal c) = .ok c := by
  simp only [State.readCrane, readNum_numVal, except_ok_bind, h, Option.isSome_some, require_true]

theorem State.definedCrane_of {l : CraneLink} (h : s.links.get c = some l) :
    s.definedCrane (numVal c) = .ok c := by
  simp only [State.definedCrane, num4_numVal, requireSome_some, except_ok_bind, h, Option.isSome_some,
    require_true]

end Halts

/-! ## The queries -/

theorem State.readBay_of {s : State} {b : BayId} {y : Bay} (h : s.bcu.bays.get b = some y) :
    s.readBay (numVal b) = .ok (b, y) := by
  simp only [State.readBay, readNum_numVal, except_ok_bind, h, requireSome_some]

theorem getElem?_map_allNum4 {α : Type} (f : Num4 → α) (c : Num4) :
    (allNum4.map f)[numVal c - 1]? = some (f c) := by
  cases c <;> rfl

end Sys2Proof.Machine
end

section
/-! SUPPORT. The statements about holds, halts and queries, settled. -/

namespace Sys2Proof

open Machine

/-- Settles O34: RETRY for each reason, ACCEPT-WEIGHT, and the final check. -/
theorem holdsAreResolved : Obligations.HoldsAreResolved := by
  refine ⟨fun tag id c t s s0 h ht => ?retry, fun tag id c t s s0 h ht => ?weight,
    fun s t => ⟨fun hor => ?passes, fun b k p coils hd hp hcoils => ?final⟩,
    fun s id c t gone ht => State.resolutionAck_of_task ht⟩
  case retry =>
    have hgoes : ∀ {why u}, t.hold = some why → retryAllowed why = true → s0.retry c t why = some u →
        exec (.retry tag (.fields id)) s = .next (u.acked tag .retry (u.resolutionAck id t)) := by
      intro why u hw ha hu
      exact congrArg Host.Outcome.next (State.serve_ack noSelector h (by rw [ownRetry_of ht hw ha, hu]; rfl))
    have hstays : ∀ {why}, t.hold = some why → retryAllowed why = true → s0.retry c t why = none →
        exec (.retry tag (.fields id)) s = .next (s0.nacked tag ReqKind.retry.code .conditionActive 0) := by
      intro why hw ha hu
      exact congrArg Host.Outcome.next (State.serve_nak noSelector h (by rw [ownRetry_of ht hw ha, hu]; rfl))
    refine ⟨fun hw => hgoes hw rfl rfl, fun hw => hgoes hw rfl rfl, fun hw => ⟨fun hn => ?_, fun i cost hsel => ?_⟩,
      fun hw hp => ⟨fun hf => ?_, fun hf => ?_⟩, fun hw hp => ⟨fun hf => ?_, fun hf => ?_⟩,
      fun hw => ⟨fun hno => ?_, fun hact href => ?_⟩⟩
    · exact hstays hw rfl (by rw [State.retry, hn]; rfl)
    · exact hgoes hw rfl (by rw [State.retry, hsel]; exact congrArg some (State.grantChoice_eq i))
    · exact hstays hw rfl (by rw [State.retry, if_pos hp, hf]; rfl)
    · exact hgoes hw rfl (by rw [State.retry, if_pos hp, hf]; rfl)
    · exact hstays hw rfl (by rw [State.retry, if_neg (by simp [hp]), hf]; rfl)
    · exact hgoes hw rfl (by rw [State.retry, if_neg (by simp [hp]), hf]; rfl)
    · have hready : (s0.linkActive c && s0.referenced c) = false := by
        rw [← Bool.not_eq_true, Bool.and_eq_true]
        exact hno
      rcases hw with hw | hw
      · exact hstays hw rfl (by rw [State.retry, hready]; rfl)
      · exact hstays hw rfl (by rw [State.retry, hready]; rfl)
    · rcases hw with hw | hw
      · exact hgoes hw rfl (by rw [State.retry, hact, href]; rfl)
      · exact hgoes hw rfl (by rw [State.retry, hact, href]; rfl)
  case weight =>
    refine ⟨fun hw => congrArg Host.Outcome.next (State.serve_ack noSelector h ?_),
      fun hw => congrArg Host.Outcome.next (State.serve_ack noSelector h ?_),
      fun hw => congrArg Host.Outcome.next (State.serve_nak noSelector h ?_)⟩
    · simp only [ownAcceptWeight, State.liveTask_of ht, except_ok_bind, hw, beq_self_eq_true, Bool.true_or,
        require_true, if_true]
      rfl
    · simp only [ownAcceptWeight, State.liveTask_of ht, except_ok_bind, hw, beq_self_eq_true, Bool.or_true,
        require_true, Option.some.injEq, reduceCtorEq, if_false]
      rfl
    · simp only [ownAcceptWeight, State.liveTask_of ht, except_ok_bind, hw, Task.holdDetail_none hw]
      rfl
  case passes =>
    rcases hor with hd | ⟨i, hd⟩
    · simp only [State.finalPasses, hd]
    · simp only [State.finalPasses, hd]
  case final => exact (State.finalPasses_of_cradle hd hp).trans (Smu.finalCheck_of_standing hcoils)

/-- Settles O35: the halts written for each target, the halted cranes, and the detach mark. -/
theorem cranesAreHaltedAndDetached : Obligations.CranesAreHaltedAndDetached := by
  refine ⟨fun tag target cs s s0 htarget => ?halts, fun tag c l s s0 hl => ⟨fun h => ⟨fun hq => ?_, fun hq => ?_⟩,
    fun h => ?_⟩⟩
  case halts =>
    obtain ⟨hcs, hok⟩ := State.haltTargets_of htarget
    refine ⟨fun m h => ⟨s0.setHalts cs (some m), congrArg Host.Outcome.next (State.serve_ack noSelector h ?_),
        fun c => ?_, ?_, fun c r k hc hr hon hk => (State.setHalts_halted hc hr hon).2 k hk⟩,
      fun h => ⟨s0.setHalts cs none, congrArg Host.Outcome.next (State.serve_ack noSelector h ?_), fun c => ?_, ?_⟩⟩
    · simp only [ownHalt, hok, require_true, readCoded_known, except_ok_bind, hcs]
    · rw [State.setHalts_tcu, State.withHalts_halts]
    · refine ⟨congrArg State.rcu (State.setHalts_eq s0 cs (some m)),
        congrArg State.ports (State.setHalts_eq s0 cs (some m)), ?_⟩
      simp only [State.setHalts_keeps, State.setHalts_tcu, true_and]
      exact ⟨rfl, rfl, rfl⟩
    · simp only [ownResume, except_ok_bind, hcs]
    · rw [State.setHalts_tcu, State.withHalts_halts]
    · refine ⟨congrArg State.rcu (State.setHalts_eq s0 cs none),
        congrArg State.ports (State.setHalts_eq s0 cs none), ?_⟩
      simp only [State.setHalts_keeps, State.setHalts_tcu, true_and]
      exact ⟨rfl, rfl, rfl⟩
  · exact congrArg Host.Outcome.next (State.serve_ack noSelector h (by
      simp only [ownDetach, State.definedCrane_of hl, except_ok_bind, hq, List.isEmpty_nil, require_true]
      rfl))
  · have hsome : (s0.tcu.queues.get c).isEmpty = false := List.isEmpty_eq_false_iff.2 hq
    exact congrArg Host.Outcome.next (State.serve_nak noSelector h (by
      simp only [ownDetach, State.definedCrane_of hl, except_ok_bind, hsome, require_false, except_error_bind]))
  · exact congrArg Host.Outcome.next (State.serve_ack noSelector h (by
      simp only [ownAttach, State.definedCrane_of hl, except_ok_bind]
      rfl))

/-- Settles O36: each query reads the record it is asked about. -/
theorem queriesOnlyRead : Obligations.QueriesOnlyRead := by
  refine ⟨fun tag id k s s0 h hk => ?_, fun tag id s s0 h => ?_, fun tag i t s s0 hi h ht => ?_,
    fun tag i s s0 hi h => ?_, fun tag id c t s s0 h ht => ?_, fun tag c l s s0 h hl => ?_,
    fun tag c l s s0 h hl => ?_, fun tag c w p s s0 h hw hp => ?_, fun tag r v s s0 h hv => ?_,
    fun s c l k hl hk => ?runwayCrane, fun s b g y p e x hg hy hp hn hx => ?entry, fun tag b y s s0 h hy => ?_,
    fun tag s s0 h => ?_, fun tag s s0 h => ?status⟩
  case runwayCrane =>
    simp only [State.runwayCrane, hl, hk]
    rfl
  case entry =>
    have hpos : p.head.position? e.cradle = some x := by rw [PlanHead.position?, if_neg (by omega), hx]
    have htarget := State.target?_cradle hg hy hp hn hx
    simp only [State.entryReport, State.destTarget, hpos, htarget, Option.getD_some]
  case status =>
    refine ⟨_, congrArg Host.Outcome.next (State.serve_ack noSelector h rfl), rfl, rfl, ?_, rfl, rfl, rfl, rfl, rfl,
      rfl, rfl, rfl, rfl, rfl, rfl, fun c l w k hl hw hk => ?_, fun c hl => ?_, fun b => getElem?_map_allNum4 _ b⟩
    · refine congrArg List.length (List.filter_filter.trans (List.filter_congr fun f _ => Bool.and_comm _ _))
    · refine (getElem?_map_allNum4 _ c).trans (congrArg some ?_)
      simp only [State.craneStatus, hl, hw, hk]
      rfl
    · refine (getElem?_map_allNum4 _ c).trans (congrArg some ?_)
      simp only [State.craneStatus, hl]
  all_goals refine congrArg Host.Outcome.next (State.serve_ack noSelector h ?_)
  · simp only [ownCoilQueryOne, hk, requireSome_some, except_ok_bind]
  · rfl
  · simp only [ownSlotQueryOne, slotOk_iff.2 hi, require_true, ht, requireSome_some, except_ok_bind]
  · simp only [ownSlotQueryList, slotOk_iff.2 hi, require_true, except_ok_bind]
    rfl
  · simp only [ownTaskQueryOne, ht, requireSome_some, except_ok_bind]
    rfl
  · simp only [ownTaskQueryCrane, State.readCrane_of hl, except_ok_bind]
    rfl
  · simp only [ownCraneQuery, readNum_numVal, hl, requireSome_some, except_ok_bind]
    rfl
  · simp only [ownWeighQuery, readNum_numVal, hw, hp, requireSome_some, except_ok_bind]
    rfl
  · simp only [ownRunwayQuery, readCoded_known, hv, requireSome_some, except_ok_bind]
  · simp only [ownBayQuery, State.readBay_of hy, except_ok_bind]
    rfl
  · rfl

end Sys2Proof
end

section
/-! SUPPORT. The records of one crane written, and what a report or a notice does to the flags of others. -/

namespace Sys2Proof.Machine

section Written

variable {s : State} {c : CraneId}

theorem State.modLink_of {l : CraneLink} (h : s.links.get c = some l) (f : CraneLink → CraneLink) :
    s.modLink c f = { s with links := s.links.set c (some (f l)) } := by
  unfold State.modLink Quad.modify
  rw [h]
  rfl

theorem State.modHoist_of {h : Hoist} (hh : s.hoists.get c = some h) (f : Hoist → Hoist) :
    s.modHoist c f = { s with hoists := s.hoists.set c (some (f h)) } := by
  unfold State.modHoist Quad.modify
  rw [hh]
  rfl

theorem State.modCrane_of {k : RcuCrane} (h : s.rcu.cranes.get c = some k) (f : RcuCrane → RcuCrane) :
    s.modCrane c f = { s with rcu := { s.rcu with cranes := s.rcu.cranes.set c (some (f k)) } } := by
  unfold State.modCrane Quad.modify
  rw [h]
  rfl

theorem State.links_modLink_get (f : CraneLink → CraneLink) (d : CraneId) :
    (s.modLink c f).links.get d = if d = c then (s.links.get d).map f else s.links.get d := by
  rw [State.links_modLink]
  by_cases hd : d = c
  · rw [if_pos hd, hd, Quad.get_modify_same]
  · rw [if_neg hd, Quad.get_modify_ne _ _ hd]

end Written

theorem Fnu.isSet_offer {u : Fnu} {n : Notice} {f : FlagId} (h : f ≠ .noticeLost) :
    (u.offer n).isSet f = u.isSet f := by
  unfold Fnu.isSet
  rw [Fnu.flag_offer_ne h]

theorem Fnu.flag_raise_same {u : Fnu} {f : FlagId} (h : f ≠ .noticeLost) :
    (u.raise f).flag f = (u.flag f).raised f.isCondition := by
  unfold Fnu.raise
  dsimp only
  split
  · exact Fnu.flag_setFlag_same u f _
  · rw [Fnu.flag_offer_ne h, Fnu.flag_setFlag_same]

theorem Fnu.flag_raise_ne {u : Fnu} {f g : FlagId} (hg : g ≠ .noticeLost) (h : g ≠ f) :
    (u.raise f).flag g = u.flag g := by
  unfold Fnu.raise
  dsimp only
  split
  · exact Fnu.flag_setFlag_ne u _ h
  · rw [Fnu.flag_offer_ne hg, Fnu.flag_setFlag_ne u _ h]

theorem Fnu.flag_endCond_ne {u : Fnu} {m : LatchMode} {f g : FlagId} (h : g ≠ f) :
    (u.endCond m f).flag g = u.flag g := by
  cases m <;> exact Fnu.flag_setFlag_ne u _ h

theorem Flag.raised_count (v : Flag) (live : Bool) : (v.raised live).count.isSome = true := by
  unfold Flag.raised
  split <;> rfl

theorem Flag.raised_live (v : Flag) (live : Bool) : (v.raised live).live = live := by
  unfold Flag.raised
  split <;> rfl

theorem Fnu.isSet_raise {u : Fnu} {f : FlagId} (h : f ≠ .noticeLost) : (u.raise f).isSet f = true := by
  unfold Fnu.isSet
  rw [Fnu.flag_raise_same h, Flag.raised_count]

theorem State.report_cases (s : State) (f : FlagId) (was is : Bool) :
    s.report f was is = s.raise f ∨ s.report f was is = s.endCond f ∨ s.report f was is = s := by
  cases was <;> cases is <;> simp [State.report]

/-- A flag is touched by the reports of its own condition alone. -/
theorem State.flag_report_ne {s : State} {f g : FlagId} (hg : g ≠ .noticeLost) (h : g ≠ f) (was is : Bool) :
    (s.report f was is).fnu.flag g = s.fnu.flag g := by
  rcases s.report_cases f was is with hr | hr | hr <;> rw [hr]
  · exact Fnu.flag_raise_ne hg h
  · exact Fnu.flag_endCond_ne h

theorem Port.send_idle {p : Port} (h : p.sending = none) (now : Nat) (r : CommandRec) :
    p.send now r = p.start now r := by
  simp only [Port.send, h]

theorem Port.send_busy {p : Port} {q : CommandRec} (h : p.sending = some q) (now : Nat) (r : CommandRec) :
    p.send now r = { p with waiting := some r } := by
  simp only [Port.send, h]

theorem Port.send_sends (p : Port) (now : Nat) (r : CommandRec) :
    (p.send now r).sending = some r ∨ (p.send now r).waiting = some r := by
  cases h : p.sending with
  | none => exact .inl (by rw [Port.send_idle h]; rfl)
  | some q => exact .inr (by rw [Port.send_busy h])

end Sys2Proof.Machine
end

section
/-! The settlement of O40: the command records of a crane's port. -/

namespace Sys2Proof
open Machine

/-- Settles O40: the fields of a record, its start or its wait, and the end of the record on the line. -/
theorem commandRecordsOnAPort : Obligations.CommandRecordsOnAPort := by
  refine ⟨fun s c fwd rev lower p h hp hh => ?content, fun s c r => ⟨fun h => ?idle, fun q h => ?busy⟩,
    fun s c => ⟨fun h => ?silent, fun q h hw => ?ends, fun q r h hw => ?follows⟩, fun _ _ _ => rfl⟩
  case content =>
    simp only [State.record, State.classSpeed, State.raiseInhibit, hp, hh]
    cases fwd <;> cases rev <;> rfl
  case idle => exact congrArg (fun v => s.setPorts (s.ports.set c v)) (Port.send_idle h _ _)
  case busy => exact congrArg (fun v => s.setPorts (s.ports.set c v)) (Port.send_busy h _ _)
  case silent =>
    have hsame : (s.ports.get c).finish s.now = s.ports.get c := by simp only [Port.finish, h]
    exact congrArg (fun v => Host.Outcome.next (s.setPorts v)) ((congrArg (s.ports.set c) hsame).trans
      (Quad.set_get _ _))
  case ends =>
    refine congrArg (fun v => Host.Outcome.next (s.setPorts (s.ports.set c v))) ?_
    simp only [Port.finish, h, hw]
  case follows =>
    refine congrArg (fun v => Host.Outcome.next (s.setPorts (s.ports.set c v))) ?_
    simp only [Port.finish, h, hw, Port.start]

end Sys2Proof
end

section
/-! SUPPORT. The steps of an arrival, each once: the link, the swap, the jump, the pairs, the count toward
overspeed, the freeze and the evaluations of a record (05, 06, 07). -/

namespace Sys2Proof.Machine

section Arrival

variable {s : State} {c : CraneId}

/-- The state with a crane's link up until its watchdog ends (R91). -/
def State.linkUpAt (s : State) (c : CraneId) (l : CraneLink) : State :=
  { s with links := s.links.set c (some { l with link := .active (s.now + s.lsu.settings.linkTimeout) }) }

theorem State.linkArrive_eq {l : CraneLink} (h : s.links.get c = some l) : s.linkArrive c l =
    match l.link with
    | .active _ => s.linkUpAt c l
    | .silent => (s.linkUpAt c l).notify (.craneLink c true)
    | .lost => ((s.linkUpAt c l).endCond (.crane .linkLost c)).notify (.craneLink c true) := by
  unfold State.linkArrive
  rw [State.modLink_of h]
  rfl

theorem State.swapArrive_of {q : ParamSet} {v : Int} (hq : s.lsu.shadow.get c = some q) (hv : v = 0)
    (ht : s.inFlight? c = none) : s.swapArrive c v =
      { s with
        lsu := { s.lsu with active := s.lsu.active.set c (some q), shadow := s.lsu.shadow.set c none }
        fnu := s.fnu.offer (.craneParamsApplied c) } := by
  simp only [State.swapArrive, hq, ht, Option.isNone_none, hv, and_self, if_true]
  rfl

theorem State.swapArrive_none {v : Int} (h : s.lsu.shadow.get c = none ∨ v ≠ 0 ∨ s.inFlight? c ≠ none) :
    s.swapArrive c v = s := by
  unfold State.swapArrive
  split
  · rfl
  · next q hq =>
    refine if_neg ?_
    rintro ⟨hnone, hv⟩
    rcases h with h | h | h
    · exact absurd (hq.symm.trans h) (by simp)
    · exact h hv
    · exact h (Option.isNone_iff_eq_none.1 hnone)

theorem State.jumpCheck_none {l : CraneLink} {x : Int} (h : l.period = false ∨ l.last = none) :
    s.jumpCheck c l x = s := by
  unfold State.jumpCheck
  rcases h with h | h
  · rw [h]
  · rw [h]
    cases l.period <;> rfl

theorem State.jumpCheck_some {l : CraneLink} {x : Int} {q : LastRec} (hp : l.period = true)
    (hq : l.last = some q) : s.jumpCheck c l x =
      if s.lsu.settings.jumpLimit < (x - q.corrected).natAbs then
        if l.referenced then (s.raise (.crane .positionJump c)).unreference c
        else s.raise (.crane .positionJump c)
      else s := by
  simp only [State.jumpCheck, hp, hq]

/-! ## The pairs (R97) -/

theorem State.pairConflict_iff {i j : CraneId} {a b : CraneLink} {p q : ParamSet} (hi : s.links.get i = some a)
    (hj : s.links.get j = some b) (hp : s.lsu.active.get i = some p) (hq : s.lsu.active.get j = some q) :
    s.pairConflict i j = true ↔ a.referenced = true ∧ b.referenced = true ∧
      ∃ y z, a.last = some y ∧ b.last = some z ∧ z.corrected - (q.rear : Int) ≤ y.corrected + (p.front : Int) := by
  simp only [State.pairConflict, hi, hj, hp, hq, Bool.and_eq_true, and_assoc]
  cases a.last <;> cases b.last <;> simp

/-- The mark of a crane's pair as the records stand. -/
def State.pairMark (s : State) (i : CraneId) : Bool :=
  match s.above i with | some j => s.pairConflict i j | none => false

/-- What a crane's record is but for the mark of its pair. -/
def CraneLink.unpaired (l : CraneLink) : CraneLink := { l with pairAbove := false }

theorem State.craneAt_congr {t : State} (hlsu : t.lsu.active = s.lsu.active)
    (hlinks : ∀ d, (t.links.get d).isSome = (s.links.get d).isSome) (r : RunwayId) (k : Nat) :
    t.craneAt r k = s.craneAt r k := by
  unfold State.craneAt
  refine congrArg (allNum4.find? ·) (funext fun d => ?_)
  rw [hlinks d, hlsu]

theorem State.above_congr {t : State} (hlsu : t.lsu.active = s.lsu.active)
    (hlinks : ∀ d, (t.links.get d).isSome = (s.links.get d).isSome) (i : CraneId) : t.above i = s.above i := by
  unfold State.above
  rw [hlsu]
  exact congrArg (Option.bind _) (funext fun p => State.craneAt_congr hlsu hlinks _ _)

theorem State.below_congr {t : State} (hlsu : t.lsu.active = s.lsu.active)
    (hlinks : ∀ d, (t.links.get d).isSome = (s.links.get d).isSome) (i : CraneId) : t.below i = s.below i := by
  unfold State.below
  rw [hlsu]
  exact congrArg (Option.bind _) (funext fun p => State.craneAt_congr hlsu hlinks _ _)

/-- The conflict of two cranes by their link records and active sets. -/
def linksConflict (a b : Option CraneLink) (p q : Option ParamSet) : Bool :=
  match a, b, p, q with
  | some a, some b, some p, some q =>
    a.referenced && b.referenced &&
      match a.last, b.last with
      | some x, some y => decide (y.corrected - (q.rear : Int) ≤ x.corrected + (p.front : Int))
      | _, _ => false
  | _, _, _, _ => false

theorem State.pairConflict_eq (s : State) (i j : CraneId) : s.pairConflict i j =
    linksConflict (s.links.get i) (s.links.get j) (s.lsu.active.get i) (s.lsu.active.get j) := rfl

theorem linksConflict_unpaired (a b : Option CraneLink) (p q : Option ParamSet) :
    linksConflict (a.map CraneLink.unpaired) (b.map CraneLink.unpaired) p q = linksConflict a b p q := by
  cases a <;> cases b <;> cases p <;> cases q <;> rfl

theorem State.pairConflict_congr {t : State} (hlsu : t.lsu.active = s.lsu.active)
    (hlinks : ∀ d, (t.links.get d).map CraneLink.unpaired = (s.links.get d).map CraneLink.unpaired)
    (i j : CraneId) : t.pairConflict i j = s.pairConflict i j := by
  rw [State.pairConflict_eq, State.pairConflict_eq, hlsu, ← linksConflict_unpaired, hlinks, hlinks,
    linksConflict_unpaired]

theorem State.pairMark_congr {t : State} (hlsu : t.lsu.active = s.lsu.active)
    (hlinks : ∀ d, (t.links.get d).map CraneLink.unpaired = (s.links.get d).map CraneLink.unpaired)
    (i : CraneId) : t.pairMark i = s.pairMark i := by
  have hdefined : ∀ d, (t.links.get d).isSome = (s.links.get d).isSome := fun d => by
    simpa using congrArg Option.isSome (hlinks d)
  unfold State.pairMark
  rw [State.above_congr hlsu hdefined]
  cases s.above i with
  | none => rfl
  | some j => exact State.pairConflict_congr hlsu hlinks i j

/-- The two pairs of a crane formed again (R97). -/
def State.formPairs (s : State) (c : CraneId) : State :=
  match s.below c with | some b => (s.formPair c).formPair b | none => s.formPair c

theorem State.testPairs_eq (s : State) (c : CraneId) : s.testPairs c =
    allNum4.foldl
      (fun u k => u.report (.crane .orderConflict k) (s.orderConflict k) ((s.formPairs c).orderConflict k))
      (s.formPairs c) := rfl

theorem State.formPair_get (s : State) (i d : CraneId) : (s.formPair i).links.get d =
    if d = i then (s.links.get d).map fun l => { l with pairAbove := s.pairMark i } else s.links.get d :=
  State.links_modLink_get _ d

theorem State.formPair_unpaired (s : State) (i d : CraneId) :
    ((s.formPair i).links.get d).map CraneLink.unpaired = (s.links.get d).map CraneLink.unpaired := by
  rw [State.formPair_get]
  split
  · rw [Option.map_map]
    rfl
  · rfl

theorem State.formPair_pairMark (s : State) (i j : CraneId) : (s.formPair i).pairMark j = s.pairMark j :=
  State.pairMark_congr (by simp only [State.formPair_keeps]) (s.formPair_unpaired i) j

theorem State.formPairs_get (s : State) (c d : CraneId) : (s.formPairs c).links.get d =
    if d = c ∨ s.below c = some d then (s.links.get d).map fun l => { l with pairAbove := s.pairMark d }
    else s.links.get d := by
  unfold State.formPairs
  cases hb : s.below c with
  | none =>
    rw [State.formPair_get]
    by_cases hd : d = c
    · simp [hd]
    · simp [hd]
  | some b =>
    rw [State.formPair_get, State.formPair_pairMark, State.formPair_get]
    by_cases hdb : d = b
    · subst hdb
      by_cases hd : d = c
      · subst hd
        simp [Option.map_map, Function.comp_def]
      · simp [hd]
    · by_cases hd : d = c
      · simp [hd, hd ▸ hdb]
      · simp [hd, hdb, Ne.symm hdb]

theorem State.testPairs_lsu_links (s : State) (c : CraneId) :
    (s.testPairs c).lsu = s.lsu ∧ (s.testPairs c).links = (s.formPairs c).links := by
  refine ⟨by simp only [State.testPairs_keeps], ?_⟩
  rw [State.testPairs_eq]
  exact foldl_keeps _ State.links (fun u k => by simp only [State.report_keeps]) allNum4 _

theorem State.testPairs_get (s : State) (c d : CraneId) : (s.testPairs c).links.get d =
    if d = c ∨ s.below c = some d then (s.links.get d).map fun l => { l with pairAbove := s.pairMark d }
    else s.links.get d := by
  rw [(s.testPairs_lsu_links c).2, State.formPairs_get]

end Arrival

end Sys2Proof.Machine
end

section
/-! SUPPORT. The conflict reported, the count toward overspeed, the freeze of a result and the answer of a
record (05, 06, 07). -/

namespace Sys2Proof.Machine

section Judged

variable {s : State} {c : CraneId}

/-- The order conflicts reported one after the other (log 12). -/
def State.reportConflict (s t : State) (u : State) (k : CraneId) : State :=
  u.report (.crane .orderConflict k) (s.orderConflict k) (t.orderConflict k)

theorem State.foldl_reportConflict_isSet {t : State} {k : CraneId} (hwas : s.orderConflict k = false)
    (his : t.orderConflict k = true) (u : State) :
    (allNum4.foldl (s.reportConflict t) u).fnu.isSet (.crane .orderConflict k) = true := by
  have hlost : FlagId.crane .orderConflict k ≠ .noticeLost := by simp
  have hraise : ∀ v, (s.reportConflict t v k).fnu.isSet (.crane .orderConflict k) = true := fun v => by
    have hreport : s.reportConflict t v k = v.raise (.crane .orderConflict k) := by
      simp [State.reportConflict, State.report, hwas, his]
    rw [hreport]
    exact Fnu.isSet_raise hlost
  have hkeep : ∀ v : State, v.fnu.isSet (.crane .orderConflict k) = true → ∀ j ∈ allNum4,
      (s.reportConflict t v j).fnu.isSet (.crane .orderConflict k) = true := fun v hv j _ => by
    by_cases hj : j = k
    · exact hj ▸ hraise v
    · refine .trans (congrArg (fun x : Flag => x.count.isSome) (State.flag_report_ne hlost ?_ _ _)) hv
      simpa using Ne.symm hj
  obtain ⟨before, after, hsplit⟩ := List.append_of_mem (show k ∈ allNum4 by cases k <;> decide)
  rw [hsplit, List.foldl_append, List.foldl_cons]
  exact List.foldlRecOn (motive := fun v : State => v.fnu.isSet (.crane .orderConflict k) = true) after
    (s.reportConflict t) (hraise _) fun v hv j hj => hkeep v hv j (by rw [hsplit]; simp [hj])

theorem State.orderConflict_congr {t : State} (hlsu : t.lsu = s.lsu) (hlinks : t.links = s.links) (k : CraneId) :
    t.orderConflict k = s.orderConflict k := by
  have hbelow : t.below k = s.below k :=
    State.below_congr (congrArg Lsu.active hlsu) (fun d => by rw [hlinks]) k
  unfold State.orderConflict
  rw [hlinks, hbelow]

theorem State.testPairs_isSet {k : CraneId} (hwas : s.orderConflict k = false)
    (his : (s.testPairs c).orderConflict k = true) :
    (s.testPairs c).fnu.isSet (.crane .orderConflict k) = true := by
  have hlsu : (s.testPairs c).lsu = (s.formPairs c).lsu := by
    rw [(s.testPairs_lsu_links c).1]
    unfold State.formPairs
    cases s.below c <;> simp only [State.formPair_keeps]
  rw [State.orderConflict_congr hlsu (s.testPairs_lsu_links c).2] at his
  exact State.foldl_reportConflict_isSet hwas his (s.formPairs c)

/-! ## The comparison speed (R98) -/

/-- The greatest value of the members of a list that count, and of a first value. -/
theorem foldl_max_spec {α : Type} {counts : α → Prop} [DecidablePred counts] {value : α → Nat} (l : List α)
    (first : Nat) :
    let top := l.foldl (fun m e => if counts e then max m (value e) else m) first
    first ≤ top ∧ (∀ e ∈ l, counts e → value e ≤ top) ∧
      (top = first ∨ ∃ e ∈ l, counts e ∧ top = value e) := by
  induction l generalizing first with
  | nil => exact ⟨Nat.le_refl _, by simp, .inl rfl⟩
  | cons a rest ih =>
    obtain ⟨hfirst, hall, hsome⟩ := ih (if counts a then max first (value a) else first)
    rw [List.foldl_cons]
    by_cases ha : counts a
    · simp only [if_pos ha] at hfirst hall hsome ⊢
      refine ⟨by omega, List.forall_mem_cons.2 ⟨fun _ => by omega, hall⟩, ?_⟩
      rcases hsome with htop | ⟨e, he, hc, hv⟩
      · rcases Nat.le_total first (value a) with hle | hle
        · exact .inr ⟨a, List.mem_cons_self, ha, by rw [htop, Nat.max_eq_right hle]⟩
        · exact .inl (by rw [htop, Nat.max_eq_left hle])
      · exact .inr ⟨e, List.mem_cons_of_mem _ he, hc, hv⟩
    · simp only [if_neg ha] at hfirst hall hsome ⊢
      refine ⟨hfirst, List.forall_mem_cons.2 ⟨fun h => absurd h ha, hall⟩, ?_⟩
      rcases hsome with htop | ⟨e, he, hc, hv⟩
      · exact .inl htop
      · exact .inr ⟨e, List.mem_cons_of_mem _ he, hc, hv⟩

theorem State.overCounts_iff {p : ParamSet} {v : Int} {before : Option Int} :
    s.overCounts c p v before = true ↔ v ≠ 0 ∧ ∃ u, before = some u ∧ u.natAbs ≤ v.natAbs ∧
      11 * s.compareSpeed c p (decide (0 < v)) < 10 * v.natAbs := by
  cases before with
  | none => simp [State.overCounts]
  | some u =>
    simp only [State.overCounts, Bool.and_eq_true, bne_iff_ne, decide_eq_true_eq, Option.some.injEq,
      exists_eq_left', and_assoc, and_congr_right_iff]
    exact fun _ => And.comm

/-- The count toward overspeed and the condition taken, with its report (R99). -/
def State.takeCount (s : State) (c : CraneId) (l : CraneLink) (count : Nat) (live : Bool) : State :=
  (s.modLink c fun m => { m with overCount := count, overspeed := live }).report (.crane .overspeed c) l.overspeed
    live

theorem State.judgeOverspeed_eq {l : CraneLink} {p : ParamSet} {v : Int} {before : Option Int}
    (hp : s.lsu.active.get c = some p) : s.judgeOverspeed c l v before =
      s.takeCount c l (if s.overCounts c p v before then min 10 (l.overCount + 1) else 0)
        (if v = 0 then false
         else if s.overCounts c p v before = true ∧ s.lsu.settings.overspeedRecords ≤
             (if s.overCounts c p v before then min 10 (l.overCount + 1) else 0) then true
         else l.overspeed) := by
  simp only [State.judgeOverspeed, hp]
  rfl

/-! ## The freeze (R113) -/

theorem FreezeConds.any_iff {f : FreezeConds} : f.any = true ↔ f ≠ ⟨false, false, false⟩ := by
  obtain ⟨a, b, d⟩ := f
  cases a <;> cases b <;> cases d <;> decide

/-- The conditions of a hoist taken with a frozen result, and reported. -/
def State.takeConds (s : State) (c : CraneId) (h : Hoist) (now : FreezeConds) (f : Option Frozen) : State :=
  ({ s with hoists := s.hoists.set c (some { h with conds := now, frozen := f }) } : State).reportConds c h.conds now

theorem State.weighFreeze_eq {p : ParamSet} {g : Bool} {h : Hoist} (hh : s.hoists.get c = some h) :
    s.weighFreeze c p g =
      let now := h.judge p.gain p.capacity g
      let begins := now.onsets h.conds
      let cold := (h.form p.gain s.lsu.settings.stabilityBand g).freeze begins h.state
      if begins.any && h.frozen.isNone then (s.takeConds c h now (some cold)).notify (.weighFrozen c cold)
      else s.takeConds c h now h.frozen := by
  simp only [State.weighFreeze, hh, State.modHoist_of hh]
  split <;> rfl

/-! ## The answer (R135) -/

/-- A crane that is not among those evaluated keeps its collision record. -/
theorem State.foldl_evaluate_cranes {cs : List CraneId} (hc : c ∉ cs) (s : State) :
    (cs.foldl State.evaluate s).rcu.cranes.get c = s.rcu.cranes.get c := by
  induction cs generalizing s with
  | nil => rfl
  | cons d rest ih =>
    rw [List.foldl_cons, ih fun h => hc (List.mem_cons_of_mem _ h), State.evaluate_cranes,
      if_neg fun (h : c = d) => hc (h ▸ List.mem_cons_self)]

theorem State.order_of_craneAt {p : ParamSet} {r : RunwayId} {n : Nat} (hp : s.lsu.active.get c = some p)
    (h : s.craneAt r n = some c) : p.order = n := by
  obtain ⟨_, q, _, hq, _, horder⟩ := State.craneAt_some h
  rw [hp] at hq
  exact Option.some.inj hq ▸ horder

/-- A crane is not evaluated with its own record again. -/
theorem State.not_mem_evaluatedWith {p : ParamSet} {changed : Bool} (hp : s.lsu.active.get c = some p)
    (horder : 1 ≤ p.order) : c ∉ s.evaluatedWith c changed := by
  unfold State.evaluatedWith State.craneRunway
  rw [hp]
  cases changed with
  | true => simp
  | false =>
    simp only [Bool.false_eq_true, if_false, List.mem_append, Option.mem_toList, State.below, State.above, hp,
      Option.bind_some]
    rintro (h | h)
    · have := State.order_of_craneAt hp h
      omega
    · have := State.order_of_craneAt hp h
      omega

/-- A crane's collision record replaced. -/
def State.holding (s : State) (c : CraneId) (k : RcuCrane) : State :=
  { s with rcu := { s.rcu with cranes := s.rcu.cranes.set c (some k) } }

theorem State.holding_cranes (k : RcuCrane) : (s.holding c k).rcu.cranes.get c = some k := Quad.get_set_same _ _ _

theorem State.holding_holding (k k' : RcuCrane) : (s.holding c k).holding c k' = s.holding c k' := by
  unfold State.holding
  rw [Quad.set_set]

theorem State.evalCrane_holding (k : RcuCrane) :
    (s.holding c k).evalCrane c = s.holding c ((s.holding c k).evaluated c k) := by
  unfold State.evalCrane
  rw [State.modCrane_of (State.holding_cranes k)]
  exact State.holding_holding k _

/-- The collision record of a crane after a record (R135, steps 1 and 2). -/
def RcuCrane.takes (k : RcuCrane) (p : ParamSet) (m : Motion) (load : LoadClass) (referenced : Bool) : RcuCrane :=
  { k with
    motion := some m, load := some load, seenRef := referenced, awaiting := false
    claim := liveClaim p m load.swing }

theorem State.takeMotion_of {r : StatusRec} {x : Int} {p : ParamSet} {k : RcuCrane} {l : CraneLink} {h : Hoist}
    {load : LoadClass} (hp : s.lsu.active.get c = some p) (hk : s.rcu.cranes.get c = some k)
    (hl : s.links.get c = some l) (hh : s.hoists.get c = some h) (hload : h.loadClass = some load) :
    s.takeMotion c r x = s.holding c (k.takes p ⟨x, r.v, r.h, !r.grab.isOpen⟩ load l.referenced) := by
  simp only [State.takeMotion, hp, hh, Option.bind_some, hload, State.referenced, hl, State.modCrane_of hk]
  rfl

theorem State.answer_of {k : RcuCrane} (h : s.rcu.cranes.get c = some k) :
    s.answer c = s.sendRecord c (s.record c k.finalF k.finalR k.lower) := by
  simp only [State.answer, h]

theorem State.collisionArrive_of {r : StatusRec} {x : Int} {changed : Bool} {k : RcuCrane}
    (hk : s.takeMotion c r x = s.holding c k) (hc : c ∉ s.evaluatedWith c changed) :
    let e := (s.holding c k).evaluated c k
    let told := (s.evaluatedWith c changed).foldl State.evaluate (s.holding c e)
    s.collisionArrive c r x changed = told.sendRecord c (told.record c e.finalF e.finalR e.lower) := by
  intro e told
  have hcranes : told.rcu.cranes.get c = some e := by
    rw [State.foldl_evaluate_cranes hc]
    exact State.holding_cranes e
  have hsteps : s.collisionArrive c r x changed = told.answer c := by
    unfold State.collisionArrive
    rw [hk, State.evalCrane_holding]
    rfl
  rw [hsteps, State.answer_of hcranes]

/-! ## The hold of a task in flight (R72) -/

theorem State.holdInFlight_none (h : s.inFlight? c = none) (why : HoldReason) : s.holdInFlight c why = s := by
  simp only [State.holdInFlight, h]

theorem State.holdInFlight_same {t : Task} (h : s.inFlight? c = some t) (ht : t.hold = some .linkLost) :
    s.holdInFlight c .referenceLost = s := by
  simp only [State.holdInFlight, h, ht, and_self, if_true]

theorem State.holdInFlight_some {t : Task} {why : HoldReason} (h : s.inFlight? c = some t)
    (ht : why = .referenceLost → t.hold ≠ some .linkLost) :
    s.holdInFlight c why = s.holdTask c t why t.phase none := by
  simp only [State.holdInFlight, h]
  exact if_neg fun hboth => ht hboth.1 hboth.2

end Judged

end Sys2Proof.Machine
end

section
/-! The settlement of O38: the judging of a record. -/

namespace Sys2Proof
open Machine

/-- Settles O38: each step of the judging, by the cases that decide it. -/
theorem recordsAreJudged : Obligations.RecordsAreJudged := by
  refine ⟨fun s c bytes r l hgood hstage hl => ?steps, fun s c l hl => ?link,
    fun s c v => ⟨fun q hq hv ht => State.swapArrive_of hq hv ht, State.swapArrive_none⟩,
    fun s c l is hl => ?drive, fun _ _ _ _ _ => rfl, fun s c h hh => ?result,
    fun s c r x changed p k l h load hp hk hl hh hload => ?answer, fun s c l x => ?jump,
    fun s i j a b p q hi hj hp hq => State.pairConflict_iff hi hj hp hq, fun s c => ?pairs,
    fun s c p forward => ?speed, fun s c l p v before hp => ?count, fun h gain capacity grabOpen => ?conditions,
    fun s c p grabOpen h hh => ?freeze, fun _ _ _ _ => rfl⟩
  case steps =>
    have hrun : exec (.statusRecord c bytes) s =
        .next ((s.modPort c fun p => p.hear (s.feedPort c bytes)).validRecord c r) := by
      simp only [exec, execStatusRecord, hgood]
    have harrive : ∀ u : State, u.lsu.stage = s.lsu.stage → u.links = s.links →
        u.validRecord c r = u.arrive c l r := fun u hu hlinks => by
      unfold State.validRecord
      rw [hu, hlinks, hl]
      cases hs : s.lsu.stage with
      | config => exact absurd hs hstage
      | inventory => rfl
      | run => rfl
    intro s1 x s2 s3 s4 s5
    rw [hrun]
    refine congrArg Host.Outcome.next ((harrive s1 rfl rfl).trans ?_)
    show s1.arrive c l r = _
    simp only [State.arrive, State.trackArrive, State.judgeOverspeed_keeps, State.jumpCheck_keeps,
      State.swapArrive_keeps, State.linkArrive_keeps]
    rfl
  case link =>
    refine ⟨fun d h => ⟨?_, ?_⟩, fun h => ⟨?_, ?_⟩, fun h => ⟨?_, ?_⟩⟩
    · rw [h]
      rfl
    · rw [State.linkArrive_eq hl, h]
      rfl
    · rw [h]
      rfl
    · rw [State.linkArrive_eq hl, h]
      rfl
    · rw [h]
      rfl
    · rw [State.linkArrive_eq hl, h]
      rfl
  case drive =>
    unfold State.judgeDrive
    rw [State.modLink_of hl]
  case result => simp only [State.weighResult, hh]
  case answer =>
    intro swing m k' holding e others told
    have hswing : swing = load.swing := by cases load <;> rfl
    have hmotion : s.takeMotion c r x = s.holding c k' := by
      rw [State.takeMotion_of hp hk hl hh hload]
      simp only [k', hswing]
      rfl
    have hothers : others = s.evaluatedWith c changed := by
      simp only [others, State.evaluatedWith, State.craneRunway, hp, Option.map_some]
    exact ⟨fun h1 => hothers ▸ State.not_mem_evaluatedWith hp h1,
      fun hc => (State.collisionArrive_of hmotion (hothers ▸ hc)).trans (by rw [← hothers]; rfl)⟩
  case jump =>
    refine ⟨State.jumpCheck_none, fun q hperiod hlast => ⟨fun hle => ?_, fun hlt => ⟨fun href => ?_,
      fun href ht => ?_, fun t href ht => ⟨fun hhold => ?_, fun hhold => ?_⟩⟩⟩⟩
    · rw [State.jumpCheck_some hperiod hlast, if_neg (Nat.not_lt.2 hle)]
    · rw [State.jumpCheck_some hperiod hlast, if_pos hlt, href]
      rfl
    all_goals
      rw [State.jumpCheck_some hperiod hlast, if_pos hlt, if_pos href]
      refine congrArg (State.testPairs · c) ?_
    · exact State.holdInFlight_none
        (s := (s.raise (.crane .positionJump c)).modLink c fun m => { m with referenced := false }) ht _
    · exact State.holdInFlight_same ht hhold
    · exact State.holdInFlight_some ht fun _ => hhold
  case pairs =>
    refine ⟨fun l hl => ⟨{ l with pairAbove := s.pairMark c }, ?_, rfl⟩,
      fun b l hb hl => ⟨{ l with pairAbove := s.pairMark b }, ?_, rfl⟩,
      fun k hwas his => State.testPairs_isSet hwas his⟩
    · rw [State.testPairs_get, if_pos (.inl rfl), hl]
      rfl
    · rw [State.testPairs_get, if_pos (.inr hb), hl]
      rfl
  case speed =>
    intro class_ bound port
    have hlast : p.speed (if forward then port.lastSent.fwd else port.lastSent.rev) =
        class_ port.lastSent.fwd port.lastSent.rev := rfl
    exact foldl_max_spec (counts := fun e : SentClass => s.now ≤ e.time + p.react)
      (value := fun e => class_ e.fwd e.rev) port.sentLog (class_ port.lastSent.fwd port.lastSent.rev)
  case count =>
    intro counts becomes
    have hbecomes : ∀ n live, becomes n live ↔ s.judgeOverspeed c l v before = s.takeCount c l n live :=
      fun _ _ => Iff.rfl
    refine ⟨fun hv => ?_, fun hv hno => ?_, fun hyes => ?_⟩
    · have hno : s.overCounts c p v before = false := by
        simp only [Bool.eq_false_iff, ne_eq, State.overCounts_iff]
        exact fun h => h.1 hv
      rw [hbecomes, State.judgeOverspeed_eq hp, hno, if_pos hv]
      rfl
    · have hfalse : s.overCounts c p v before = false := by
        simp only [Bool.eq_false_iff, ne_eq, State.overCounts_iff]
        exact hno
      rw [hbecomes, State.judgeOverspeed_eq hp, hfalse, if_neg hv]
      simp
    · rw [hbecomes, State.judgeOverspeed_eq hp, State.overCounts_iff.2 hyes, if_neg hyes.1]
      refine congrArg (s.takeCount c l _) ?_
      simp only [if_true, true_and]
      split
      · next hmany => simp [hmany]
      · next hfew => simp [hfew]
  case conditions =>
    intro now kg judged
    have hjudged : (h.full && h.state != .unzeroed && !grabOpen) = true ↔ judged := by
      simp only [Bool.and_eq_true, Hoist.full_iff, bne_iff_ne, Bool.not_eq_true', and_assoc, judged]
    refine ⟨?_, ?_, ?_⟩
    · simp [now, Hoist.judge, Config.countMax, Config.countMin]
    · simp only [now, Hoist.judge]
      rw [Bool.and_eq_true, hjudged, decide_eq_true_eq]
      rfl
    · simp only [now, Hoist.judge]
      rw [Bool.and_eq_true, hjudged, decide_eq_true_eq]
      rfl
  case freeze =>
    intro now begins w cold told
    rw [State.weighFreeze_eq hh]
    refine ⟨fun hb hf => if_pos ?_, fun hb => if_neg ?_⟩
    · exact Bool.and_eq_true_iff.2 ⟨FreezeConds.any_iff.2 hb, by rw [hf]; rfl⟩
    · rw [Bool.and_eq_true, Option.isNone_iff_eq_none]
      rintro ⟨hany, hnone⟩
      rcases hb with hb | hb
      · exact FreezeConds.any_iff.1 hany hb
      · exact hb hnone

end Sys2Proof
end

section
/-! SUPPORT. What the events of one crane spare: the lines and their assignments, the masks, and the records of
the other cranes. -/

namespace Sys2Proof.Machine

/-- The lines, their assignments and the masks of the flags stay. -/
structure State.IoKept (s t : State) : Prop where
  lines : t.dio.lines = s.dio.lines
  inputs : t.dio.inputs = s.dio.inputs
  outputs : t.dio.outputs = s.dio.outputs
  masks : t.fnu.masks = s.fnu.masks

theorem State.IoKept.refl (s : State) : s.IoKept s := ⟨rfl, rfl, rfl, rfl⟩

theorem State.IoKept.trans {s t u : State} (h : s.IoKept t) (h' : t.IoKept u) : s.IoKept u :=
  ⟨h'.lines.trans h.lines, h'.inputs.trans h.inputs, h'.outputs.trans h.outputs, h'.masks.trans h.masks⟩

/-- Beside these the halts and detach marks stay, and every other crane's queue, hoist and last record. -/
structure State.Spares (c : CraneId) (s t : State) : Prop extends s.IoKept t where
  halts : t.tcu.halts = s.tcu.halts
  detached : t.tcu.detached = s.tcu.detached
  queues : ∀ d, d ≠ c → t.tcu.queues.get d = s.tcu.queues.get d
  hoists : ∀ d, d ≠ c → t.hoists.get d = s.hoists.get d
  last : ∀ d, d ≠ c → (t.links.get d).map (·.last) = (s.links.get d).map (·.last)

section

variable (c : CraneId)

theorem State.Spares.refl (s : State) : State.Spares c s s :=
  ⟨.refl s, rfl, rfl, fun _ _ => rfl, fun _ _ => rfl, fun _ _ => rfl⟩

theorem State.Spares.trans {c : CraneId} {s t u : State} (h : State.Spares c s t) (h' : State.Spares c t u) :
    State.Spares c s u where
  toIoKept := h.toIoKept.trans h'.toIoKept
  halts := h'.halts.trans h.halts
  detached := h'.detached.trans h.detached
  queues d hd := (h'.queues d hd).trans (h.queues d hd)
  hoists d hd := (h'.hoists d hd).trans (h.hoists d hd)
  last d hd := (h'.last d hd).trans (h.last d hd)

theorem State.Spares.foldl {α : Type} {f : State → α → State} (h : ∀ (s : State) a, State.Spares c s (f s a))
    (l : List α) (s : State) : State.Spares c s (l.foldl f s) :=
  List.foldlRecOn l f (.refl c s) fun _ ht a _ => ht.trans (h _ a)

variable (s : State)

/-! ## The writes of one part -/

theorem State.setSmu_spares (u : Smu) : State.Spares c s (s.setSmu u) := { State.Spares.refl c s with }
theorem State.setBcu_spares (u : Bcu) : State.Spares c s (s.setBcu u) := { State.Spares.refl c s with }
theorem State.setRcu_spares (u : Rcu) : State.Spares c s (s.setRcu u) := { State.Spares.refl c s with }
theorem State.setLsu_spares (u : Lsu) : State.Spares c s (s.setLsu u) := { State.Spares.refl c s with }
theorem State.setPorts_spares (u : Quad Port) : State.Spares c s (s.setPorts u) := { State.Spares.refl c s with }
theorem State.setNow_spares (n : Nat) : State.Spares c s (s.setNow n) := { State.Spares.refl c s with }

theorem State.modBay_spares (b : BayId) (f : Bay → Bay) : State.Spares c s (s.modBay b f) := s.setBcu_spares c _
theorem State.modPlan_spares (b : BayId) (f : Plan → Plan) : State.Spares c s (s.modPlan b f) := s.setBcu_spares c _
theorem State.modCrane_spares (d : CraneId) (f : RcuCrane → RcuCrane) : State.Spares c s (s.modCrane d f) :=
  s.setRcu_spares c _

theorem State.modLink_spares (f : CraneLink → CraneLink) : State.Spares c s (s.modLink c f) :=
  { State.Spares.refl c s with
    last := fun d hd => by rw [State.links_modLink_get, if_neg hd] }

theorem State.modLink_spares_last (d : CraneId) {f : CraneLink → CraneLink} (hf : ∀ l, (f l).last = l.last) :
    State.Spares c s (s.modLink d f) :=
  { State.Spares.refl c s with
    last := fun e _ => by
      rw [State.links_modLink_get]
      split
      · rw [Option.map_map]
        exact congrArg (Option.map · _) (funext hf)
      · rfl }

theorem State.modHoist_spares (f : Hoist → Hoist) : State.Spares c s (s.modHoist c f) :=
  { State.Spares.refl c s with hoists := fun _ hd => Quad.get_modify_ne _ _ hd }

theorem State.setQueue_spares (q : List Task) : State.Spares c s (s.setQueue c q) :=
  { State.Spares.refl c s with queues := fun _ hd => Quad.get_set_ne _ _ hd }

theorem State.notify_spares (n : Notice) : State.Spares c s (s.notify n) :=
  { State.Spares.refl c s with masks := Fnu.masks_offer _ _ }

theorem State.raise_spares (f : FlagId) : State.Spares c s (s.raise f) :=
  have hlines := (s.raise_tells f).lines
  { State.Spares.refl c s with
    lines := hlines.1, inputs := hlines.2.1, outputs := hlines.2.2, masks := Fnu.masks_raise _ _ }

theorem Fnu.masks_endCond (u : Fnu) (m : LatchMode) (f : FlagId) : (u.endCond m f).masks = u.masks := by
  cases m <;> rfl

theorem State.endCond_lines (f : FlagId) : (s.endCond f).dio.lines = s.dio.lines ∧
    (s.endCond f).dio.inputs = s.dio.inputs ∧ (s.endCond f).dio.outputs = s.dio.outputs := by
  simp only [State.endCond, State.dio_setDio]
  split
  · exact Dio.flagCleared_keeps _ _ _
  · exact ⟨rfl, rfl, rfl⟩

theorem State.endCond_spares (f : FlagId) : State.Spares c s (s.endCond f) :=
  have hlines := s.endCond_lines f
  { State.Spares.refl c s with
    lines := hlines.1, inputs := hlines.2.1, outputs := hlines.2.2, masks := Fnu.masks_endCond _ _ _ }

theorem State.report_spares (f : FlagId) (was is : Bool) : State.Spares c s (s.report f was is) := by
  rcases s.report_cases f was is with h | h | h <;> rw [h]
  · exact s.raise_spares c f
  · exact s.endCond_spares c f
  · exact .refl c s

/-! ## Evaluations and bays -/

theorem State.sendRecord_spares (d : CraneId) (r : CommandRec) : State.Spares c s (s.sendRecord d r) :=
  s.setPorts_spares c _

theorem State.sendDowngrade_spares (d : CraneId) : State.Spares c s (s.sendDowngrade d) := by
  unfold State.sendDowngrade
  split
  · exact .refl c s
  · dsimp only
    split
    · exact s.sendRecord_spares c d _
    · exact .refl c s

theorem State.evaluate_spares (d : CraneId) : State.Spares c s (s.evaluate d) :=
  (s.modCrane_spares c d _).trans (State.sendDowngrade_spares c _ d)

theorem State.evaluateAll_spares (cs : List CraneId) : State.Spares c s (s.evaluateAll cs) :=
  .foldl c (State.evaluate_spares c) cs s

theorem State.followIntrusion_spares (b : BayId) : State.Spares c s (s.followIntrusion b) := by
  unfold State.followIntrusion
  split
  · exact .refl c s
  · exact (s.modBay_spares c b _).trans (State.report_spares c _ _ _ _)

theorem State.setBayState_spares (b : BayId) (v : BayState) : State.Spares c s (s.setBayState b v) := by
  unfold State.setBayState
  split
  · exact .refl c s
  · split
    · exact .refl c s
    · exact ((s.modBay_spares c b _).trans (State.notify_spares c _ _)).trans (State.followIntrusion_spares c _ b)

theorem State.followSecure_spares (b : BayId) : State.Spares c s (s.followSecure b) := by
  unfold State.followSecure
  split
  · exact .refl c s
  · split
    · split
      · exact s.setBayState_spares c b _
      · exact .refl c s
    · split
      · exact .refl c s
      · exact s.setBayState_spares c b _
    · exact s.followIntrusion_spares c b
    · exact .refl c s
    · exact .refl c s

theorem State.reportZone_spares (b : BayId) : State.Spares c s (s.reportZone b) := by
  unfold State.reportZone
  split
  · split
    · exact .refl c s
    · exact (s.setRcu_spares c _).trans (State.evaluateAll_spares c _ _)
  · exact .refl c s

theorem State.bayDerived_spares (b : BayId) : State.Spares c s (s.bayDerived b) :=
  (s.reportZone_spares c b).trans (State.followSecure_spares c _ b)

theorem State.bayEvent_spares (b : BayId) (i : BayInputs) : State.Spares c s (s.bayEvent b i) := by
  unfold State.bayEvent
  split
  · exact .refl c s
  · dsimp only
    split
    · exact ((s.modBay_spares c b _).trans (State.notify_spares c _ _)).trans (State.bayDerived_spares c _ b)
    · exact (s.modBay_spares c b _).trans (State.bayDerived_spares c _ b)

theorem State.trailExpire_spares (b : BayId) : State.Spares c s (s.trailExpire b) := by
  refine (s.modBay_spares c b fun y => { y with trail := none }).trans ?_
  unfold State.trailExpire
  dsimp only
  split
  · exact .refl c _
  · split_ifs
    · exact .refl c _
    all_goals exact State.setBayState_spares c _ b _

theorem State.workStart_spares (b : BayId) (id : Nat) : State.Spares c s (s.workStart b id) := by
  unfold State.workStart
  split
  · exact .refl c s
  · split
    · exact .refl c s
    · refine (s.modBay_spares c b fun y => { y with work := y.work ++ [id], trail := none }).trans ?_
      dsimp only
      split
      · exact State.setBayState_spares c _ b _
      · exact State.setBayState_spares c _ b _
      · exact .refl c _
      · exact .refl c _
      · exact .refl c _

theorem State.workStop_spares (b : BayId) (id : Nat) : State.Spares c s (s.workStop b id) := by
  unfold State.workStop
  split
  · exact .refl c s
  next y _ =>
    split
    · exact .refl c s
    · refine (s.modBay_spares c b fun z => { z with work := y.work.filter (· != id) }).trans ?_
      dsimp only
      split
      · exact .refl c _
      · split
        · exact State.trailExpire_spares c _ b
        · exact State.modBay_spares c _ b _

theorem State.workStartAll_spares (t : Task) : State.Spares c s (s.workStartAll t) :=
  .foldl c (fun u b => State.workStart_spares c u b t.id) _ s

theorem State.workStopAll_spares (t : Task) : State.Spares c s (s.workStopAll t) :=
  .foldl c (fun u b => State.workStop_spares c u b t.id) _ s

theorem State.entryAt_spares (p : Place) (k : Nat) (x y : EntryStatus) : State.Spares c s (s.entryAt p k x y) := by
  cases p with
  | slot i => exact .refl c s
  | cradle b n => exact s.modPlan_spares c b _

theorem State.entryTo_spares (d : Dest) (k : Nat) (x y : EntryStatus) : State.Spares c s (s.entryTo d k x y) := by
  cases d with
  | auto => exact .refl c s
  | place p => exact s.entryAt_spares c p k x y

/-! ## Weighing -/

theorem State.reportConds_spares (d : CraneId) (x y : FreezeConds) : State.Spares c s (s.reportConds d x y) :=
  ((s.report_spares c _ _ _).trans (State.report_spares c _ _ _ _)).trans (State.report_spares c _ _ _ _)

theorem State.weighFreeze_spares (p : ParamSet) (g : Bool) : State.Spares c s (s.weighFreeze c p g) := by
  unfold State.weighFreeze
  split
  · exact .refl c s
  · extract_lets conds onsets cold frozen freezes s1 s2
    have hset : State.Spares c s s2 := (s.modHoist_spares c _).trans (State.reportConds_spares c _ c _ _)
    split
    · exact hset.trans (State.notify_spares c _ _)
    · exact hset

theorem State.autoZero_spares (p : ParamSet) (g : Bool) : State.Spares c s (s.autoZero c p g) := by
  unfold State.autoZero
  split
  · exact .refl c s
  · dsimp only
    split
    · split
      · exact (s.modHoist_spares c _).trans (State.notify_spares c _ _)
      · exact (s.modHoist_spares c _).trans (State.raise_spares c _ _)
    · exact .refl c s

theorem State.weighArrive_spares (r : StatusRec) : State.Spares c s (s.weighArrive c r) := by
  unfold State.weighArrive
  split
  · exact .refl c s
  · exact (((s.modHoist_spares c _).trans (State.weighFreeze_spares c _ _ _)).trans
      (State.autoZero_spares c _ _ _)).trans (State.modHoist_spares c _ _)

theorem State.emptyWindow_spares : State.Spares c s (s.emptyWindow c) := by
  unfold State.emptyWindow
  split
  · exact .refl c s
  · exact (s.modHoist_spares c _).trans (State.reportConds_spares c _ c _ _)

/-! ## The link -/

theorem State.formPair_spares (d : CraneId) : State.Spares c s (s.formPair d) :=
  s.modLink_spares_last c d fun _ => rfl

theorem State.testPairs_spares (d : CraneId) : State.Spares c s (s.testPairs d) := by
  rw [State.testPairs_eq]
  refine .trans ?_ (.foldl c (fun u k => State.report_spares c u _ _ _) _ _)
  unfold State.formPairs
  split
  · exact (s.formPair_spares c d).trans (State.formPair_spares c _ _)
  · exact s.formPair_spares c d

theorem State.linkArrive_spares (l : CraneLink) : State.Spares c s (s.linkArrive c l) := by
  refine (s.modLink_spares c fun m => { m with link := .active (s.now + s.lsu.settings.linkTimeout) }).trans ?_
  unfold State.linkArrive
  split
  · exact .refl c _
  · exact State.notify_spares c _ _
  · exact (State.endCond_spares c _ _).trans (State.notify_spares c _ _)

theorem State.swapArrive_spares (v : Int) : State.Spares c s (s.swapArrive c v) := by
  unfold State.swapArrive
  split
  · exact .refl c s
  · split
    · exact (s.setLsu_spares c _).trans (State.notify_spares c _ _)
    · exact .refl c s

theorem State.judgeOverspeed_spares (l : CraneLink) (v : Int) (b : Option Int) :
    State.Spares c s (s.judgeOverspeed c l v b) := by
  unfold State.judgeOverspeed
  split
  · exact .refl c s
  · exact (s.modLink_spares c _).trans (State.report_spares c _ _ _ _)

theorem State.judgeDrive_spares (x y : Bool) : State.Spares c s (s.judgeDrive c x y) :=
  (s.modLink_spares c _).trans (State.report_spares c _ _ _ _)

/-! ## Tasks -/

theorem State.putTask_spares (t : Task) : State.Spares c s (s.putTask c t) := s.setQueue_spares c _

theorem State.advance_spares (t : Task) : State.Spares c s (s.advance c t) :=
  (s.putTask_spares c t).trans (State.notify_spares c _ _)

theorem State.holdTask_spares (t : Task) (w : HoldReason) (p : Phase) (o : Option Int) :
    State.Spares c s (s.holdTask c t w p o) := s.advance_spares c _

theorem State.holdInFlight_spares (w : HoldReason) : State.Spares c s (s.holdInFlight c w) := by
  unfold State.holdInFlight
  split
  · exact .refl c s
  · split
    · exact .refl c s
    · exact s.holdTask_spares c _ _ _ _

theorem State.exitPredict_spares (t : Task) : State.Spares c s (s.exitPredict c t) := by
  unfold State.exitPredict
  split
  · exact s.advance_spares c _
  · exact s.holdTask_spares c t _ _ _

theorem State.exitSelect_spares (t : Task) : State.Spares c s (s.exitSelect c t) := by
  unfold State.exitSelect
  split
  · exact s.exitPredict_spares c t
  · split
    · exact (s.setSmu_spares c _).trans (State.exitPredict_spares c _ _)
    · exact s.holdTask_spares c t _ _ _

theorem State.weighExit_spares (t : Task) (w : Option Int) : State.Spares c s (s.weighExit c t w) :=
  (s.setSmu_spares c _).trans (State.exitSelect_spares c _ t)

theorem State.arrivedPick_spares (t : Task) (r : StatusRec) (x : Int) :
    State.Spares c s (s.arrivedPick c t r x) := by
  unfold State.arrivedPick
  split
  · exact s.advance_spares c _
  · exact s.holdTask_spares c t _ _ _

theorem State.lifted_spares (t : Task) : State.Spares c s (s.lifted c t) := by
  have hlift := (s.setSmu_spares c (s.smu.lift t c)).trans
    (State.entryAt_spares c _ t.source t.coil .onTruck .removed)
  unfold State.lifted
  dsimp only
  split
  · exact hlift.trans (State.weighExit_spares c _ t _)
  · exact hlift.trans (State.advance_spares c _ _)

theorem State.arrivedPlace_spares (t : Task) (r : StatusRec) (x : Int) :
    State.Spares c s (s.arrivedPlace c t r x) := by
  unfold State.arrivedPlace
  dsimp only
  split_ifs
  · exact s.holdTask_spares c t _ _ _
  · split
    · exact s.advance_spares c _
    · exact s.holdTask_spares c t _ _ _
    · exact s.holdTask_spares c t _ _ _

theorem State.recheckOrder_spares (t : Task) : State.Spares c s (s.recheckOrder c t) := by
  unfold State.recheckOrder
  split
  · exact s.advance_spares c _
  · exact .refl c s
  · exact s.holdTask_spares c t _ _ _

theorem State.released_spares (t : Task) : State.Spares c s (s.released c t) := by
  have hdown := (s.setSmu_spares c (s.smu.putDown t)).trans
    (State.entryTo_spares c _ t.dest t.coil .claimed .placed)
  have hcount := (hdown.trans (State.entryTo_spares c _ t.dest t.coil .removed .onTruck)).trans
    (State.modHoist_spares c _ Hoist.countDown)
  exact ((hcount.trans (State.setQueue_spares c _ _)).trans (State.notify_spares c _ _)).trans
    (State.workStopAll_spares c _ t)

theorem State.actOnPhase_spares (t : Task) (r : StatusRec) (x : Int) : State.Spares c s (s.actOnPhase c t r x) := by
  unfold State.actOnPhase
  split
  · exact s.arrivedPick_spares c t r x
  · exact s.lifted_spares c t
  · exact s.arrivedPlace_spares c t r x
  · exact s.released_spares c t
  · exact .refl c s
  · exact .refl c s

theorem State.matchPhase_spares (t : Task) (r : StatusRec) (x : Int) : State.Spares c s (s.matchPhase c t r x) := by
  unfold State.matchPhase
  split
  · exact .refl c s
  · exact s.putTask_spares c _
  · exact s.actOnPhase_spares c t r x
  · exact .refl c s

theorem State.judgeWeight_spares (t : Task) (w : WeighResult) : State.Spares c s (s.judgeWeight c t w) := by
  unfold State.judgeWeight
  split
  · split
    · exact s.weighExit_spares c t _
    · exact s.holdTask_spares c t _ _ _
  · exact .refl c s

theorem State.countMismatch_spares (t : Task) (r : StatusRec) : State.Spares c s (s.countMismatch t r) :=
  { State.Spares.refl c s with }

theorem State.taskActs_spares (r : StatusRec) (x : Int) (w : WeighResult) :
    State.Spares c s (s.taskActs c r x w) := by
  unfold State.taskActs
  split
  · exact .refl c s
  next t _ =>
    refine (s.countMismatch_spares c t r).trans ?_
    dsimp only
    split
    · split
      · exact State.recheckOrder_spares c _ _
      · exact .refl c _
    · split
      · exact State.judgeWeight_spares c _ _ w
      · exact State.matchPhase_spares c _ _ r x

theorem State.dispatch_spares : State.Spares c s (s.dispatch c) := by
  unfold State.dispatch
  split
  · exact .refl c s
  · split
    · exact ((s.putTask_spares c _).trans (State.workStartAll_spares c _ _)).trans (State.notify_spares c _ _)
    · exact .refl c s

theorem State.taskArrive_spares (r : StatusRec) (x : Int) (w : WeighResult) :
    State.Spares c s (s.taskArrive c r x w) := (s.taskActs_spares c r x w).trans (State.dispatch_spares c _)

/-! ## An arrival and a loss -/

theorem State.jumpCheck_spares (l : CraneLink) (x : Int) : State.Spares c s (s.jumpCheck c l x) := by
  unfold State.jumpCheck
  split
  · split
    · refine (s.raise_spares c (.crane .positionJump c)).trans ?_
      dsimp only
      split
      · exact ((State.modLink_spares c _ _).trans (State.holdInFlight_spares c _ _)).trans
          (State.testPairs_spares c _ c)
      · exact .refl c _
    · exact .refl c s
  · exact .refl c s

theorem State.trackArrive_spares (l : CraneLink) (r : StatusRec) : State.Spares c s (s.trackArrive c l r) :=
  (((((((s.linkArrive_spares c l).trans (State.swapArrive_spares c _ _)).trans
    (State.jumpCheck_spares c _ _ _)).trans (State.judgeOverspeed_spares c _ _ _ _)).trans
    (State.modLink_spares c _ _)).trans (State.testPairs_spares c _ c))).trans (State.judgeDrive_spares c _ _ _)

theorem State.takeMotion_spares (r : StatusRec) (x : Int) : State.Spares c s (s.takeMotion c r x) := by
  unfold State.takeMotion
  split
  · exact .refl c s
  · exact s.modCrane_spares c c _

theorem State.answer_spares : State.Spares c s (s.answer c) := by
  unfold State.answer
  split
  · exact s.sendRecord_spares c c _
  · exact .refl c s

theorem State.collisionArrive_spares (r : StatusRec) (x : Int) (changed : Bool) :
    State.Spares c s (s.collisionArrive c r x changed) :=
  (((s.takeMotion_spares c r x).trans (State.modCrane_spares c _ c _)).trans
    (State.evaluateAll_spares c _ _)).trans (State.answer_spares c _)

theorem State.arrive_spares (l : CraneLink) (r : StatusRec) : State.Spares c s (s.arrive c l r) :=
  (((s.trackArrive_spares c l r).trans (State.weighArrive_spares c _ r)).trans
    (State.taskArrive_spares c _ r _ _)).trans (State.collisionArrive_spares c _ r _ _)

theorem State.freezeClaim_spares : State.Spares c s (s.freezeClaim c) := by
  unfold State.freezeClaim
  split
  · exact .refl c s
  · exact s.modCrane_spares c c _

theorem State.evaluateOf_spares (d : CraneId) : State.Spares c s (s.evaluateOf d) := by
  unfold State.evaluateOf
  split
  · exact s.evaluateAll_spares c _
  · exact .refl c s

theorem State.loseLink_spares : State.Spares c s (s.loseLink c) :=
  (((((((s.modLink_spares c _).trans (State.raise_spares c _ _)).trans (State.testPairs_spares c _ c)).trans
    (State.emptyWindow_spares c _)).trans (State.holdInFlight_spares c _ _)).trans
    (State.freezeClaim_spares c _)).trans (State.evaluateOf_spares c _ c)).trans (State.notify_spares c _ _)

end

end Sys2Proof.Machine
end

section
/-! SUPPORT. What an arrival makes of the crane's own records: its link, its hoist, its parameter set and its
collision record (R88). -/

namespace Sys2Proof.Machine

/-! ## A record at a port (R86) -/

theorem judgeStatus_short {c : CraneId} {got : List Byte} (h : got.length < 20) : judgeStatus c got = .more :=
  if_pos h

theorem judgeStatus_whole {c : CraneId} {got : List Byte} (h : got.length = 20) : judgeStatus c got =
    match decodeStatus c got with
    | some r => .good r
    | none => .bad := by
  unfold judgeStatus
  refine (if_neg (show ¬ got.length < Config.statusBytes by rw [h]; decide)).trans ?_
  cases decodeStatus c got <;> rfl

/-- The sync byte and twenty more make a record, good or bad. -/
theorem Receiver.feedCrane_whole {c : CraneId} {record : List Byte} (h : record.length = 20) :
    Receiver.hunting.feedCrane c (0x5A :: record) =
      match decodeStatus c record with
      | some r => ⟨.hunting, 0, some r⟩
      | none => ⟨.hunting, 1, none⟩ := by
  have hne : record ≠ [] := fun hnil => by simp [hnil] at h
  obtain ⟨first, last, rfl⟩ : ∃ first last, record = first ++ [last] :=
    ⟨_, _, (List.dropLast_concat_getLast hne).symm⟩
  have hfirst : first.length = 19 := by simpa using h
  have hsync : receiverAt Config.craneSync 0x5A = .inside [] := if_pos rfl
  have hcollect := Receiver.feed_collect Config.craneSync (judgeStatus c) [] first [last] fun k _ hk =>
    judgeStatus_short (by rw [List.nil_append, List.length_take]; omega)
  unfold Receiver.feedCrane
  rw [Receiver.feed_hunting, hsync, hcollect, List.nil_append]
  have hjudge := judgeStatus_whole (c := c) h
  cases hd : decodeStatus c (first ++ [last]) with
  | some r =>
    rw [hd] at hjudge
    exact Receiver.feed_good Config.craneSync (judgeStatus c) [] hjudge
  | none =>
    rw [hd] at hjudge
    rw [Receiver.feed_bad Config.craneSync (judgeStatus c) [] hjudge, Receiver.feed_nil]

section Own

variable {s : State} {c : CraneId}

/-! ## The link record -/

section Kept

variable {α : Type} {P : CraneLink → α}

theorem State.modLink_map {f : CraneLink → CraneLink} (hP : ∀ m, P (f m) = P m) (d : CraneId) :
    ((s.modLink c f).links.get d).map P = (s.links.get d).map P := by
  rw [State.links_modLink_get]
  split
  · rw [Option.map_map]
    exact congrArg (Option.map · _) (funext hP)
  · rfl

theorem State.testPairs_map (hP : ∀ m v, P { m with pairAbove := v } = P m) (d : CraneId) :
    ((s.testPairs c).links.get d).map P = (s.links.get d).map P := by
  rw [State.testPairs_get]
  split
  · rw [Option.map_map]
    exact congrArg (Option.map · _) (funext fun m => hP m _)
  · rfl

theorem State.report_links (f : FlagId) (was is : Bool) : (s.report f was is).links = s.links := by
  simp only [State.report_keeps]

theorem State.judgeOverspeed_map (hP : ∀ m n v, P { m with overCount := n, overspeed := v } = P m) (l : CraneLink)
    (v : Int) (before : Option Int) (d : CraneId) :
    ((s.judgeOverspeed c l v before).links.get d).map P = (s.links.get d).map P := by
  cases hp : s.lsu.active.get c with
  | none => simp only [State.judgeOverspeed, hp]
  | some p =>
    rw [State.judgeOverspeed_eq hp, State.takeCount, State.report_links]
    exact State.modLink_map (fun m => hP m _ _) d

theorem State.unreference_map (href : ∀ m, P { m with referenced := false } = P m)
    (hpair : ∀ m v, P { m with pairAbove := v } = P m) (d : CraneId) :
    ((s.unreference c).links.get d).map P = (s.links.get d).map P := by
  unfold State.unreference
  rw [State.testPairs_map hpair]
  simp only [State.holdInFlight_keeps]
  exact State.modLink_map href d

theorem State.jumpCheck_map (href : ∀ m, P { m with referenced := false } = P m)
    (hpair : ∀ m v, P { m with pairAbove := v } = P m) (l : CraneLink) (x : Int) (d : CraneId) :
    ((s.jumpCheck c l x).links.get d).map P = (s.links.get d).map P := by
  unfold State.jumpCheck
  split
  · split
    · dsimp only
      split
      · rw [State.unreference_map href hpair]
        simp only [State.raise_keeps]
      · simp only [State.raise_keeps]
    · rfl
  · rfl

end Kept

/-- What an arrival's judging leaves of a link record. -/
def CraneLink.bond (m : CraneLink) : Link × Int := (m.link, m.correction)

/-- What an arrival records of a link. -/
def CraneLink.recorded (m : CraneLink) : Link × Int × Option LastRec × Option Int × Bool :=
  (m.link, m.correction, m.last, m.seenPos, m.period)

theorem State.linkArrive_links {l : CraneLink} (h : s.links.get c = some l) :
    (s.linkArrive c l).links.get c =
      some { l with link := .active (s.now + s.lsu.settings.linkTimeout) } := by
  have hup : (s.linkArrive c l).links = (s.linkUpAt c l).links := by
    rw [State.linkArrive_eq h]
    cases l.link with
    | active d => rfl
    | silent => simp only [State.notify_keeps]
    | lost => simp only [State.notify_keeps, State.endCond_keeps]
  rw [hup]
  exact Quad.get_set_same _ _ _

theorem State.trackArrive_link {l : CraneLink} {r : StatusRec} (h : s.links.get c = some l) :
    ∃ m, (s.trackArrive c l r).links.get c = some m ∧
      m.link = .active (s.now + s.lsu.settings.linkTimeout) ∧
      m.last = some ⟨r, (r.raw : Int) + l.correction, s.now⟩ ∧
      m.seenPos = some ((r.raw : Int) + l.correction) ∧ m.period = true ∧ m.correction = l.correction ∧
      m.driveFault = r.driveFault := by
  let x : Int := (r.raw : Int) + l.correction
  let judged := (((s.linkArrive c l).swapArrive c r.v).jumpCheck c l x).judgeOverspeed c l r.v
    (if l.period then l.last.map (·.record.v) else none)
  let taken := judged.modLink c fun m =>
    { m with last := some ⟨r, x, judged.now⟩, seenPos := some x, period := true }
  have hbond : (judged.links.get c).map CraneLink.bond =
      some (.active (s.now + s.lsu.settings.linkTimeout), l.correction) := by
    rw [State.judgeOverspeed_map fun _ _ _ => rfl, State.jumpCheck_map (fun _ => rfl) fun _ _ => rfl]
    simp only [State.swapArrive_keeps, State.linkArrive_links h]
    rfl
  have hnow : judged.now = s.now := by
    simp only [judged, State.judgeOverspeed_keeps, State.jumpCheck_keeps, State.swapArrive_keeps,
      State.linkArrive_keeps]
  obtain ⟨a, ha, hab⟩ := Option.map_eq_some_iff.1 hbond
  obtain ⟨hlink, hcorr⟩ := Prod.mk.inj hab
  have htaken : taken.links.get c =
      some { a with last := some ⟨r, x, judged.now⟩, seenPos := some x, period := true } := by
    rw [State.links_modLink_get, if_pos rfl, ha]
    rfl
  have hrecorded : ((taken.testPairs c).links.get c).map CraneLink.recorded =
      some (.active (s.now + s.lsu.settings.linkTimeout), l.correction, some ⟨r, x, s.now⟩, some x, true) := by
    rw [State.testPairs_map fun _ _ => rfl, htaken, ← hlink, ← hcorr, ← hnow]
    rfl
  obtain ⟨m, hm, hrec⟩ := Option.map_eq_some_iff.1 hrecorded
  simp only [CraneLink.recorded, Prod.mk.injEq] at hrec
  obtain ⟨h1, h2, h3, h4, h5⟩ := hrec
  refine ⟨{ m with driveFault := r.driveFault }, ?_, h1, h3, h4, h5, h2, rfl⟩
  have hsteps : (s.trackArrive c l r).links =
      ((taken.testPairs c).modLink c fun l => { l with driveFault := r.driveFault }).links :=
    State.report_links _ _ _
  rw [hsteps, State.links_modLink_get, if_pos rfl, hm]
  rfl

/-! ## The parameter set -/

theorem State.trackArrive_lsu (l : CraneLink) (r : StatusRec) :
    (s.trackArrive c l r).lsu = ((s.linkArrive c l).swapArrive c r.v).lsu := by
  simp only [State.trackArrive, State.judgeDrive_keeps, State.testPairs_keeps, State.lsu_modLink,
    State.judgeOverspeed_keeps, State.jumpCheck_keeps]

theorem State.trackArrive_lsu_same {l : CraneLink} {r : StatusRec}
    (h : s.lsu.shadow.get c = none ∨ r.v ≠ 0 ∨ s.inFlight? c ≠ none) : (s.trackArrive c l r).lsu = s.lsu := by
  have hflight : (s.linkArrive c l).inFlight? c = s.inFlight? c := by
    unfold State.inFlight?
    simp only [State.linkArrive_keeps]
  have hlsu : (s.linkArrive c l).lsu = s.lsu := by simp only [State.linkArrive_keeps]
  rw [State.trackArrive_lsu, State.swapArrive_none (by rwa [hflight, hlsu]), hlsu]

theorem State.trackArrive_lsu_swapped {l : CraneLink} {r : StatusRec} {q : ParamSet}
    (hq : s.lsu.shadow.get c = some q) (hv : r.v = 0) (ht : s.inFlight? c = none) :
    (s.trackArrive c l r).lsu =
      { s.lsu with active := s.lsu.active.set c (some q), shadow := s.lsu.shadow.set c none } := by
  have hflight : (s.linkArrive c l).inFlight? c = none := by
    rw [← ht]
    unfold State.inFlight?
    simp only [State.linkArrive_keeps]
  have hlsu : (s.linkArrive c l).lsu = s.lsu := by simp only [State.linkArrive_keeps]
  rw [State.trackArrive_lsu, State.swapArrive_of (by rwa [hlsu]) hv hflight, hlsu]

theorem State.trackArrive_active {l : CraneLink} {r : StatusRec} {p : ParamSet}
    (hp : s.lsu.active.get c = some p) : ∃ q, (s.trackArrive c l r).lsu.active.get c = some q := by
  by_cases h : s.lsu.shadow.get c = none ∨ r.v ≠ 0 ∨ s.inFlight? c ≠ none
  · exact ⟨p, by rw [State.trackArrive_lsu_same h, hp]⟩
  · simp only [not_or, not_not] at h
    obtain ⟨hshadow, hv, ht⟩ := h
    obtain ⟨q, hq⟩ := Option.ne_none_iff_exists'.1 hshadow
    exact ⟨q, by rw [State.trackArrive_lsu_swapped hq hv ht]; exact Quad.get_set_same _ _ _⟩

/-! ## The hoist -/

theorem State.modHoist_map {α : Type} {P : Hoist → α} {f : Hoist → Hoist} (hP : ∀ h, P (f h) = P h) :
    ((s.modHoist c f).hoists.get c).map P = (s.hoists.get c).map P := by
  show ((s.hoists.modify c (Option.map f)).get c).map P = _
  rw [Quad.get_modify_same, Option.map_map]
  exact congrArg (Option.map · _) (funext hP)

theorem State.weighFreeze_window (p : ParamSet) (g : Bool) :
    ((s.weighFreeze c p g).hoists.get c).map Hoist.window = (s.hoists.get c).map Hoist.window := by
  unfold State.weighFreeze
  split
  · rfl
  · dsimp only
    split <;> simp only [State.notify_keeps, State.reportConds_keeps] <;> exact State.modHoist_map fun _ => rfl

theorem State.autoZero_window (p : ParamSet) (g : Bool) :
    ((s.autoZero c p g).hoists.get c).map Hoist.window = (s.hoists.get c).map Hoist.window := by
  unfold State.autoZero
  split
  · rfl
  · dsimp only
    split
    · split
      · unfold State.takeZero
        simp only [State.notify_keeps]
        exact State.modHoist_map fun _ => rfl
      · simp only [State.raise_keeps]
        exact State.modHoist_map fun _ => rfl
    · rfl

theorem State.weighArrive_window {p : ParamSet} {h : Hoist} (r : StatusRec) (hp : s.lsu.active.get c = some p)
    (hh : s.hoists.get c = some h) :
    ((s.weighArrive c r).hoists.get c).map Hoist.window = some (joinWindow h.window r.count) := by
  let joined := s.modHoist c fun h => { h with window := joinWindow h.window r.count }
  let zeroed := (joined.weighFreeze c p r.grab.isOpen).autoZero c p r.grab.isOpen
  have hsteps : s.weighArrive c r = zeroed.modHoist c fun h =>
      h.conclude p zeroed.lsu.settings.stabilityBand r.grab.isOpen := by
    simp only [State.weighArrive, hp]
    rfl
  have hconclude : ∀ h : Hoist,
      (h.conclude p zeroed.lsu.settings.stabilityBand r.grab.isOpen).window = h.window := fun _ => rfl
  rw [hsteps, State.modHoist_map hconclude]
  rw [State.autoZero_window, State.weighFreeze_window, show joined = _ from State.modHoist_of hh _]
  exact congrArg (Option.map _) (Quad.get_set_same _ _ _)

theorem State.released_window (t : Task) :
    ((s.released c t).hoists.get c).map Hoist.window = (s.hoists.get c).map Hoist.window := by
  have hhoists : (s.released c t).hoists = s.hoists.modify c (Option.map Hoist.countDown) := by
    simp [State.released]
  rw [hhoists]
  exact State.modHoist_map Hoist.countDown_window

theorem State.actOnPhase_window (t : Task) (r : StatusRec) (x : Int) :
    ((s.actOnPhase c t r x).hoists.get c).map Hoist.window = (s.hoists.get c).map Hoist.window := by
  unfold State.actOnPhase
  split
  · simp only [State.arrivedPick_keeps]
  · simp only [State.lifted_keeps]
  · simp only [State.arrivedPlace_keeps]
  · exact State.released_window t
  · rfl
  · rfl

theorem State.taskArrive_window (r : StatusRec) (x : Int) (w : WeighResult) :
    ((s.taskArrive c r x w).hoists.get c).map Hoist.window = (s.hoists.get c).map Hoist.window := by
  unfold State.taskArrive State.taskActs
  simp only [State.dispatch_keeps]
  split
  · rfl
  next t _ =>
    have hcount : (s.countMismatch t r).hoists = s.hoists := by simp only [State.countMismatch_keeps]
    split
    · split
      · simp only [State.recheckOrder_keeps, hcount]
      · rw [hcount]
    · split
      · simp only [State.judgeWeight_keeps, hcount]
      · unfold State.matchPhase
        split
        · rw [hcount]
        · simp only [State.putTask_keeps, hcount]
        · rw [State.actOnPhase_window, hcount]
        · rw [hcount]

/-! ## The collision record and the answer -/

theorem State.evaluated_keeps (k : RcuCrane) : (s.evaluated c k).motion = k.motion ∧
    (s.evaluated c k).load = k.load ∧ (s.evaluated c k).seenRef = k.seenRef ∧
    (s.evaluated c k).claim = k.claim ∧ (s.evaluated c k).awaiting = k.awaiting :=
  s.withDistances_keeps c k

/-- A crane's position is known to the collision unit, and it is not awaited. -/
def State.Seen (s : State) (c : CraneId) (m : Motion) : Prop :=
  ∃ k, s.rcu.cranes.get c = some k ∧ k.motion = some m ∧ k.awaiting = false

theorem State.Seen.evaluate {m : Motion} (h : s.Seen c m) (d : CraneId) : (s.evaluate d).Seen c m := by
  obtain ⟨k, hk, hm, ha⟩ := h
  by_cases hd : c = d
  · subst hd
    obtain ⟨hmotion, -, -, -, hawaiting⟩ := s.evaluated_keeps (c := c) k
    exact ⟨s.evaluated c k, by rw [State.evaluate_cranes, if_pos rfl, hk]; rfl, hmotion.trans hm,
      hawaiting.trans ha⟩
  · exact ⟨k, by rw [State.evaluate_cranes, if_neg hd, hk], hm, ha⟩

theorem State.collisionArrive_crane {p : ParamSet} {k : RcuCrane} (r : StatusRec) (x : Int) (changed : Bool)
    (hp : s.lsu.active.get c = some p) (hk : s.rcu.cranes.get c = some k) :
    let t := s.collisionArrive c r x changed
    ∃ k', t.rcu.cranes.get c = some k' ∧ k'.motion = some ⟨x, r.v, r.h, !r.grab.isOpen⟩ ∧ k'.awaiting = false ∧
      ((t.ports.get c).sending = some (t.record c k'.finalF k'.finalR k'.lower) ∨
        (t.ports.get c).waiting = some (t.record c k'.finalF k'.finalR k'.lower)) := by
  intro t
  have htaken : (s.takeMotion c r x).Seen c ⟨x, r.v, r.h, !r.grab.isOpen⟩ := by
    simp only [State.takeMotion, hp, State.modCrane_of hk]
    exact ⟨_, Quad.get_set_same _ _ _, rfl, rfl⟩
  obtain ⟨k1, hk1, hm1, ha1⟩ := htaken
  obtain ⟨hmotion, -, -, -, hawaiting⟩ := (s.takeMotion c r x).evaluated_keeps (c := c) k1
  have hself : ((s.takeMotion c r x).evalCrane c).Seen c ⟨x, r.v, r.h, !r.grab.isOpen⟩ := by
    unfold State.evalCrane
    rw [State.modCrane_of hk1]
    exact ⟨_, Quad.get_set_same _ _ _, hmotion.trans hm1, hawaiting.trans ha1⟩
  obtain ⟨k', hk', hm', ha'⟩ : State.Seen (((s.takeMotion c r x).evalCrane c).evaluateAll
      (((s.takeMotion c r x).evalCrane c).evaluatedWith c changed)) c ⟨x, r.v, r.h, !r.grab.isOpen⟩ :=
    List.foldlRecOn (motive := fun u => u.Seen c ⟨x, r.v, r.h, !r.grab.isOpen⟩) _ State.evaluate hself
      fun _ h d _ => h.evaluate d
  have hsteps : t = State.answer (((s.takeMotion c r x).evalCrane c).evaluateAll
      (((s.takeMotion c r x).evalCrane c).evaluatedWith c changed)) c := rfl
  rw [hsteps, State.answer_of hk']
  refine ⟨k', hk', hm', ha', ?_⟩
  have hport := Quad.get_modify_same (State.ports (((s.takeMotion c r x).evalCrane c).evaluateAll
    (((s.takeMotion c r x).evalCrane c).evaluatedWith c changed))) c
  unfold State.sendRecord State.modPort
  rw [State.ports_setPorts, hport]
  exact Port.send_sends _ _ _

end Own

end Sys2Proof.Machine
end

section
/-! The settlement of O37: the reception of a status record. -/

namespace Sys2Proof
open Machine

/-- Settles O37: the bytes that make a record, the STOP answer, and what an arrival makes of the crane's records
and spares of the others. -/
theorem statusRecordReception : Obligations.StatusRecordReception := by
  refine ⟨fun c record h => Receiver.feedCrane_whole h, fun c bytes s => ?_⟩
  intro heard port
  have hrun : exec (.statusRecord c bytes) s =
      match heard.good with
      | none => .next (s.modPort c fun p => p.hear heard)
      | some r => .next ((s.modPort c fun p => p.hear heard).validRecord c r) := by
    cases h : heard.good with
    | none =>
      have hnone : (s.feedPort c bytes).good = none := h
      simp only [exec, execStatusRecord, hnone]
      rfl
    | some r =>
      have hsome : (s.feedPort c bytes).good = some r := h
      simp only [exec, execStatusRecord, hsome]
      rfl
  refine ⟨fun h => ?_, fun r h hstop => ?stop, fun r l p h hstage hl hp => ?arrival⟩
  · rw [hrun, h]
    rfl
  case stop =>
    have hanswer : (s.modPort c fun p => p.hear heard).validRecord c r =
        (s.modPort c fun p => p.hear heard).sendRecord c .stopRecord := by
      unfold State.validRecord
      rcases hstop with hconfig | hnone
      · rw [show (s.modPort c fun p => p.hear heard).lsu.stage = .config from hconfig]
      · rw [show (s.modPort c fun p => p.hear heard).links.get c = none from hnone]
        cases (s.modPort c fun p => p.hear heard).lsu.stage <;> rfl
    rw [hrun, h]
    refine congrArg Host.Outcome.next (hanswer.trans ?_)
    simp only [State.sendRecord, State.modPort, Quad.modify, State.ports_setPorts, Quad.get_set_same, Quad.set_set]
    rfl
  case arrival =>
    let s1 := s.modPort c fun p => p.hear heard
    let track := s1.trackArrive c l r
    let weigh := track.weighArrive c r
    let x : Int := (r.raw : Int) + l.correction
    let task := weigh.taskArrive c r x (weigh.weighResult c)
    have harrive : s1.validRecord c r = s1.arrive c l r := by
      have hl1 : s1.links.get c = some l := hl
      unfold State.validRecord
      rw [hl1]
      cases hs : s1.lsu.stage with
      | config => exact absurd hs hstage
      | inventory => rfl
      | run => rfl
    have hlsu : (s1.arrive c l r).lsu = track.lsu := by
      simp only [State.arrive, State.collisionArrive_keeps, State.taskArrive_keeps, State.weighArrive_keeps, track]
    have hhoists : (s1.arrive c l r).hoists = task.hoists := by
      simp only [State.arrive, State.collisionArrive_keeps]
      rfl
    have hlinks : (s1.arrive c l r).links = track.links := by
      simp only [State.arrive, State.collisionArrive_keeps, State.taskArrive_keeps, State.weighArrive_keeps, track]
    have hspares : State.Spares c s (s1.arrive c l r) :=
      (s.setPorts_spares c _).trans (State.arrive_spares c s1 l r)
    obtain ⟨q, hq⟩ := State.trackArrive_active (s := s1) (l := l) (r := r) hp
    refine ⟨s1.arrive c l r, ?_, ?_, fun hoist hhoist => ?_, fun k hk => ?_, fun q' hq' hv ht => ?_,
      fun hkept => ?_, fun d hd => ⟨hspares.hoists d hd, hspares.queues d hd, hspares.last d hd⟩, hspares.halts,
      hspares.detached, hspares.lines, hspares.inputs, hspares.outputs, hspares.masks, ?_, ?_, ?_⟩
    · rw [hrun, h]
      exact congrArg Host.Outcome.next harrive
    · rw [hlinks]
      exact State.trackArrive_link hl
    · have hwindow : (task.hoists.get c).map Hoist.window = some (joinWindow hoist.window r.count) :=
        (State.taskArrive_window r x _).trans (State.weighArrive_window r hq (by
          simp only [track, State.trackArrive_keeps]
          exact hhoist))
      rw [hhoists]
      obtain ⟨h', hh', hw⟩ := Option.map_eq_some_iff.1 hwindow
      exact ⟨h', hh', hw⟩
    · refine State.collisionArrive_crane (s := task) r x (!l.link.isActive) (p := q) (k := k) ?_ ?_
      · simp only [task, weigh, State.taskArrive_keeps, State.weighArrive_keeps]
        exact hq
      · simp only [task, weigh, track, State.taskArrive_keeps, State.weighArrive_keeps, State.trackArrive_keeps]
        exact hk
    · exact hlsu.trans (State.trackArrive_lsu_swapped hq' hv ht)
    · exact hlsu.trans (State.trackArrive_lsu_same hkept)
    · simp only [State.arrive_keeps]
      rfl
    · simp only [State.arrive_keeps]
      rfl
    · simp only [State.arrive_keeps]
      rfl

end Sys2Proof
end

section
/-! SUPPORT. The loss of a link: the flags it leaves, the hold of its task, the claim that freezes (R92). -/

namespace Sys2Proof.Machine

section Lost

variable {s : State} {c : CraneId}

/-! ## The flags of other conditions -/

theorem State.foldl_flag {α : Type} {op : State → α → State} {f : FlagId}
    (h : ∀ (u : State) a, (op u a).fnu.flag f = u.fnu.flag f) (l : List α) (u : State) :
    (l.foldl op u).fnu.flag f = u.fnu.flag f := foldl_keeps op (fun v : State => v.fnu.flag f) h l u

theorem State.testPairs_flag {f : FlagId} (hlost : f ≠ .noticeLost) (hne : ∀ k, f ≠ .crane .orderConflict k) :
    (s.testPairs c).fnu.flag f = s.fnu.flag f := by
  rw [State.testPairs_eq, State.foldl_flag fun u k => State.flag_report_ne hlost (hne k) _ _]
  unfold State.formPairs
  cases s.below c <;> simp only [State.formPair_keeps]

theorem State.reportConds_flag {f : FlagId} (hlost : f ≠ .noticeLost) (hne : ∀ k, k = .cellSaturated ∨ k = .overload ∨
    k = .underload → f ≠ .crane k c) (was now : FreezeConds) :
    (s.reportConds c was now).fnu.flag f = s.fnu.flag f := by
  unfold State.reportConds
  rw [State.flag_report_ne hlost (hne _ (.inr (.inr rfl))), State.flag_report_ne hlost (hne _ (.inr (.inl rfl))),
    State.flag_report_ne hlost (hne _ (.inl rfl))]

theorem State.emptyWindow_of {h : Hoist} (hh : s.hoists.get c = some h) : s.emptyWindow c =
    ({ s with hoists := s.hoists.set c (some
        { h with window := [], conds := ⟨false, false, false⟩, result := .absent }) } : State).reportConds c h.conds
      ⟨false, false, false⟩ := by
  simp only [State.emptyWindow, hh, State.modHoist_of hh]

theorem State.emptyWindow_flag {f : FlagId} (hlost : f ≠ .noticeLost) (hne : ∀ k, k = .cellSaturated ∨
    k = .overload ∨ k = .underload → f ≠ .crane k c) : (s.emptyWindow c).fnu.flag f = s.fnu.flag f := by
  cases hh : s.hoists.get c with
  | none => simp only [State.emptyWindow, hh]
  | some h =>
    rw [State.emptyWindow_of hh]
    exact State.reportConds_flag hlost hne _ _

theorem State.holdInFlight_flag {f : FlagId} (hlost : f ≠ .noticeLost) (why : HoldReason) :
    (s.holdInFlight c why).fnu.flag f = s.fnu.flag f := by
  unfold State.holdInFlight
  split
  · rfl
  · split
    · rfl
    · exact Fnu.flag_offer_ne hlost

/-! ## The hold -/

/-- A task in flight written over stays in flight. -/
theorem State.inFlight?_advance {t u : Task} (h : s.inFlight? c = some t) (hid : u.id = t.id)
    (hphase : u.phase ≠ .queued) : (s.advance c u).inFlight? c = some u := by
  obtain ⟨-, rest, hq⟩ := State.inFlight?_iff.1 h
  refine State.inFlight?_iff.2 ⟨hphase, rest.map (fun x => if x.id = u.id then u else x), ?_⟩
  have hqueue : (s.advance c u).tcu.queues.get c =
      (s.tcu.queues.get c).map (fun x => if x.id = u.id then u else x) := Quad.get_set_same _ _ _
  rw [hqueue, hq, List.map_cons, if_pos hid.symm]

/-! ## The collision record -/

theorem State.evaluated_unlinked (h : s.linkActive c = false) (k : RcuCrane) :
    (s.evaluated c k).finalF = .stop ∧ (s.evaluated c k).finalR = .stop ∧ (s.evaluated c k).lower = false ∧
      (s.evaluated c k).runEnable = false := by
  have hcap : Cap.linkNotActive ∈ s.capsOf c (s.withDistances c k) :=
    State.mem_capsOf.2 (by simp [State.capHolds, h])
  refine ⟨capped_of_mem_stop rfl hcap _, capped_of_mem_stop rfl hcap _, ?_, ?_⟩
  · simp [State.evaluated, State.lowerAllowed, h]
  · simp [State.evaluated, State.runEnableOf, h]

/-- A crane's collision record has a property. -/
def State.CraneIs (s : State) (c : CraneId) (Q : RcuCrane → Prop) : Prop :=
  ∃ k, s.rcu.cranes.get c = some k ∧ Q k

theorem State.linkActive_evaluate (d e : CraneId) : (s.evaluate d).linkActive e = s.linkActive e := by
  unfold State.linkActive
  simp only [State.evaluate_keeps]

theorem State.linkActive_evaluateAll (cs : List CraneId) (e : CraneId) :
    (s.evaluateAll cs).linkActive e = s.linkActive e :=
  foldl_keeps State.evaluate (fun u : State => u.linkActive e) (fun _ _ => State.linkActive_evaluate _ _) cs s

theorem State.CraneIs.evaluateAll {Q : RcuCrane → Prop} (h : s.CraneIs c Q) (hl : s.linkActive c = false)
    (hQ : ∀ u : State, u.linkActive c = false → ∀ k, Q k → Q (u.evaluated c k)) (cs : List CraneId) :
    (s.evaluateAll cs).CraneIs c Q := by
  refine (List.foldlRecOn (motive := fun u : State => u.linkActive c = false ∧ u.CraneIs c Q) cs State.evaluate
    ⟨hl, h⟩ fun u hu d _ => ?_).2
  obtain ⟨hlink, k, hk, hq⟩ := hu
  refine ⟨(State.linkActive_evaluate d c).trans hlink, ?_⟩
  by_cases hd : c = d
  · subst hd
    exact ⟨u.evaluated c k, by rw [State.evaluate_cranes, if_pos rfl, hk]; rfl, hQ u hlink k hq⟩
  · exact ⟨k, by rw [State.evaluate_cranes, if_neg hd, hk], hq⟩

/-- A lost crane on the runway that is evaluated stands with its claim as it is. -/
theorem State.evaluateAll_unlinked {claim : Claim} (h : s.CraneIs c fun k => k.claim = claim)
    (hl : s.linkActive c = false) (cs : List CraneId) :
    (s.evaluateAll cs).CraneIs c fun k => k.claim = claim ∧
      (c ∈ cs → k.finalF = .stop ∧ k.finalR = .stop ∧ k.runEnable = false) := by
  have hclaim : ∀ (u : State) (k : RcuCrane), (u.evaluated c k).claim = k.claim := fun u k =>
    (u.evaluated_keeps k).2.2.2.1
  by_cases hc : c ∈ cs
  · obtain ⟨before, after, rfl⟩ := List.append_of_mem hc
    obtain ⟨k, hk, hq⟩ := h.evaluateAll hl (fun u _ k hk => (hclaim u k).trans hk) before
    have hlink : (s.evaluateAll before).linkActive c = false := (State.linkActive_evaluateAll _ _).trans hl
    have hstops : ∀ u : State, u.linkActive c = false → ∀ k, k.claim = claim →
        (u.evaluated c k).claim = claim ∧ (u.evaluated c k).finalF = .stop ∧
          (u.evaluated c k).finalR = .stop ∧ (u.evaluated c k).runEnable = false := fun u hu k hk =>
      have hidle := State.evaluated_unlinked hu k
      ⟨(hclaim u k).trans hk, hidle.1, hidle.2.1, hidle.2.2.2⟩
    have hself : State.CraneIs ((s.evaluateAll before).evaluate c) c fun k => k.claim = claim ∧
        k.finalF = .stop ∧ k.finalR = .stop ∧ k.runEnable = false :=
      ⟨_, by rw [State.evaluate_cranes, if_pos rfl, hk]; rfl, hstops _ hlink k hq⟩
    have hsplit : s.evaluateAll (before ++ c :: after) =
        ((s.evaluateAll before).evaluate c).evaluateAll after := by
      simp only [State.evaluateAll, List.foldl_append, List.foldl_cons]
    rw [hsplit]
    obtain ⟨k', hk', hcl, hstop⟩ := hself.evaluateAll ((State.linkActive_evaluate _ _).trans hlink)
      (fun u hu k h => hstops u hu k h.1) after
    exact ⟨k', hk', hcl, fun _ => hstop⟩
  · obtain ⟨k, hk, hq⟩ := h.evaluateAll hl (fun u _ k hk => (hclaim u k).trans hk) cs
    exact ⟨k, hk, hq, fun h => absurd h hc⟩

theorem State.cranesOn_congr {t : State} (hlsu : t.lsu.active = s.lsu.active)
    (hlinks : ∀ d, (t.links.get d).isSome = (s.links.get d).isSome) (r : RunwayId) :
    t.cranesOn r = s.cranesOn r := by
  unfold State.cranesOn
  exact congrArg (List.filterMap · _) (funext fun k => State.craneAt_congr hlsu hlinks r k)

end Lost

end Sys2Proof.Machine
end

section
/-! The settlement of O39: the loss of a link. -/

namespace Sys2Proof
open Machine

/-- Settles O39: the steps of the loss, each read at the end. -/
theorem linkIsLost : Obligations.LinkIsLost := by
  refine ⟨fun s c h => ?idle, fun s c l d p hl hd hp => ?lost⟩
  case idle =>
    simp only [exec, execLinkWatchdogExpiry]
    cases hl : s.links.get c with
    | none => rfl
    | some l =>
      cases hlink : l.link with
      | active d => exact absurd hlink (h l d hl)
      | silent => simp only [hlink]
      | lost => simp only [hlink]
  case lost =>
    let gone : CraneLink := { l with link := .lost, period := false, referenced := false, overCount := 0 }
    let s0 := s.reach d
    let s1 := s0.modLink c fun m => { m with link := .lost, period := false, referenced := false, overCount := 0 }
    let s2 := (s1.raise (.crane .linkLost c)).testPairs c
    let s3 := (s2.emptyWindow c).holdInFlight c .linkLost
    let s4 := s3.freezeClaim c
    let t := s0.loseLink c
    have hspares : State.Spares c s t := (s.setNow_spares c _).trans (State.loseLink_spares c s0)
    have htail : t.links = s2.links ∧ t.hoists = (s2.emptyWindow c).hoists ∧ t.tcu = s3.tcu := by
      refine ⟨?_, ?_, ?_⟩ <;> simp only [t, State.loseLink, State.notify_keeps, State.evaluateOf_keeps,
        State.freezeClaim_keeps, State.holdInFlight_keeps, State.emptyWindow_keeps] <;> rfl
    obtain ⟨hlinks, hhoists, htcu⟩ := htail
    have hs1 : s1.links.get c = some gone := by
      rw [State.links_modLink_get, if_pos rfl]
      exact congrArg (Option.map _) hl
    have hpairs : ∀ e, (s2.links.get e).map CraneLink.unpaired = (s1.links.get e).map CraneLink.unpaired :=
      fun e => (State.testPairs_map (fun _ _ => rfl) e).trans (by simp only [State.raise_keeps])
    obtain ⟨m, hm, hunpaired⟩ : ∃ m, s2.links.get c = some m ∧ m.unpaired = gone.unpaired :=
      Option.map_eq_some_iff.1 ((hpairs c).trans (congrArg _ hs1))
    have hs2 : s2.hoists = s.hoists ∧ s2.tcu = s.tcu ∧ s2.rcu = s.rcu ∧ s2.lsu = s.lsu := by
      refine ⟨?_, ?_, ?_, ?_⟩ <;> simp only [s2, State.testPairs_keeps, State.raise_keeps] <;> rfl
    obtain ⟨hhoists2, htcu2, hrcu2, hlsu2⟩ := hs2
    have hlost : FlagId.crane .linkLost c ≠ .noticeLost := by simp
    have hflag : t.fnu.flag (.crane .linkLost c) = ((s1.fnu.flag (.crane .linkLost c)).raised true) := by
      have hnotice : t.fnu.flag (.crane .linkLost c) = s3.fnu.flag (.crane .linkLost c) := by
        refine (Fnu.flag_offer_ne hlost).trans ?_
        simp only [State.evaluateOf_keeps, State.freezeClaim_keeps]
        rfl
      rw [hnotice, State.holdInFlight_flag hlost,
        State.emptyWindow_flag hlost (by rintro k (rfl | rfl | rfl) <;> simp),
        State.testPairs_flag hlost (by simp)]
      exact Fnu.flag_raise_same hlost
    refine ⟨t, ?_, ?_, ⟨m, ?_, ?_⟩, ⟨?_, ?_⟩, fun h hh => ?_, fun x hx => ?_, fun k q hk hq => ?_,
      ⟨_, rfl⟩, fun e he => ⟨hspares.hoists e he, hspares.queues e he⟩, ?_, ?_, ?_, ?_, hspares.lines, hspares.inputs,
      hspares.outputs, ?_⟩
    · simp only [exec, execLinkWatchdogExpiry, hl, hd]
      rfl
    · simp only [t, State.loseLink_keeps]
      rfl
    · rw [hlinks, hm]
    · exact ⟨(congrArg CraneLink.link hunpaired :), (congrArg CraneLink.period hunpaired :),
        (congrArg CraneLink.referenced hunpaired :), (congrArg CraneLink.overCount hunpaired :),
        (congrArg CraneLink.overspeed hunpaired :), (congrArg CraneLink.last hunpaired :),
        (congrArg CraneLink.correction hunpaired :), (congrArg CraneLink.driveFault hunpaired :)⟩
    · unfold Fnu.isSet
      rw [hflag, Flag.raised_count]
    · rw [hflag, Flag.raised_live]
    · rw [hhoists, State.emptyWindow_of (h := h) (by rw [hhoists2, hh])]
      simp only [State.reportConds_keeps, Quad.get_set_same]
      exact ⟨_, rfl, rfl, rfl, rfl, rfl, rfl, rfl⟩
    · have hflight : (s2.emptyWindow c).inFlight? c = some x := by
        rw [← hx]
        unfold State.inFlight?
        simp only [State.emptyWindow_keeps, htcu2]
      have hheld : s3.inFlight? c = some (x.heldWith .linkLost x.phase none) := by
        have hstep : s3 = (s2.emptyWindow c).advance c (x.heldWith .linkLost x.phase none) :=
          State.holdInFlight_some hflight fun h => absurd h (by decide)
        rw [hstep]
        exact State.inFlight?_advance hflight rfl (State.inFlight?_iff.1 hflight).1
      refine .trans ?_ hheld
      unfold State.inFlight?
      rw [htcu]
    · have hrcu3 : s3.rcu = s.rcu := by
        simp only [s3, State.holdInFlight_keeps, State.emptyWindow_keeps, hrcu2]
      have hlsu3 : s3.lsu = s.lsu := by
        simp only [s3, State.holdInFlight_keeps, State.emptyWindow_keeps, hlsu2]
      have hlinks4 : s4.links = s2.links := by
        simp only [s4, s3, State.freezeClaim_keeps, State.holdInFlight_keeps, State.emptyWindow_keeps]
      have hlsu4 : s4.lsu = s.lsu := by simp only [s4, State.freezeClaim_keeps, hlsu3]
      have hclaim : s4.CraneIs c fun k => k.claim = frozenClaim p q.p := by
        simp only [s4, State.freezeClaim, hlsu3, hp, State.modCrane_of (show s3.rcu.cranes.get c = some k by
          rw [hrcu3, hk]), hq]
        exact ⟨_, Quad.get_set_same _ _ _, rfl⟩
      have hlink : s4.linkActive c = false := by
        have hm' : m.link = .lost := congrArg CraneLink.link hunpaired
        simp only [State.linkActive, hlinks4, hm, hm']
      have hon : s4.cranesOn p.runway = s.cranesOn p.runway := by
        refine State.cranesOn_congr (by rw [hlsu4]) (fun e => ?_) _
        rw [hlinks4]
        have hsome : (s2.links.get e).isSome = (s1.links.get e).isSome := by
          simpa using congrArg Option.isSome (hpairs e)
        rw [hsome, State.links_modLink_get]
        split
        · exact Option.isSome_map
        · rfl
      obtain ⟨k', hk', hcl, hstop⟩ := State.evaluateAll_unlinked hclaim hlink (s4.cranesOn p.runway)
      refine ⟨k', ?_, hcl, fun hc => hstop (hon ▸ hc)⟩
      have hend : t.rcu = (s4.evaluateAll (s4.cranesOn p.runway)).rcu := by
        have hrunway : s4.craneRunway c = some p.runway := by simp only [State.craneRunway, hlsu4, hp, Option.map_some]
        have hstep : s4.evaluateOf c = s4.evaluateAll (s4.cranesOn p.runway) := by
          simp only [State.evaluateOf, hrunway, State.evaluateRunway]
        rw [← hstep]
        simp only [t, State.loseLink, State.notify_keeps]
        rfl
      rw [hend, hk']
    all_goals
      simp only [t, State.loseLink_keeps]
      rfl

end Sys2Proof
end

section
/-! SUPPORT. Zeroing, the countdown to the next zero and the automatic zero (06). -/

namespace Sys2Proof.Machine

section Zero

variable {s : State} {c : CraneId} {h : Hoist} {p : ParamSet}

theorem Grab.isOpen_iff (g : Grab) : g.isOpen = true ↔ g = .opened := by
  cases g <;> decide

theorem State.grabOpen_iff : s.grabOpen c = true ↔
    ∃ l q, s.links.get c = some l ∧ l.last = some q ∧ q.record.grab = .opened := by
  unfold State.grabOpen
  cases hl : s.links.get c with
  | none => simp
  | some l =>
    cases hq : l.last with
    | none => simp [hq]
    | some q => simp [hq, Grab.isOpen_iff]

theorem Hoist.countDown_zeroed (hz : h.state = .zeroed) : h.countDown =
    { h with counter := h.counter - 1, state := if h.counter ≤ 1 then .due else .zeroed } := by
  have hzero : (h.counter - 1 = 0) = (h.counter ≤ 1) := propext (by omega)
  simp only [Hoist.countDown, hz, hzero]

theorem Hoist.countDown_other (hz : h.state ≠ .zeroed) : h.countDown = h := by
  unfold Hoist.countDown
  split
  · next hstate => exact absurd hstate hz
  all_goals rfl

theorem inZeroBand_iff {capacity : Nat} {kg : Int} :
    inZeroBand capacity kg = true ↔ kg.natAbs ≤ capacity * 2 / 100 :=
  decide_eq_true_iff

/-- The hoist as a zero leaves it (R110). -/
def Hoist.zeroedBy (h : Hoist) (z : ZeroTaken) : Hoist := { h with z := z.z, state := .zeroed, counter := z.loaded }

theorem State.takeZero_of (hh : s.hoists.get c = some h) (cause : ZeroCause) :
    s.takeZero c h cause =
      let z := h.zeroTaken c cause s.lsu.settings.rezeroCount
      { s with hoists := s.hoists.set c (some (h.zeroedBy z)), fnu := s.fnu.offer (.zeroTaken z) } :=
  congrArg (State.notify · _) (State.modHoist_of hh _)

theorem State.zero_reformed (hh : s.hoists.get c = some h) (cause : ZeroCause) :
    (s.takeZero c h cause).reform c p =
      let z := h.zeroTaken c cause s.lsu.settings.rezeroCount
      { s with
        hoists := s.hoists.set c (some
          { h.zeroedBy z with result := (h.zeroedBy z).form p.gain s.lsu.settings.stabilityBand true })
        fnu := s.fnu.offer (.zeroTaken z) } := by
  rw [State.takeZero_of hh]
  unfold State.reform
  rw [State.modHoist_of (Quad.get_set_same _ _ _), Quad.set_set]

/-- The judging of a zero once its crane is read (R109, R110). -/
theorem ownZero_of (hh : s.hoists.get c = some h) (hp : s.lsu.active.get c = some p) (force : Bool) :
    ownZero s ⟨numVal c, .known force⟩ = (do
      require (s.grabOpen c) .stateConflict (numVal c)
      requireNone (h.frozen.map fun f => ⟨.conditionActive, f.cause.bits⟩)
      require (h.form p.gain s.lsu.settings.stabilityBand true).steady .notSteady h.window.length
      require (force || h.state == .unzeroed ||
          inZeroBand p.capacity ((h.form p.gain s.lsu.settings.stabilityBand true).filtered.getD 0)) .zeroOutOfRange
        (min ((h.form p.gain s.lsu.settings.stabilityBand true).filtered.getD 0).natAbs 65535)
      .ok ((s.takeZero c h (if force then .forced else .manual)).reform c p,
        .zeroTaken (h.zeroTaken c (if force then .forced else .manual) s.lsu.settings.rezeroCount))) := by
  simp only [ownZero, readNum_numVal, readCoded_known, hh, hp, requireSome_some, except_ok_bind]
  rfl

theorem State.autoZero_eq (hh : s.hoists.get c = some h) (g : Bool) : s.autoZero c p g =
    if h.state = .due ∧ g = true ∧ (h.form p.gain s.lsu.settings.stabilityBand g).steady = true ∧ h.frozen = none then
      if inZeroBand p.capacity ((h.form p.gain s.lsu.settings.stabilityBand g).filtered.getD 0) then
        s.takeZero c h .auto
      else (s.modHoist c fun h => { h with state := .stale }).raise (.crane .zeroDrift c)
    else s := by
  simp only [State.autoZero, hh]

theorem State.emptyWindow_quiet (hh : s.hoists.get c = some h) (hc : h.conds = ⟨false, false, false⟩) :
    s.emptyWindow c =
      { s with hoists := s.hoists.set c (some { h with window := [], result := .absent }) } := by
  rw [State.emptyWindow_of hh, hc]
  have hsame : { h with window := [], conds := ⟨false, false, false⟩, result := .absent } =
      { h with window := [], result := .absent } := by rw [← hc]
  rw [hsame]
  rfl

end Zero

end Sys2Proof.Machine
end

section
/-! The settlement of O42: zeroing and the weigh reset. -/

namespace Sys2Proof
open Machine

/-- Settles O42: the refusals of a zero in their order, its effect, the reset, and the automatic zero. -/
theorem zeroAndWeighReset : Obligations.ZeroAndWeighReset := by
  refine ⟨fun tag c force h p s s0 ha hh hp => ?zero, fun tag c h s s0 ha hh => ?reset,
    fun s c => State.grabOpen_iff, fun h => ⟨Hoist.countDown_zeroed, Hoist.countDown_other⟩,
    fun s c p g h hh => ?auto, fun s c p r hp => ?arrive⟩
  case zero =>
    intro w kg refuse z zeroed
    have hrefuse : ∀ code detail, ownZero s0 ⟨numVal c, .known force⟩ = .error ⟨code, detail⟩ →
        refuse code detail := fun code detail ho => congrArg Host.Outcome.next (State.serve_nak noSelector ha ho)
    refine ⟨fun hg => hrefuse _ _ ?_, fun hg => ⟨fun f hf => hrefuse _ _ ?_, fun hf => ⟨fun hw => hrefuse _ _ ?_,
      fun hw => ⟨fun hforce hstate hkg => hrefuse _ _ ?_, fun hok => ?_⟩⟩⟩⟩
    · rw [ownZero_of hh hp]
      simp only [hg, require_false, except_error_bind]
    · rw [ownZero_of hh hp]
      simp only [hg, hf, require_true, except_ok_bind, Option.map_some, requireNone_some, except_error_bind]
    · rw [ownZero_of hh hp]
      simp only [hg, hf, require_true, except_ok_bind, Option.map_none, requireNone_none]
      rw [show (h.form p.gain s0.lsu.settings.stabilityBand true).steady = false from hw]
      rfl
    · have hout : (force || h.state == .unzeroed || inZeroBand p.capacity kg) = false := by
        have hband : inZeroBand p.capacity kg = false :=
          Bool.eq_false_iff.2 fun hin => Nat.not_le.2 hkg (inZeroBand_iff.1 hin)
        simp [hforce, hstate, hband]
      rw [ownZero_of hh hp]
      simp only [hg, hf, require_true, except_ok_bind, Option.map_none, requireNone_none]
      rw [show (h.form p.gain s0.lsu.settings.stabilityBand true).steady = true from hw]
      simp only [require_true, except_ok_bind]
      rw [show (force || h.state == .unzeroed ||
        inZeroBand p.capacity ((h.form p.gain s0.lsu.settings.stabilityBand true).filtered.getD 0)) = false from hout]
      rfl
    · have hin : (force || h.state == .unzeroed || inZeroBand p.capacity kg) = true := by
        rcases hok with hforce | hstate | hkg
        · simp [hforce]
        · simp [hstate]
        · simp [inZeroBand_iff.2 hkg]
      refine congrArg Host.Outcome.next (State.serve_ack noSelector ha ?_)
      rw [ownZero_of hh hp]
      simp only [hg, hf, require_true, except_ok_bind, Option.map_none, requireNone_none]
      rw [show (h.form p.gain s0.lsu.settings.stabilityBand true).steady = true from hw]
      simp only [require_true, except_ok_bind]
      rw [show (force || h.state == .unzeroed ||
        inZeroBand p.capacity ((h.form p.gain s0.lsu.settings.stabilityBand true).filtered.getD 0)) = true from hin]
      rw [State.zero_reformed hh]
      rfl
  case reset =>
    refine ⟨fun hc => ?_, fun hc => ?_⟩
    · have hany : (!h.conds.any) = false := by
        rw [FreezeConds.any_iff.2 hc]
        rfl
      refine congrArg Host.Outcome.next (State.serve_nak noSelector ha ?_)
      simp only [ownWeighReset, readNum_numVal, hh, requireSome_some, except_ok_bind, hany, require_false,
        except_error_bind]
    · have hany : (!h.conds.any) = true := by
        rw [hc]
        rfl
      refine congrArg Host.Outcome.next (State.serve_ack noSelector ha ?_)
      simp only [ownWeighReset, readNum_numVal, hh, requireSome_some, except_ok_bind, hany, require_true]
      rw [State.emptyWindow_quiet hh hc, State.modHoist_of (Quad.get_set_same _ _ _), Quad.set_set]
  case auto =>
    intro ws attempts near z
    have hattempts : (h.state = .due ∧ g = true ∧ (h.form p.gain s.lsu.settings.stabilityBand g).steady = true ∧
        h.frozen = none) ↔ attempts := by
      rw [Hoist.form_steady_iff]
      exact ⟨fun ⟨h1, h2, ⟨h3, h4⟩, h5⟩ => ⟨h1, h2, h3, h4, h5⟩, fun ⟨h1, h2, h3, h4, h5⟩ => ⟨h1, h2, ⟨h3, h4⟩, h5⟩⟩
    have hkg : attempts → ((h.form p.gain s.lsu.settings.stabilityBand g).filtered.getD 0) =
        roundHalfAway ws.sum 8 := fun hat => by
      rw [Hoist.form_filtered_of_full _ _ _ hat.2.2.1]
      rfl
    rw [State.autoZero_eq hh]
    refine ⟨fun hno => if_neg fun hyes => hno (hattempts.1 hyes), fun hat hnear => ?_, fun hat hfar => ?_⟩
    · have hdue : h.state = .due := hat.1
      rw [if_pos (hattempts.2 hat), hkg hat, if_pos (inZeroBand_iff.2 hnear), State.takeZero_of hh]
      simp only [Hoist.zeroTaken, Hoist.zeroedBy, hdue]
      rfl
    · rw [if_pos (hattempts.2 hat), hkg hat, if_neg fun hin => hfar (inZeroBand_iff.1 hin), State.modHoist_of hh]
  case arrive =>
    intro joined zeroed
    have hband : zeroed.lsu.settings.stabilityBand = s.lsu.settings.stabilityBand := by
      simp only [zeroed, joined, State.autoZero_keeps, State.weighFreeze_keeps]
      rfl
    simp only [State.weighArrive, hp]
    rw [← hband]
    rfl

end Sys2Proof
end

section
/-! SUPPORT. Stopping distances and the classes they allow (R123, R129). -/

namespace Sys2Proof.Machine

theorem ceilDiv_spec {n d : Nat} (hd : 0 < d) :
    n ≤ d * ceilDiv n d ∧ (0 < n → d * (ceilDiv n d - 1) < n) ∧ (n = 0 → ceilDiv n d = 0) := by
  have hsplit := Nat.div_add_mod (n + d - 1) d
  have hmod := Nat.mod_lt (n + d - 1) hd
  unfold ceilDiv
  refine ⟨by omega, fun hn => ?_, fun hn => ?_⟩
  · have hone : d * ((n + d - 1) / d - 1) = d * ((n + d - 1) / d) - d := by rw [Nat.mul_sub, Nat.mul_one]
    omega
  · exact Nat.div_eq_of_lt (by omega)

theorem ParamSet.stopDist_mono (p : ParamSet) {v w : Nat} (h : v ≤ w) : p.stopDist v ≤ p.stopDist w := by
  unfold ParamSet.stopDist ceilDiv
  have hsquare : v * v ≤ w * w := Nat.mul_le_mul h h
  exact Nat.add_le_add (Nat.div_le_div_right (Nat.mul_le_mul_right _ h)) (Nat.div_le_div_right (by omega))

theorem ParamSet.stopDist_zero {p : ParamSet} (h : 0 < p.decel) : p.stopDist 0 = 0 := by
  unfold ParamSet.stopDist
  rw [(ceilDiv_spec (n := 0 * 0) (Nat.mul_pos Nat.two_pos h)).2.2 rfl, Nat.zero_mul, Nat.zero_div]

theorem ParamSet.thresholds_rise {p : ParamSet} (h : p.ordered) : p.dCreep ≤ p.dSlow ∧ p.dSlow ≤ p.dFull := by
  obtain ⟨hcreep, hslow, -⟩ := h
  exact ⟨p.stopDist_mono hcreep, p.stopDist_mono hslow⟩

theorem obstructs_iff {passHeight : Nat} {m : Motion} {z : Zone} : obstructs passHeight m z = true ↔
    m.h < passHeight ∧ z.closed = true ∨ m.closed = true ∧ z.manned = true := by
  simp [obstructs]

theorem insideZone_iff {m : Motion} {g : BayGeom} :
    insideZone m g = true ↔ (g.xLo : Int) ≤ m.p ∧ m.p ≤ (g.xHi : Int) := by
  simp [insideZone]

theorem ParamSet.classOf_iff {p : ParamSet} (a : Nat) (h : p.ordered) :
    (p.classOf a = .full ↔ p.dFull ≤ a) ∧ (p.classOf a = .slow ↔ p.dSlow ≤ a ∧ a < p.dFull) ∧
      (p.classOf a = .creep ↔ p.dCreep ≤ a ∧ a < p.dSlow) ∧ (p.classOf a = .stop ↔ a < p.dCreep) := by
  obtain ⟨hcs, hsf⟩ := ParamSet.thresholds_rise h
  unfold ParamSet.classOf
  split_ifs <;> simp <;> omega

theorem rank_classMin (a b : Class) : (a.min b).rank = min a.rank b.rank := by
  unfold Class.min
  split
  · next h => exact (Nat.min_eq_left h).symm
  · next h => exact (Nat.min_eq_right (by omega)).symm

theorem Class.min_eq (a b : Class) : a.min b = a ∨ a.min b = b := by
  unfold Class.min
  split
  · exact .inl rfl
  · exact .inr rfl

/-- The final class is the lowest of a class and the caps (R130). -/
theorem capped_spec (k : Class) (caps : List Cap) :
    (capped k caps).rank ≤ k.rank ∧ (∀ x ∈ caps, (capped k caps).rank ≤ x.class.rank) ∧
      (capped k caps = k ∨ ∃ x ∈ caps, capped k caps = x.class) := by
  induction caps generalizing k with
  | nil => exact ⟨Nat.le_refl _, by simp, .inl rfl⟩
  | cons cap rest ih =>
    obtain ⟨hle, hall, hsome⟩ := ih (k.min cap.class)
    rw [rank_classMin] at hle
    have hcons : capped k (cap :: rest) = capped (k.min cap.class) rest := rfl
    rw [hcons]
    refine ⟨by omega, List.forall_mem_cons.2 ⟨by omega, hall⟩, ?_⟩
    rcases hsome with heq | ⟨x, hx, heq⟩
    · rcases Class.min_eq k cap.class with hmin | hmin
      · exact .inl (heq.trans hmin)
      · exact .inr ⟨cap, List.mem_cons_self, heq.trans hmin⟩
    · exact .inr ⟨x, List.mem_cons_of_mem _ hx, heq⟩

theorem ParamSet.speed_mono {p : ParamSet} (h : p.ordered) {a b : Class} (hab : a.rank ≤ b.rank) :
    p.speed a ≤ p.speed b := by
  obtain ⟨hcreep, hslow, -⟩ := h
  cases a <;> cases b <;> simp only [Class.rank, ParamSet.speed] at hab ⊢ <;> omega

/-- A class at or below the computed one stops within the distance it was computed for (R129). -/
theorem ParamSet.stopDist_of_class {p : ParamSet} (h : p.ordered) {k : Class} {a : Nat}
    (hk : k.rank ≤ (p.classOf a).rank) : p.stopDist (p.speed k) ≤ a := by
  have hdecel : 0 < p.decel := by
    obtain ⟨-, -, -, hd, -⟩ := h
    omega
  refine Nat.le_trans (p.stopDist_mono (ParamSet.speed_mono h hk)) ?_
  obtain ⟨hfull, hslow, hcreep, -⟩ := ParamSet.classOf_iff a h
  cases hc : p.classOf a with
  | full => exact hfull.1 hc
  | slow => exact (hslow.1 hc).1
  | creep => exact (hcreep.1 hc).1
  | stop =>
    show p.stopDist 0 ≤ a
    rw [ParamSet.stopDist_zero hdecel]
    exact Nat.zero_le a

end Sys2Proof.Machine
end

section
/-! The settlement of O43: stopping distances, claims, zones and computed classes. -/

namespace Sys2Proof
open Machine

/-- Settles O43: the rounding up of the braking distance, the order of the thresholds, and the tests as they
read. -/
theorem stoppingDistanceAndClaims : Obligations.StoppingDistanceAndClaims := by
  refine ⟨fun p v hd => ?_, fun p h => ParamSet.thresholds_rise h, fun _ _ _ => rfl,
    fun _ _ _ _ => ⟨obstructs_iff, insideZone_iff⟩, fun p a h => ParamSet.classOf_iff a h⟩
  obtain ⟨habove, hleast, hzero⟩ := ceilDiv_spec (n := v * v) (d := 2 * p.decel) (by omega)
  exact ⟨ceilDiv (v * v) (2 * p.decel), rfl, habove, fun hv => hleast (Nat.mul_pos hv hv),
    fun hv => hzero (by rw [hv])⟩

end Sys2Proof
end

section
/-! SUPPORT. The conditions an evaluation reads, each by what it says of the records (R127 to R133). -/

namespace Sys2Proof.Machine

section Conditions

variable {s : State} {c : CraneId} {k : RcuCrane}

theorem State.linkActive_false_iff :
    s.linkActive c = false ↔ ∀ l d, s.links.get c = some l → l.link ≠ .active d := by
  rw [← Bool.not_eq_true, State.linkActive_iff]
  exact ⟨fun h l d hl hd => h ⟨l, d, hl, hd⟩, fun h ⟨l, d, hl, hd⟩ => h l d hl hd⟩

theorem State.estopOf_iff : s.estopOf c = true ↔
    ∃ p v, s.lsu.active.get c = some p ∧ s.rcu.views.get p.runway = some v ∧ v.estop = true := by
  unfold State.estopOf
  cases hp : s.lsu.active.get c with
  | none => simp
  | some p => cases hv : s.rcu.views.get p.runway <;> simp [hv]

theorem State.orderConflict_iff : s.orderConflict c = true ↔
    (∃ l, s.links.get c = some l ∧ l.pairAbove = true) ∨
      ∃ b l, s.below c = some b ∧ s.links.get b = some l ∧ l.pairAbove = true := by
  unfold State.orderConflict
  rw [Bool.or_eq_true]
  refine or_congr ?_ ?_
  · cases s.links.get c <;> simp
  · cases hb : s.below c with
    | none => simp
    | some b => cases hl : s.links.get b <;> simp [hl]

theorem State.driveFault_iff : s.driveFault c = true ↔ ∃ l, s.links.get c = some l ∧ l.driveFault = true := by
  unfold State.driveFault
  cases s.links.get c <;> simp

theorem State.insideObstructing_iff : s.insideObstructing c k = true ↔ ∃ m, k.motion = some m ∧
    ∃ z ∈ s.craneZones c, insideZone m z.2.1 = true ∧ obstructs s.lsu.settings.passHeight m z.2.2 = true := by
  unfold State.insideObstructing
  cases k.motion <;> simp

theorem State.wantsLower_iff : s.wantsLower c = true ↔
    ∃ t, s.inFlight? c = some t ∧ t.hold = none ∧ (t.phase = .picking ∨ t.phase = .placing) := by
  unfold State.wantsLower
  cases s.inFlight? c with
  | none => simp
  | some t => simp [Task.held]

theorem State.lowerAllowed_iff : s.lowerAllowed c k = true ↔
    s.linkActive c = true ∧ s.tcu.halts.get c = none ∧
      (∃ t, s.inFlight? c = some t ∧ t.hold = none ∧ (t.phase = .picking ∨ t.phase = .placing)) ∧
      ∃ m, k.motion = some m ∧
        ∀ z ∈ s.craneZones c, ¬ (insideZone m z.2.1 = true ∧ z.2.2.closed = true) := by
  rw [← State.wantsLower_iff]
  unfold State.lowerAllowed
  cases k.motion with
  | none => simp
  | some m =>
    simp only [Bool.and_eq_true, Option.isNone_iff_eq_none, List.all_eq_true, Bool.not_eq_true', Bool.and_eq_false_iff,
      not_and, Bool.not_eq_true, Option.some.injEq, exists_eq_left']
    refine ⟨fun ⟨⟨⟨hl, hw⟩, hh⟩, hz⟩ => ⟨hl, hh, hw, fun z hmem hin => ?_⟩,
      fun ⟨hl, hh, hw, hz⟩ => ⟨⟨⟨hl, hw⟩, hh⟩, fun z hmem => ?_⟩⟩
    · exact (hz z hmem).resolve_left (by rw [hin]; decide)
    · cases hin : insideZone m z.2.1 with
      | false => exact .inl rfl
      | true => exact .inr (hz z hmem hin)

theorem State.runEnableOf_iff : s.runEnableOf c k = true ↔
    s.lsu.stage ≠ .config ∧ s.linkActive c = true ∧ k.awaiting = false ∧ s.estopOf c = false ∧
      s.tcu.halts.get c ≠ some .hard ∧ s.fnu.isSet (.crane .overspeed c) = false ∧ s.orderConflict c = false := by
  simp [State.runEnableOf, and_assoc]

theorem State.withDistances_unlinked (h : s.linkActive c = false) (k : RcuCrane) : s.withDistances c k = k := by
  unfold State.withDistances
  rw [h]

/-- The length of the runway that an evaluation reads. -/
def State.lengthOf (s : State) (r : RunwayId) : Nat :=
  match s.rcu.views.get r with | some v => v.length | none => 0

theorem State.withDistances_linked {p : ParamSet} {m : Motion} (hl : s.linkActive c = true)
    (hp : s.lsu.active.get c = some p) (hm : k.motion = some m) : s.withDistances c k =
      { k with
        availF := s.availForward c p m k.swing (s.lengthOf p.runway), availR := s.availReverse c p m k.swing
        compF := p.classOf (s.availForward c p m k.swing (s.lengthOf p.runway))
        compR := p.classOf (s.availReverse c p m k.swing) } := by
  simp only [State.withDistances, hl, hp, hm]
  rfl

theorem State.mem_cranesOn {r : RunwayId} (h : c ∈ s.cranesOn r) :
    ∃ l p, s.links.get c = some l ∧ s.lsu.active.get c = some p ∧ p.runway = r := by
  obtain ⟨n, -, hn⟩ := List.mem_filterMap.1 h
  obtain ⟨l, p, hl, hp, hr, -⟩ := State.craneAt_some hn
  exact ⟨l, p, hl, hp, hr⟩

theorem State.mem_cranesOn_of {r : RunwayId} {l : CraneLink} {p : ParamSet} (hl : s.links.get c = some l)
    (hp : s.lsu.active.get c = some p) (hr : p.runway = r) (hfirst : 1 ≤ p.order) (hlast : p.order ≤ 3)
    (hone : ∀ d q, s.lsu.active.get d = some q → q.runway = r → q.order = p.order → d = c) :
    c ∈ s.cranesOn r := by
  have horder : p.order ∈ [1, 2, 3] := by
    have : p.order = 1 ∨ p.order = 2 ∨ p.order = 3 := by omega
    simpa using this
  refine List.mem_filterMap.2 ⟨p.order, horder, ?_⟩
  cases hat : s.craneAt r p.order with
  | none => exact absurd ⟨l, p, hl, hp, hr, rfl⟩ (State.craneAt_none hat c)
  | some d =>
    obtain ⟨_, q, -, hq, hqr, hqo⟩ := State.craneAt_some hat
    rw [hone d q hq hqr hqo]

end Conditions

end Sys2Proof.Machine
end

section
/-! The settlement of O44: the evaluation of a crane. -/

namespace Sys2Proof
open Machine

/-- Settles O44: the caps by their conditions, the lowest class, lowering and RUN_ENABLE, and the distances the
classes stop within. -/
theorem evaluationOfACrane : Obligations.EvaluationOfACrane := by
  refine ⟨fun s c k => ?crane, fun s c k l d p m load v hl hd hp hm hload hv => ?linked, fun s c k hdown => ?unlinked,
    fun s c => ⟨State.linkActive_iff, State.estopOf_iff, State.orderConflict_iff⟩, fun s r => ⟨rfl, rfl⟩,
    fun s r c => ⟨State.mem_cranesOn, fun l p hl hp hr h1 h3 hone => State.mem_cranesOn_of hl hp hr h1 h3 hone⟩⟩
  case crane =>
    intro e
    have hcap : ∀ cap, cap ∈ e.caps ↔ s.capHolds c (s.withDistances c k) cap = true := fun _ => State.mem_capsOf
    obtain ⟨hmotion, -, href, -, hawaiting⟩ := s.withDistances_keeps c k
    obtain ⟨hleF, hallF, hsomeF⟩ := capped_spec e.compF e.caps
    obtain ⟨hleR, hallR, hsomeR⟩ := capped_spec e.compR e.caps
    refine ⟨(hcap _).trans beq_iff_eq, ?linkNotActive, ?awaiting, (hcap _).trans State.estopOf_iff, ?halt,
      (hcap _).trans State.orderConflict_iff, ?overspeed, (hcap _).trans State.driveFault_iff,
      (hcap _).trans beq_iff_eq, ?unreferenced, ?insideZone, List.filter_sublist, fun x => ?_, ⟨hleF, hleR⟩,
      fun x hx => ⟨hallF x hx, hallR x hx⟩, hsomeF, hsomeR, ?lower, ?run, fun p m hp hm hl hord => ?_,
      s.evaluated_keeps k⟩
    case linkNotActive =>
      rw [hcap, ← State.linkActive_false_iff]
      exact iff_of_eq (Bool.not_eq_true' _)
    case awaiting =>
      rw [hcap, ← hawaiting]
      exact Iff.rfl
    case halt =>
      rw [hcap]
      exact Option.isSome_iff_ne_none
    case overspeed =>
      rw [hcap]
      exact Option.isSome_iff_ne_none
    case unreferenced =>
      rw [hcap, ← href]
      exact iff_of_eq (Bool.not_eq_true' _)
    case insideZone =>
      rw [hcap, ← hmotion]
      exact State.insideObstructing_iff
    · cases x <;> decide
    case lower =>
      rw [← hmotion]
      exact State.lowerAllowed_iff
    case run =>
      rw [← hawaiting]
      exact State.runEnableOf_iff
    · have hlinked := State.withDistances_linked hl hp hm
      have hF : e.compF = p.classOf e.availF := by simp only [e, State.evaluated, hlinked]
      have hR : e.compR = p.classOf e.availR := by simp only [e, State.evaluated, hlinked]
      exact ⟨ParamSet.stopDist_of_class hord (hF ▸ hleF), ParamSet.stopDist_of_class hord (hR ▸ hleR)⟩
  case linked =>
    intro e swing
    have hswing : k.swing = swing := by
      simp only [RcuCrane.swing, hload]
      cases load <;> rfl
    have hlength : s.lengthOf p.runway = v.length := by simp only [State.lengthOf, hv]
    have hlinked := State.withDistances_linked (State.linkActive_iff.2 ⟨l, d, hl, hd⟩) hp hm
    rw [hswing, hlength] at hlinked
    simp only [e, State.evaluated, hlinked, and_self]
  case unlinked =>
    intro e
    have hlink := State.linkActive_false_iff.2 hdown
    have hsame : e.availF = k.availF ∧ e.availR = k.availR ∧ e.compF = k.compF ∧ e.compR = k.compR := by
      simp only [e, State.evaluated, State.withDistances_unlinked hlink, and_self]
    exact ⟨hsame, State.evaluated_unlinked hlink k⟩

end Sys2Proof
end

section
/-! SUPPORT. The terms of the available distances (Table 7-4) and what an evaluation withdraws (R90). -/

namespace Sys2Proof.Machine

/-- A distance is the least of some terms, floored at 0, where its list holds them. -/
theorem leastTerm_of_mem {first : Int} {rest : List Int} {term : Int → Prop}
    (hmem : ∀ x, x ∈ first :: rest ↔ term x) :
    (∃ x, term x ∧ (leastTerm first rest : Int) = max 0 x) ∧ ∀ x, term x → (leastTerm first rest : Int) ≤ max 0 x := by
  obtain ⟨⟨x, hx, heq⟩, hle⟩ := leastTerm_spec first rest
  exact ⟨⟨x, (hmem x).1 hx, heq⟩, fun y hy => hle y ((hmem y).2 hy)⟩

section Distances

variable {s : State} {c : CraneId} {p : ParamSet}

theorem Claim.rear?_of {claim : Claim} {a b : Int} (h : claim = .live a b ∨ claim = .frozen a b) :
    claim.rear? = some b ∧ claim.front? = some a := by
  rcases h with rfl | rfl <;> exact ⟨rfl, rfl⟩

/-- The terms of the zones ahead of a crane. -/
def State.zonesAhead (s : State) (p : ParamSet) (m : Motion) (swing : Nat) : List Int :=
  (s.zonesOn p.runway).filterMap fun (_, g, z) =>
    if obstructs s.lsu.settings.passHeight m z && m.p < (g.xLo : Int) then
      some ((g.xLo : Int) - m.p - (swing : Int) - (s.lsu.settings.gap : Int)) else none

/-- The terms of the zones behind a crane. -/
def State.zonesBehind (s : State) (p : ParamSet) (m : Motion) (swing : Nat) : List Int :=
  (s.zonesOn p.runway).filterMap fun (_, g, z) =>
    if obstructs s.lsu.settings.passHeight m z && (g.xHi : Int) < m.p then
      some (m.p - (g.xHi : Int) - (swing : Int) - (s.lsu.settings.gap : Int)) else none

theorem ite_some_eq {b : Prop} [Decidable b] {x y : Int} : (if b then some x else none) = some y ↔ b ∧ y = x := by
  split <;> simp_all [eq_comm]

theorem State.mem_zonesAhead {m : Motion} {swing : Nat} {x : Int} : x ∈ s.zonesAhead p m swing ↔
    ∃ z : BayId × BayGeom × Zone, z ∈ s.zonesOn p.runway ∧ obstructs s.lsu.settings.passHeight m z.2.2 = true ∧
      m.p < (z.2.1.xLo : Int) ∧ x = (z.2.1.xLo : Int) - m.p - (swing : Int) - (s.lsu.settings.gap : Int) := by
  simp only [State.zonesAhead, List.mem_filterMap, ite_some_eq, Bool.and_eq_true, decide_eq_true_eq, and_assoc]

theorem State.mem_zonesBehind {m : Motion} {swing : Nat} {x : Int} : x ∈ s.zonesBehind p m swing ↔
    ∃ z : BayId × BayGeom × Zone, z ∈ s.zonesOn p.runway ∧ obstructs s.lsu.settings.passHeight m z.2.2 = true ∧
      (z.2.1.xHi : Int) < m.p ∧ x = m.p - (z.2.1.xHi : Int) - (swing : Int) - (s.lsu.settings.gap : Int) := by
  simp only [State.zonesBehind, List.mem_filterMap, ite_some_eq, Bool.and_eq_true, decide_eq_true_eq, and_assoc]

/-- A crane stands on a runway with an order index. -/
def State.StandsAt (s : State) (r : RunwayId) (order : Nat) (d : CraneId) : Prop :=
  ∃ l q, s.links.get d = some l ∧ s.lsu.active.get d = some q ∧ q.runway = r ∧ q.order = order

theorem State.craneAt_stands {r : RunwayId} {order : Nat} :
    (∀ d, s.craneAt r order = some d → s.StandsAt r order d) ∧
      (s.craneAt r order = none → ∀ d, ¬ s.StandsAt r order d) :=
  ⟨fun _ h => State.craneAt_some h, fun h d => State.craneAt_none h d⟩

theorem State.above_eq (hp : s.lsu.active.get c = some p) : s.above c = s.craneAt p.runway (p.order + 1) := by
  simp only [State.above, hp, Option.bind_some]

theorem State.below_eq (hp : s.lsu.active.get c = some p) : s.below c = s.craneAt p.runway (p.order - 1) := by
  simp only [State.below, hp, Option.bind_some]

theorem State.mem_zonesOn {r : RunwayId} {b : BayId} {g : BayGeom} {z : Zone} : (b, g, z) ∈ s.zonesOn r ↔
    s.lsu.bays.get b = some g ∧ s.rcu.zones.get b = some z ∧ g.runway = r := by
  unfold State.zonesOn
  rw [List.mem_filterMap]
  constructor
  · rintro ⟨b', -, h⟩
    cases hg : s.lsu.bays.get b' with
    | none => simp [hg] at h
    | some g' =>
      cases hz : s.rcu.zones.get b' with
      | none => simp [hg, hz] at h
      | some z' =>
        simp only [hg, hz] at h
        split at h
        · next hr =>
          simp only [Option.some.injEq, Prod.mk.injEq] at h
          obtain ⟨rfl, rfl, rfl⟩ := h
          exact ⟨hg, hz, hr⟩
        · exact absurd h (by simp)
  · rintro ⟨hg, hz, hr⟩
    exact ⟨b, by cases b <;> decide, by simp only [hg, hz, if_pos hr]⟩

/-! ## Downgrades (R90) -/

theorem RcuCrane.downgrades_iff {e : RcuCrane} {q : CommandRec} : e.downgrades q = true ↔
    e.finalF.rank < q.fwd.rank ∨ e.finalR.rank < q.rev.rank ∨ e.lower = false ∧ q.lower = true := by
  simp [RcuCrane.downgrades, or_assoc]

theorem State.linkUp_iff {l : CraneLink} (hl : s.links.get c = some l) : s.linkUp c = true ↔ l.link ≠ .silent := by
  unfold State.linkUp
  rw [hl]
  cases hlink : l.link <;> simp [hlink]

theorem State.sendDowngrade_of {e : RcuCrane} (he : s.rcu.cranes.get c = some e) : s.sendDowngrade c =
    if s.linkUp c && (s.ports.get c).withdrawn e then
      s.sendRecord c (s.record c (e.finalF.min (s.ports.get c).lastSent.fwd)
        (e.finalR.min (s.ports.get c).lastSent.rev) (e.lower && (s.ports.get c).lastSent.lower))
    else s := by
  simp only [State.sendDowngrade, he]

theorem State.evaluate_of {k : RcuCrane} (hk : s.rcu.cranes.get c = some k) :
    s.evaluate c = (s.holding c (s.evaluated c k)).sendDowngrade c := by
  unfold State.evaluate State.evalCrane
  rw [State.modCrane_of hk]
  rfl

end Distances

end Sys2Proof.Machine
end

section
/-! The settlement of O45 and O46: the available distances, and the immediate record. -/

namespace Sys2Proof
open Machine

/-- Settles O45: the least of the terms each way, the neighbours and the zones. -/
theorem availableDistances : Obligations.AvailableDistances := by
  refine ⟨fun s c p m swing length => ?terms, fun s c p hp => ⟨?_, ?_, fun n hn => ⟨?_, ?_⟩, ?_⟩,
    fun s r b g z => State.mem_zonesOn, fun s c k hk => ?claim⟩
  case terms =>
    intro lead tail gap endF endR ahead behind least f r
    have hahead : ∀ x, x ∈ s.zonesAhead p m swing ↔ ∃ z, ahead z x := fun _ => State.mem_zonesAhead
    have hbehind : ∀ x, x ∈ s.zonesBehind p m swing ↔ ∃ z, behind z x := fun _ => State.mem_zonesBehind
    refine ⟨fun ha => ?_, fun j ha => ⟨fun hnone => ?_, fun a b hclaim => ?_⟩, fun hb => ?_,
      fun j hb => ⟨fun hnone => ?_, fun a b hclaim => ?_⟩⟩
    · have hf : f = leastTerm endF (s.zonesAhead p m swing) := by
        simp only [f, State.availForward, ha]
        rfl
      rw [hf]
      exact leastTerm_of_mem fun x => by rw [List.mem_cons, hahead]
    · simp only [f, State.availForward, ha, hnone, Claim.rear?]
    · have hf : f = leastTerm endF ((b - lead - gap) :: s.zonesAhead p m swing) := by
        simp only [f, State.availForward, ha, (Claim.rear?_of hclaim).1]
        rfl
      rw [hf]
      exact leastTerm_of_mem fun x => by rw [List.mem_cons, List.mem_cons, hahead]
    · have hr : r = leastTerm endR (s.zonesBehind p m swing) := by
        simp only [r, State.availReverse, hb]
        rfl
      rw [hr]
      exact leastTerm_of_mem fun x => by rw [List.mem_cons, hbehind]
    · simp only [r, State.availReverse, hb, hnone, Claim.front?]
    · have hr : r = leastTerm endR ((tail - a - gap) :: s.zonesBehind p m swing) := by
        simp only [r, State.availReverse, hb, (Claim.rear?_of hclaim).2]
        rfl
      rw [hr]
      exact leastTerm_of_mem fun x => by rw [List.mem_cons, List.mem_cons, hbehind]
  case claim => simp only [State.claim, hk]
  · rw [State.above_eq hp]
    exact State.craneAt_stands.1
  · rw [State.above_eq hp]
    exact State.craneAt_stands.2
  · rw [State.below_eq hp, hn]
    exact State.craneAt_stands.1
  · rw [State.below_eq hp, hn]
    exact State.craneAt_stands.2
  · simp only [State.craneZones, hp]

/-- Settles O46: what is withdrawn goes out at once, with no more than was last sent. -/
theorem downgradesAreSentAtOnce : Obligations.DowngradesAreSentAtOnce := by
  intro s c k l hk hl e u last from_ withdraws
  have hcrane : u.rcu.cranes.get c = some e := Quad.get_set_same _ _ _
  have hwithdrawn : (u.ports.get c).withdrawn e = true ↔ withdraws := by
    rw [Port.withdrawn_iff, RcuCrane.downgrades_iff]
    simp only [RcuCrane.downgrades_iff]
    rfl
  have hup : u.linkUp c = true ↔ l.link ≠ .silent := State.linkUp_iff (s := u) hl
  have heval : s.evaluate c = u.sendDowngrade c := State.evaluate_of hk
  rw [heval, State.sendDowngrade_of hcrane]
  refine ⟨fun hw hlink => ⟨e.finalF.min last.fwd, e.finalR.min last.rev, rank_classMin _ _, rank_classMin _ _, ?_⟩,
    fun hno => if_neg fun hyes => ?_⟩
  · exact if_pos (Bool.and_eq_true_iff.2 ⟨hup.2 hlink, hwithdrawn.2 hw⟩)
  · obtain ⟨hlink, hw⟩ := Bool.and_eq_true_iff.1 hyes
    exact hno.elim (fun h => h (hwithdrawn.1 hw)) (hup.1 hlink)

end Sys2Proof
end

section
/-! SUPPORT. The record of a bay written, and what its change of state tells (R143, R148, R151). -/

namespace Sys2Proof.Machine

/-! ## The flag of a bay -/

/-- The flags after the report of a condition (R174). -/
def Fnu.afterReport (u : Fnu) (latch : LatchMode) (f : FlagId) (was is : Bool) : Fnu :=
  if is && !was then u.raise f else if was && !is then u.endCond latch f else u

theorem Fnu.afterReport_same (u : Fnu) (latch : LatchMode) (f : FlagId) (v : Bool) : u.afterReport latch f v v = u := by
  cases v <;> rfl

/-- A flag of no crane moves no beacon (R171). -/
theorem State.raise_of_no_crane {s : State} {f : FlagId} (hf : f.crane? = none) :
    s.raise f = { s with fnu := s.fnu.raise f } := by
  have hdio : (if s.fnu.isSet f then s.dio else s.dio.flagSet f s.now s.lsu.settings.beaconStretch) = s.dio := by
    simp only [Dio.flagSet, hf, ite_self]
  exact congrArg (State.setDio (s.setFnu (s.fnu.raise f))) hdio

theorem State.endCond_of_no_crane {s : State} {f : FlagId} (hf : f.crane? = none) :
    s.endCond f = { s with fnu := s.fnu.endCond s.lsu.settings.faultLatch f } := by
  have hdio : (if s.fnu.isSet f && !(s.fnu.endCond s.lsu.settings.faultLatch f).isSet f then
      s.dio.flagCleared f (s.fnu.endCond s.lsu.settings.faultLatch f) else s.dio) = s.dio := by
    simp only [Dio.flagCleared, hf, ite_self]
  exact congrArg (State.setDio (s.setFnu (s.fnu.endCond s.lsu.settings.faultLatch f))) hdio

theorem State.report_of_no_crane {s : State} {f : FlagId} (hf : f.crane? = none) (was is : Bool) :
    s.report f was is = { s with fnu := s.fnu.afterReport s.lsu.settings.faultLatch f was is } := by
  cases was <;> cases is
  · rfl
  · exact State.raise_of_no_crane hf
  · exact State.endCond_of_no_crane hf
  · rfl

section Bay

variable {s : State} {b : BayId} {y : Bay}

/-- The state with a bay's record replaced. -/
def State.withBay (s : State) (b : BayId) (y : Bay) : State :=
  { s with bcu := { s.bcu with bays := s.bcu.bays.set b (some y) } }

theorem State.withBay_get : (s.withBay b y).bcu.bays.get b = some y := Quad.get_set_same _ _ _

theorem State.withBay_withBay (y' : Bay) : (s.withBay b y).withBay b y' = s.withBay b y' := by
  unfold State.withBay
  rw [Quad.set_set]

theorem State.withBay_self (h : s.bcu.bays.get b = some y) : s.withBay b y = s := by
  unfold State.withBay
  rw [← h, Quad.set_get]

theorem State.modBay_of (h : s.bcu.bays.get b = some y) (f : Bay → Bay) : s.modBay b f = s.withBay b (f y) := by
  unfold State.modBay Quad.modify
  rw [h]
  rfl

/-- A bay's record as it takes a state (R151). -/
def Bay.entering (y : Bay) (v : BayState) : Bay :=
  { y with state := v, intrusion := v == .working && !y.secure }

theorem State.followIntrusion_eq (h : s.bcu.bays.get b = some y) : s.followIntrusion b =
    { s.withBay b { y with intrusion := y.intruded } with
      fnu := s.fnu.afterReport s.lsu.settings.faultLatch (.bayIntrusion b) y.intrusion y.intruded } := by
  simp only [State.followIntrusion, h]
  rw [State.modBay_of h, State.report_of_no_crane rfl]
  rfl

theorem State.setBayState_eq {v : BayState} (h : s.bcu.bays.get b = some y) (hv : y.state ≠ v) :
    s.setBayState b v =
      { s.withBay b (y.entering v) with
        fnu := (s.fnu.offer (.bayState b y.state v y.secure y.manned)).afterReport s.lsu.settings.faultLatch
          (.bayIntrusion b) y.intrusion (v == .working && !y.secure) } := by
  have hget : ((s.withBay b { y with state := v }).notify
      (.bayState b y.state v y.secure y.manned)).bcu.bays.get b = some { y with state := v } := State.withBay_get
  simp only [State.setBayState, h, if_neg hv]
  rw [State.modBay_of h, State.followIntrusion_eq hget]
  exact congrArg (fun bays : Quad (Option Bay) => { s with
      bcu := { s.bcu with bays := bays }
      fnu := (s.fnu.offer (.bayState b y.state v y.secure y.manned)).afterReport s.lsu.settings.faultLatch
        (.bayIntrusion b) y.intrusion (v == .working && !y.secure) : State })
    (Quad.set_set s.bcu.bays b (some { y with state := v }) (some (y.entering v)))

/-- The plan of a bay is complete (R150). -/
def Bay.planDone (y : Bay) : Bool := match y.plan with | some p => p.complete | none => false

/-- The state a WORKING bay takes at the end of its trail time (R150). -/
def Bay.afterTrail (y : Bay) : BayState :=
  if y.planDone then .complete else if y.secure then .secured else .present

theorem State.trailExpire_elsewhere (h : s.bcu.bays.get b = some y) (hw : y.state ≠ .working) :
    s.trailExpire b = s.withBay b { y with trail := none } := by
  unfold State.trailExpire
  rw [State.modBay_of h]
  simp only [State.withBay_get, if_pos hw]

theorem State.trailExpire_working (h : s.bcu.bays.get b = some y) (hw : y.state = .working) :
    s.trailExpire b = (s.withBay b { y with trail := none }).setBayState b y.afterTrail := by
  unfold State.trailExpire
  rw [State.modBay_of h]
  simp only [State.withBay_get]
  rw [if_neg (not_not.2 hw)]
  have hcases : ∀ done secure : Bool,
      (if done = true then (s.withBay b { y with trail := none }).setBayState b .complete
        else if secure = true then (s.withBay b { y with trail := none }).setBayState b .secured
        else (s.withBay b { y with trail := none }).setBayState b .present) =
      (s.withBay b { y with trail := none }).setBayState b
        (if done then .complete else if secure then .secured else .present) := fun done secure => by
    cases done <;> cases secure <;> rfl
  exact hcases y.planDone y.secure

/-- Without an intrusion before or after, a change of state is told by its notice alone. -/
theorem State.setBayState_quiet {v : BayState} (h : s.bcu.bays.get b = some y) (hv : y.state ≠ v)
    (hi : y.intrusion = false) (hw : v ≠ .working) :
    s.setBayState b v =
      { s.withBay b { y with state := v, intrusion := false } with
        fnu := s.fnu.offer (.bayState b y.state v y.secure y.manned) } := by
  have hnot : (v == BayState.working) = false := by simpa using hw
  rw [State.setBayState_eq h hv, hi, Bay.entering, hnot]
  rfl

theorem Bay.intruded_iff : y.intruded = true ↔ y.state = .working ∧ y.secure = false := by
  simp [Bay.intruded]

theorem Bay.intruded_of_idle (h : y.state ≠ .working) : y.intruded = false :=
  Bool.eq_false_iff.2 fun hi => h (Bay.intruded_iff.1 hi).1

end Bay

theorem Plan.complete_load_iff {p : Plan} (h : p.head.kind = .load) :
    p.complete = true ↔ p.closed = true ∨ ∀ e ∈ p.entries, e.status = .placed := by
  simp [Plan.complete, h]

theorem Plan.complete_unload_iff {p : Plan} (h : p.head.kind = .unload) :
    p.complete = true ↔ ∀ e ∈ p.entries, e.status = .removed := by
  simp [Plan.complete, h]

/-- A coil on a cradle of a bay. -/
def Location.onBay (l : Location) (b : BayId) : Bool :=
  match l with | .cradle d _ => d == b | .slot _ => false | .hook _ => false

theorem Location.onBay_iff {l : Location} {b : BayId} : l.onBay b = true ↔ ∃ n, l = .cradle b n := by
  cases l with
  | cradle d n => simp [Location.onBay]
  | slot i => simp [Location.onBay]
  | hook d => simp [Location.onBay]

theorem Smu.mem_deleteBay {u : Smu} {b : BayId} {e : Nat × Coil} :
    e ∈ (u.deleteBay b).coils ↔ e ∈ u.coils ∧ ∀ n, e.2.location ≠ .cradle b n := by
  have hcoils : (u.deleteBay b).coils = u.coils.filter fun e => !e.2.location.onBay b := rfl
  rw [hcoils, List.mem_filter, Bool.not_eq_true', ← Bool.not_eq_true, Location.onBay_iff, not_exists]

end Sys2Proof.Machine
end

section
/-! The settlement of O47: trailers and the trail timer. -/

namespace Sys2Proof
open Machine

/-- Settles O47: the change of a bay's state at the arrival and departure of a trailer, and at the trail's end. -/
theorem trailersComeAndGo : Obligations.TrailersComeAndGo := by
  refine ⟨fun y => ⟨rfl, rfl, rfl, Bay.intruded_iff⟩, fun p => ⟨Plan.complete_load_iff, Plan.complete_unload_iff⟩,
    fun u b => ⟨rfl, fun e => Smu.mem_deleteBay⟩, fun tag b y s s0 hy hi => ?requests,
    fun s b => ⟨fun hnone => ?idle, fun y d hy ht => ⟨fun hw => ?elsewhere, fun hw => ?working⟩⟩⟩
  case requests =>
    intro becomes
    refine ⟨fun ha => ⟨fun hempty => ?arrives, fun hfull => ?_⟩,
      fun ha => ⟨fun hgo => ?departs, fun hw => ?_, fun hstay => ?_⟩⟩
    case arrives =>
      have hquiet : y.intrusion = false := hi.trans (Bay.intruded_of_idle (by rw [hempty]; decide))
      refine congrArg Host.Outcome.next (State.serve_ack noSelector ha ?_)
      simp only [ownTruckArrive, State.readBay_of hy, except_ok_bind, hempty, beq_self_eq_true, require_true]
      have hne : y.state ≠ (if y.secure then BayState.secured else .present) := by
        rw [hempty]
        cases y.secure <;> decide
      rw [State.setBayState_quiet hy hne hquiet (by cases y.secure <;> decide)]
      rfl
    · have hne : (y.state == .empty) = false := by simpa using hfull
      refine congrArg Host.Outcome.next (State.serve_nak noSelector ha ?_)
      simp only [ownTruckArrive, State.readBay_of hy, except_ok_bind, hne, require_false, except_error_bind]
    case departs =>
      have hstate : y.state ≠ .working ∧ y.state ≠ .empty := by
        rcases hgo with h | ⟨h | h, -⟩ <;> rw [h] <;> decide
      have hnotWorking : (y.state != .working) = true := by simpa using hstate.1
      have hmay : y.mayDepart = true := by
        unfold Bay.mayDepart
        rcases hgo with h | ⟨h | h, hplan⟩
        · rw [h]
        · rw [h, hplan]
          rfl
        · rw [h, hplan]
          rfl
      have hquiet : y.intrusion = false := hi.trans (Bay.intruded_of_idle hstate.1)
      refine congrArg Host.Outcome.next (State.serve_ack noSelector ha ?_)
      simp only [ownTruckDepart, State.readBay_of hy, except_ok_bind, hnotWorking, hmay, require_true]
      rw [State.modBay_of (s := s0.setSmu (s0.smu.deleteBay b)) hy,
        State.setBayState_quiet (y := { y with plan := none }) State.withBay_get hstate.2 hquiet (by decide),
        State.withBay_withBay]
      rfl
    · have hworking : (y.state != .working) = false := by simpa using hw
      refine congrArg Host.Outcome.next (State.serve_nak noSelector ha ?_)
      simp only [ownTruckDepart, State.readBay_of hy, except_ok_bind, hworking, require_false, except_error_bind]
    · have hnotWorking : (y.state != .working) = true := by
        rcases hstay with h | ⟨h | h, -⟩ <;> rw [h] <;> decide
      have hmay : y.mayDepart = false := by
        unfold Bay.mayDepart
        rcases hstay with h | ⟨h | h, hplan⟩
        · rw [h]
        · rw [h]
          exact Option.isNone_eq_false_iff.2 (Option.isSome_iff_ne_none.2 hplan)
        · rw [h]
          exact Option.isNone_eq_false_iff.2 (Option.isSome_iff_ne_none.2 hplan)
      refine congrArg Host.Outcome.next (State.serve_nak noSelector ha ?_)
      simp only [ownTruckDepart, State.readBay_of hy, except_ok_bind, hnotWorking, hmay, require_true, require_false,
        except_error_bind]
  case idle =>
    have hbind : (s.bcu.bays.get b).bind (·.trail) = none := Option.bind_eq_none_iff.2 hnone
    simp only [exec, execTrailExpiry, hbind]
  case elsewhere =>
    have hbind : (s.bcu.bays.get b).bind (·.trail) = some d := by rw [hy, Option.bind_some, ht]
    simp only [exec, execTrailExpiry, hbind]
    exact congrArg Host.Outcome.next (State.trailExpire_elsewhere (s := s.reach d) hy hw)
  case working =>
    have hbind : (s.bcu.bays.get b).bind (·.trail) = some d := by rw [hy, Option.bind_some, ht]
    let v : BayState := y.afterTrail
    let u : State := (s.reach d).withBay b { y with trail := none }
    have hv : y.state ≠ v ∧ v ≠ .working := by
      rw [hw]
      simp only [v, Bay.afterTrail]
      cases y.planDone <;> cases y.secure <;> decide
    have hexpire : (s.reach d).trailExpire b = u.setBayState b v := State.trailExpire_working hy hw
    have hnot : (v == BayState.working) = false := by simpa using hv.2
    rw [State.setBayState_eq (s := u) State.withBay_get hv.1, hnot] at hexpire
    refine ⟨(s.reach d).trailExpire b, ?_, ⟨v, ?_, fun ⟨p, hp, hc⟩ => ?_, fun hopen => ?_, ?_⟩, fun e he => ?_, ?_⟩
    · simp only [exec, execTrailExpiry, hbind]
    · rw [hexpire]
      simp only [State.withBay_get, Bay.entering, hnot]
      rfl
    · have hdone : y.planDone = true := by simp only [Bay.planDone, hp, hc]
      simp only [v, Bay.afterTrail, hdone, if_true]
    · have hdone : y.planDone = false := by
        simp only [Bay.planDone]
        cases hp : y.plan with
        | none => rfl
        | some p => exact hopen p hp
      simp only [v, Bay.afterTrail, hdone, Bool.false_eq_true, if_false]
    · rw [hexpire, hw]
      simp only [Fnu.afterReport, Bool.false_and, Bool.false_eq_true, if_false, Bool.not_false, Bool.and_true]
      rfl
    · rw [hexpire]
      exact (Quad.get_set_ne _ _ he).trans (Quad.get_set_ne _ _ he)
    · rw [hexpire]
      exact ⟨rfl, rfl, rfl, rfl, rfl, rfl, rfl, rfl, rfl, rfl, rfl, rfl⟩

end Sys2Proof
end

section
/-! SUPPORT. The bay's conditions derived again, and the work at a bay (R143, R148, R149). -/

namespace Sys2Proof.Machine

section Bay

variable {s : State} {b : BayId} {y : Bay}

theorem State.reportZone_of {z : Zone} {g : BayGeom} (hy : s.bcu.bays.get b = some y)
    (hz : s.rcu.zones.get b = some z) (hg : s.lsu.bays.get b = some g) : s.reportZone b =
      if z = y.zone then s
      else ({ s with rcu := { s.rcu with zones := s.rcu.zones.set b (some y.zone) } } : State).evaluateRunway
        g.runway := by
  simp only [State.reportZone, hy, hz, hg]
  rfl

/-- The bay, flag and beacon records alone decide what a change of secure does. -/
theorem State.followSecure_eq (hy : s.bcu.bays.get b = some y) : s.followSecure b =
    match y.state with
    | .present => if y.secure then s.setBayState b .secured else s
    | .secured => if y.secure then s else s.setBayState b .present
    | .working => s.followIntrusion b
    | .empty => s
    | .complete => s := by
  cases h : y.state <;> simp only [State.followSecure, hy, h]

/-- A bay's record with one more task at work (R149). -/
def Bay.joined (y : Bay) (id : Nat) : Bay := { y with work := y.work ++ [id], trail := none }

theorem State.workStart_eq {id : Nat} (hy : s.bcu.bays.get b = some y) (hid : id ∉ y.work) :
    s.workStart b id =
      if y.state = .present ∨ y.state = .secured then (s.withBay b (y.joined id)).setBayState b .working
      else s.withBay b (y.joined id) := by
  have hnot : y.work.contains id = false := by simpa using hid
  have hcases : ∀ v : BayState,
      (match v with
        | .present => (s.withBay b (y.joined id)).setBayState b .working
        | .secured => (s.withBay b (y.joined id)).setBayState b .working
        | .empty => s.withBay b (y.joined id)
        | .working => s.withBay b (y.joined id)
        | .complete => s.withBay b (y.joined id)) =
      if v = .present ∨ v = .secured then (s.withBay b (y.joined id)).setBayState b .working
      else s.withBay b (y.joined id) := fun v => by
    cases v <;> rfl
  rw [← hcases]
  simp only [State.workStart, hy, hnot, Bool.false_eq_true, if_false, State.modBay_of hy]
  rfl

theorem State.workStop_of {id : Nat} (hy : s.bcu.bays.get b = some y) (hid : id ∈ y.work) :
    s.workStop b id =
      let left : Bay := { y with work := y.work.filter (· != id) }
      if left.work ≠ [] then s.withBay b left
      else if s.lsu.settings.trailTime = 0 then (s.withBay b left).trailExpire b
      else s.withBay b { left with trail := some (s.now + 1000 * s.lsu.settings.trailTime) } := by
  have hin : (!y.work.contains id) = false := by simpa using hid
  simp only [State.workStop, hy, hin, Bool.false_eq_true, if_false, State.modBay_of hy,
    State.modBay_of State.withBay_get, State.withBay_withBay]
  rfl

/-- A bay that takes a task from PRESENT or SECURED becomes WORKING, and an insecure one is intruded (R149). -/
theorem State.setBayState_working (hy : s.bcu.bays.get b = some y) (hv : y.state ≠ .working)
    (hi : y.intrusion = false) : s.setBayState b .working =
      { s.withBay b { y with state := .working, intrusion := !y.secure } with
        fnu :=
          let told := s.fnu.offer (.bayState b y.state .working y.secure y.manned)
          if y.secure then told else told.raise (.bayIntrusion b) } := by
  rw [State.setBayState_eq hy hv, hi]
  unfold Bay.entering
  cases y.secure <;> rfl

end Bay

theorem Place.bay?_iff {p : Place} {b : BayId} : p.bay? = some b ↔ ∃ n, p = .cradle b n := by
  cases p with
  | slot i => simp [Place.bay?]
  | cradle d n => simp [Place.bay?]

theorem Task.references_iff {t : Task} {b : BayId} : t.references b = true ↔
    (∃ n, t.source = .cradle b n) ∨ ∃ n, t.dest = .place (.cradle b n) := by
  have hdest : t.dest.bay? = some b ↔ ∃ n, t.dest = .place (.cradle b n) := by
    cases t.dest with
    | auto => simp [Dest.bay?]
    | place p =>
      simp only [Dest.bay?, Dest.place.injEq]
      exact Place.bay?_iff
  unfold Task.references
  rw [Bool.or_eq_true, beq_iff_eq, beq_iff_eq, Place.bay?_iff, hdest]

theorem State.entryAt_cradle {s : State} {b : BayId} {y : Bay} {p : Plan} (hy : s.bcu.bays.get b = some y)
    (hp : y.plan = some p) (n coil : Nat) (before after : EntryStatus) :
    s.entryAt (.cradle b n) coil before after =
      s.withBay b { y with plan := some (p.change n coil before after) } := by
  refine (State.modBay_of hy fun y => { y with plan := y.plan.map fun p => p.change n coil before after }).trans ?_
  rw [hp]
  rfl

end Sys2Proof.Machine
end

section
/-! The settlement of O48: the requests and the work of a bay. -/

namespace Sys2Proof
open Machine

/-- Settles O48: curtain, latch and snapshot; what deriving the conditions again does in each state; and the
start and end of work. -/
theorem bayRequestsAct : Obligations.BayRequestsAct := by
  refine ⟨fun tag b y s s0 hy => ?requests, fun s b y hy => ?derived, fun s b y id hy => ?work,
    fun t b => Task.references_iff, fun s t u => ⟨rfl, rfl, ?moved⟩,
    fun s coil before after => ⟨fun _ => rfl, rfl, fun _ => rfl,
      fun b n y p hy hp => State.entryAt_cradle hy hp _ _ _ _⟩⟩
  case requests =>
    intro becomes
    refine ⟨fun m ha => ⟨y.latchFor m, ?_, fun h => ?_, fun h => ?_, fun h => ?_, fun hmode hm hc => ?_⟩,
      fun ha => ⟨fun hc => ?_, fun hc => ?_⟩, fun ha => ⟨fun hsame => ?_, fun hdiff => ?_⟩⟩
    · refine congrArg Host.Outcome.next (State.serve_ack noSelector ha ?_)
      simp only [ownBayMode, readNum_numVal, readCoded_known, except_ok_bind, hy, requireSome_some,
        State.modBay_of hy]
      rfl
    · simp [Bay.latchFor, h]
    · simp [Bay.latchFor, h]
    · simp [Bay.latchFor, h]
    · simp [Bay.latchFor, hmode, hm, hc]
    · refine congrArg Host.Outcome.next (State.serve_nak noSelector ha ?_)
      simp only [ownBayClear, State.readBay_of hy, except_ok_bind, hc, Bool.not_true, require_false, except_error_bind]
    · have hsecure : y.live.secure false = (y.live.chocks && !y.live.driver) := by simp [BayInputs.secure, hc]
      have hmanned : y.live.manned false = y.live.driver := by simp [BayInputs.manned, hc]
      refine congrArg Host.Outcome.next (State.serve_ack noSelector ha ?_)
      simp only [ownBayClear, State.readBay_of hy, except_ok_bind, hc, Bool.not_false, require_true, hsecure, hmanned,
        State.modBay_of hy]
      rfl
    · refine congrArg Host.Outcome.next (State.serve_ack noSelector ha ?_)
      simp only [ownBayAck, State.readBay_of hy, except_ok_bind, hsame, if_true, State.modBay_of hy]
      rfl
    · refine congrArg Host.Outcome.next (State.serve_ack noSelector ha ?_)
      simp only [ownBayAck, State.readBay_of hy, except_ok_bind, if_neg hdiff, State.modBay_of hy]
      rfl
  case derived =>
    intro t secure manned keeps
    let u : State := s.reportZone b
    have hu : u.bcu = s.bcu ∧ u.dio = s.dio ∧ u.fnu = s.fnu ∧ u.lsu = s.lsu := by
      simp only [u, State.reportZone_keeps, and_self]
    obtain ⟨hbcu, hdio, hfnu, hlsu⟩ := hu
    have huy : u.bcu.bays.get b = some y := by rw [hbcu, hy]
    have hfollow : t = u.followSecure b := rfl
    have hstays : ∀ w, t = u → y.state = w → keeps w y.intrusion ∧ t.fnu = s.fnu := fun w ht hw => by
      have hself : s.bcu.bays.set b (some { y with state := w, intrusion := y.intrusion }) = s.bcu.bays := by
        rw [← hw, ← hy, Quad.set_get]
      exact ⟨⟨by rw [ht, hbcu, hself], by rw [ht, hdio]⟩, by rw [ht, hfnu]⟩
    have hmoves : ∀ v, y.intrusion = false → y.state ≠ v → v ≠ .working → t = u.setBayState b v →
        keeps v false ∧ t.fnu = s.fnu.offer (.bayState b y.state v secure manned) := fun v hi hv hw ht => by
      rw [State.setBayState_quiet huy hv hi hw] at ht
      refine ⟨⟨?_, ?_⟩, ?_⟩
      · rw [ht, ← hbcu]
        rfl
      · rw [ht, ← hdio]
        rfl
      · rw [ht, ← hfnu]
        rfl
    refine ⟨fun z g hz hg => ?_, fun hst hi => ⟨fun hs => ?_, fun hs => ?_⟩, fun hst hi => ⟨fun hs => ?_, fun hs => ?_⟩,
      fun hst => ?_, fun hst => ?_, ?_⟩
    · have hkeep : t.rcu = u.rcu ∧ t.ports = u.ports := by
        simp only [hfollow, State.followSecure_keeps, and_self]
      have hzone := State.reportZone_of hy hz hg
      refine ⟨fun hsame => ?_, fun hdiff => ?_⟩
      · have hun : u = s := hzone.trans (if_pos hsame)
        rwa [hun] at hkeep
      · have hun : u = _ := hzone.trans (if_neg hdiff)
        rwa [hun] at hkeep
    · have ht : t = u.setBayState b .secured := by
        rw [hfollow, State.followSecure_eq huy, hst]
        exact if_pos hs
      have hmove := hmoves _ hi (by rw [hst]; decide) (by decide) ht
      rwa [hst, hs] at hmove
    · have ht : t = u := by
        rw [hfollow, State.followSecure_eq huy, hst]
        exact if_neg (by rw [show y.secure = false from hs]; decide)
      have hstay := hstays _ ht hst
      rwa [hi] at hstay
    · have ht : t = u := by
        rw [hfollow, State.followSecure_eq huy, hst]
        exact if_pos hs
      have hstay := hstays _ ht hst
      rwa [hi] at hstay
    · have ht : t = u.setBayState b .present := by
        rw [hfollow, State.followSecure_eq huy, hst]
        exact if_neg (by rw [show y.secure = false from hs]; decide)
      have hmove := hmoves _ hi (by rw [hst]; decide) (by decide) ht
      rwa [hst, hs] at hmove
    · have hintruded : y.intruded = !secure := by simp [Bay.intruded, hst]; rfl
      have ht : t = u.followIntrusion b := by rw [hfollow, State.followSecure_eq huy, hst]
      rw [State.followIntrusion_eq huy, hintruded] at ht
      refine ⟨⟨?_, ?_⟩, ?_⟩
      · rw [ht, ← hst, ← hbcu]
        rfl
      · rw [ht, ← hdio]
        rfl
      · rw [ht, ← hfnu, ← hlsu]
        show Fnu.afterReport _ _ _ _ _ = _
        unfold Fnu.afterReport
        rw [Bool.not_not, Bool.and_comm y.intrusion]
    · have ht : t = u := by
        rw [hfollow, State.followSecure_eq huy]
        rcases hst with h | h <;> rw [h]
      exact hstays _ ht rfl
    · simp only [t, State.bayDerived_keeps, and_self]
  case work =>
    intro becomes joined rest
    refine ⟨fun hin => ?_, fun hout => ⟨fun hst hi => ?_, fun hp hs => ?_⟩, fun hout => ?_,
      fun hin => ⟨fun hrest => ?_, fun hrest htime => ?_, fun hrest htime => ?_, fun d hd => ?_⟩⟩
    · have hcontains : y.work.contains id = true := by simpa using hin
      simp only [State.workStart, hy, hcontains, if_true]
    · have hstep : s.workStart b id = (s.withBay b joined).setBayState b .working :=
        (State.workStart_eq hy hout).trans (if_pos hst)
      have hne : joined.state ≠ .working := by
        show y.state ≠ .working
        rcases hst with h | h <;> rw [h] <;> decide
      rw [hstep, State.setBayState_working State.withBay_get hne hi, State.withBay_withBay]
      rfl
    · exact (State.workStart_eq hy hout).trans (if_neg fun h => h.elim hp hs)
    · have hcontains : (!y.work.contains id) = true := by simpa using hout
      simp only [State.workStop, hy, hcontains, if_true]
    · exact (State.workStop_of hy hin).trans (if_pos hrest)
    · rw [State.workStop_of hy hin]
      refine (if_neg (not_not.2 hrest)).trans ((if_neg htime).trans ?_)
      rw [show y.work.filter (· != id) = [] from hrest]
      rfl
    · rw [State.workStop_of hy hin]
      refine (if_neg (not_not.2 hrest)).trans ((if_pos htime).trans ?_)
      rw [show y.work.filter (· != id) = [] from hrest]
      rfl
    · have hbind : (s.bcu.bays.get b).bind (·.trail) = some d := by rw [hy, Option.bind_some, hd]
      simp only [exec, execTrailExpiry, hbind]
      rfl
  case moved =>
    have hbays : ∀ v w : Task, (v.bays.filter fun b => !w.references b) =
        allNum4.filter fun b => v.references b && !w.references b := fun v w => by
      rw [Task.bays, List.filter_filter]
      exact List.filter_congr fun b _ => Bool.and_comm _ _
    unfold State.moveWork
    rw [hbays, hbays]
    rfl

end Sys2Proof
end

section
/-! SUPPORT. The building of a plan: the loading step that passes a limit, and the entry that joins (R152 to R157). -/

namespace Sys2Proof.Machine

/-! ## The first loading step over a limit (R157) -/

/-- The first number below a bound with a result. -/
theorem findSome?_range_iff {β : Type} {f : Nat → Option β} {b : β} (n : Nat) :
    (List.range n).findSome? f = some b ↔ ∃ k, k < n ∧ f k = some b ∧ ∀ j, j < k → f j = none := by
  induction n with
  | zero => simp
  | succ n ih =>
    rw [List.range_succ, List.findSome?_append, Option.or_eq_some_iff, ih]
    have hnone : (List.range n).findSome? f = none ↔ ∀ j, j < n → f j = none := by
      simp [List.findSome?_eq_none_iff]
    rw [hnone]
    constructor
    · rintro (⟨k, hk, hb, hbefore⟩ | ⟨hbefore, hb⟩)
      · exact ⟨k, by omega, hb, hbefore⟩
      · exact ⟨n, Nat.lt_succ_self n, by simpa using hb, hbefore⟩
    · rintro ⟨k, hk, hb, hbefore⟩
      by_cases hkn : k = n
      · subst hkn
        exact .inr ⟨hbefore, by simpa using hb⟩
      · exact .inl ⟨k, by omega, hb, hbefore⟩

namespace PlanHead

variable {h : PlanHead} {coils : List (Int × Nat)}

theorem failingPrefix_none_iff : h.failingPrefix coils = none ↔
    ∀ k, 1 ≤ k → k ≤ coils.length → h.limitPassed (h.totals (coils.take k)) = none := by
  unfold failingPrefix
  simp only [List.findSome?_eq_none_iff, List.mem_range, Option.map_eq_none_iff]
  refine ⟨fun hall k h1 hk => ?_, fun hall k hk => hall (k + 1) (by omega) hk⟩
  have := hall (k - 1) (by omega)
  rwa [Nat.sub_add_cancel h1] at this

theorem failingPrefix_some_iff {k l : Nat} : h.failingPrefix coils = some (k, l) ↔
    1 ≤ k ∧ k ≤ coils.length ∧ h.limitPassed (h.totals (coils.take k)) = some l ∧
      ∀ j, 1 ≤ j → j < k → h.limitPassed (h.totals (coils.take j)) = none := by
  unfold failingPrefix
  rw [findSome?_range_iff]
  simp only [Option.map_eq_some_iff, Option.map_eq_none_iff, Prod.mk.injEq]
  constructor
  · rintro ⟨i, hi, ⟨l', hl, rfl, rfl⟩, hbefore⟩
    refine ⟨by omega, hi, hl, fun j h1 hj => ?_⟩
    have := hbefore (j - 1) (by omega)
    rwa [Nat.sub_add_cancel h1] at this
  · rintro ⟨h1, hk, hl, hbefore⟩
    refine ⟨k - 1, by omega, ⟨l, ?_, by omega, rfl⟩, fun j hj => hbefore (j + 1) (by omega) (by omega)⟩
    rwa [Nat.sub_add_cancel h1]

end PlanHead

/-- Entries whose coils have records and whose cradles are on the trailer are all weighed (R157). -/
theorem Smu.declared_of {m : Smu} {h : PlanHead} {entries : List (Nat × Nat)} {coils : List (Int × Nat)}
    (hall : List.Forall₂ (fun (e : Nat × Nat) (x : Int × Nat) => ∃ r, m.coil? e.2 = some r ∧ 1 ≤ e.1 ∧
      h.cradles[e.1 - 1]? = some x.2 ∧ x.1 = (r.declared : Int)) entries coils) (b : BayId) :
    m.declared ⟨b, h, entries⟩ = coils := by
  unfold Smu.declared
  induction hall with
  | nil => rfl
  | @cons e x entries coils hx _ ih =>
    obtain ⟨r, hr, hfirst, hcradle, hweight⟩ := hx
    have hpos : h.position? e.1 = some x.2 := by rw [PlanHead.position?, if_neg (by omega), hcradle]
    simp only [List.filterMap_cons, hr, hpos, ← hweight]
    exact congrArg (x :: ·) ih

/-! ## The entry (R153 to R155) -/

theorem Smu.deleteOnTruck_nil (m : Smu) (b : BayId) : m.deleteOnTruck b [] = m := by
  have hcoils : (m.deleteOnTruck b []).coils = m.coils := List.filter_eq_self.2 fun _ _ => rfl
  exact congrArg (fun t => { m with coils := t }) hcoils

section Entry

variable {s : State} {u : Build} {v : PlanEntry}

theorem placeOfCoil_none {coil : Nat} {es : List (Nat × Nat)} (h : ∀ e ∈ es, e.2 ≠ coil) :
    placeOfCoil coil es = none := by
  simpa [placeOfCoil] using h

theorem State.loadEntryTest_of {k : Coil} {i : Nat} {t : Slot} {g : BayGeom} (hk : s.coil? v.coil = some k)
    (hloc : k.location = .slot i) (hplan : k.plan = none) (hnew : ∀ e ∈ u.entries, e.2 ≠ v.coil)
    (ht : s.slot? i = some t) (hg : s.lsu.bays.get u.bay = some g) (hrun : t.geom.runway = g.runway) :
    s.loadEntryTest u v = .ok () := by
  have hslot : k.slot? = some i := Coil.slot?_eq_some.2 hloc
  simp only [State.loadEntryTest, hk, requireSome_some, except_ok_bind, placeOfCoil_none hnew, Option.map_none,
    requireNone_none, hslot, ht, hg, Option.map_some, hrun, beq_self_eq_true, require_true, hplan]

theorem State.unloadEntryTest_of (hnew : s.coil? v.coil = none) (hroom : s.smu.coils.length < 768) :
    s.unloadEntryTest v = .ok () := by
  have hfits : decide (s.smu.coils.length < Config.coilMax) = true := decide_eq_true hroom
  simp only [State.unloadEntryTest, hnew, Option.isNone_none, require_true, except_ok_bind, hfits]

theorem State.entryTest_of (hkind : v.kind = .known u.head.kind) (h1 : 1 ≤ v.cradle)
    (hn : v.cradle ≤ u.head.cradles.length) (hc1 : 1 ≤ v.coil) (hc2 : v.coil ≤ 4294967295)
    (hcradle : ∀ e ∈ u.entries, e.1 ≠ v.cradle)
    (hunload : u.head.kind = .unload → 600 ≤ v.width ∧ v.width ≤ 2100 ∧ 900 ≤ v.diameter ∧ v.diameter ≤ 2400 ∧
      1000 ≤ v.declared ∧ v.declared ≤ 45000) :
    s.entryTest u v = match u.head.kind with | .load => s.loadEntryTest u v | .unload => s.unloadEntryTest v := by
  have hcoil : coilIdOk v.coil = true := within_of_le hc1 hc2
  have hok : planEntryOk v u.head.cradles.length = true := by
    unfold planEntryOk
    rw [hkind, hcoil, within_of_le h1 hn]
    cases hk : u.head.kind with
    | load => rfl
    | unload =>
      obtain ⟨hw1, hw2, hd1, hd2, hm1, hm2⟩ := hunload hk
      rw [within_of_le hw1 hw2, within_of_le hd1 hd2, within_of_le hm1 hm2]
      rfl
  have hfree : (!(u.entries.any fun e => e.1 == v.cradle)) = true := by simpa using hcradle
  cases hk : u.head.kind <;>
    simp only [State.entryTest, hok, hkind, hk, beq_self_eq_true, hfree, require_true, except_ok_bind]

theorem Smu.planCheck_load {m : Smu} (hk : u.head.kind = .load) : m.planCheck u =
    requireNone ((u.head.failingPrefix (m.declared u)).map fun e => ⟨.limitExceeded, 256 * e.1 + e.2⟩) := by
  simp only [Smu.planCheck, hk]

/-- The build with one more entry. -/
def Build.joinedBy (u : Build) (v : PlanEntry) : Build := { u with entries := u.entries ++ [(v.cradle, v.coil)] }

theorem ownPlanEntry_more (htest : s.entryTest u v = .ok ())
    (hmore : (u.joinedBy v).entries.length < u.head.cradles.length) :
    ownPlanEntry s u v = .ok (s.addEntry u v, .planEntry (u.joinedBy v).entries.length
      (u.head.cradles.length - (u.joinedBy v).entries.length)) := by
  simp only [ownPlanEntry, htest, except_ok_bind]
  exact if_pos hmore

theorem ownPlanEntry_last (htest : s.entryTest u v = .ok ())
    (hlast : u.head.cradles.length ≤ (u.joinedBy v).entries.length) :
    ownPlanEntry s u v = (do
      (s.addEntry u v).smu.planCheck (u.joinedBy v)
      .ok ((s.addEntry u v).install (u.joinedBy v),
        .planInstalled (u.head.totals ((s.addEntry u v).smu.declared (u.joinedBy v))))) := by
  simp only [ownPlanEntry, htest, except_ok_bind]
  exact if_neg (Nat.not_lt.2 hlast)

/-- The reply to a PLAN-ENTRY while a plan is being built (R156). -/
theorem exec_planEntry_of {s0 : State} {tag : Byte} (htake : s.takeFrame ⟨tag, .planEntry (.fields v)⟩ = some s0)
    (hrun : s0.lsu.stage = .run) (hu : s0.bcu.build = some u) : exec (.planEntry tag (.fields v)) s =
      .next (((ownPlanEntry s0 u v).settle s0.discardBuild).1.replyWith tag ReqKind.planEntry.code
        ((ownPlanEntry s0 u v).settle s0.discardBuild).2) := by
  have hjudge : s0.judgeEntry (.fields v) = (ownPlanEntry s0 u v).settle s0.discardBuild := by
    simp only [State.judgeEntry, hrun, ne_eq, not_true_eq_false, if_false, hu]
  simp only [exec, execPlanEntry, htake, hjudge]

end Entry

theorem planOpenChecks_pass {v : PlanOpen} {b : BayId} {k : PlanKind} (hb : v.bay = numVal b)
    (hk : v.kind = .known k) (hlength : 4000 ≤ v.length ∧ v.length ≤ 14000) (heK : v.eK ≤ 20000)
    (heA : v.eA ≤ 20000) (hkLim : 1000 ≤ v.kLim ∧ v.kLim ≤ 30000) (haLim : 1000 ≤ v.aLim ∧ v.aLim ≤ 40000)
    (hgLim : 1000 ≤ v.gLim ∧ v.gLim ≤ 80000) (hcount : 1 ≤ v.cradles.length ∧ v.cradles.length ≤ 6) :
    ∀ x ∈ planOpenChecks v, x = true := by
  have hbay : num4Ok v.bay = true := by rw [hb, num4Ok_numVal]
  have hkind : codedOk v.kind = true := by rw [hk, codedOk_known]
  simp only [planOpenChecks, List.mem_cons, List.not_mem_nil, or_false]
  rintro x (rfl | rfl | rfl | rfl | rfl | rfl | rfl | rfl | rfl)
  · exact hbay
  · exact hkind
  · exact within_iff.2 hlength
  · exact within_iff.2 ⟨Nat.zero_le _, heK⟩
  · exact within_iff.2 ⟨Nat.zero_le _, heA⟩
  · exact within_iff.2 hkLim
  · exact within_iff.2 haLim
  · exact within_iff.2 hgLim
  · exact within_iff.2 hcount

end Sys2Proof.Machine
end

section
/-! The settlement of O49: the building of a plan. -/

namespace Sys2Proof
open Machine

/-- Settles O49: a plan is opened, joined entry by entry, and installed or discarded. -/
theorem planIsBuilt : Obligations.PlanIsBuilt := by
  refine ⟨?opened, fun tag v u s s0 htake hrun hu hkind h1 hn hc1 hc2 hcradle hload hunload => ?entry,
    fun tag v s s0 ha => ?noPlan, fun h coils => ⟨PlanHead.failingPrefix_none_iff,
      fun k l => PlanHead.failingPrefix_some_iff⟩,
    fun m u coils hall => Smu.declared_of hall u.bay⟩
  case opened =>
    intro tag b k v y g s s0 ha hb hk hl1 hl2 heK heA hk1 hk2 ha1 ha2 hg1 hg2 hn1 hn2 hcradles hy hg hplan hstate
    have hchecks := planOpenChecks_pass hb hk ⟨hl1, hl2⟩ heK heA ⟨hk1, hk2⟩ ⟨ha1, ha2⟩ ⟨hg1, hg2⟩ ⟨hn1, hn2⟩
    have hplaces : ∀ x ∈ cradleChecks v, x = true := by
      intro x hx
      obtain ⟨c, hc, rfl⟩ := List.mem_map.1 hx
      obtain ⟨hlo, hhi, -⟩ := hcradles c hc
      exact within_iff.2 ⟨hlo, hhi⟩
    have hinside : ∀ x ∈ v.cradles.map (cradleInBay g), x = true := by
      intro x hx
      obtain ⟨c, hc, rfl⟩ := List.mem_map.1 hx
      obtain ⟨-, -, hlo, hhi⟩ := hcradles c hc
      exact Bool.and_eq_true_iff.2 ⟨decide_eq_true hlo, decide_eq_true hhi⟩
    have hparked : (y.state == .present || y.state == .secured) = true := by
      rcases hstate with h | h <;> rw [h] <;> rfl
    refine congrArg Host.Outcome.next (State.serve_ack noSelector ha ?_)
    simp only [ownPlanOpen, checkFrom_all 1 _ hchecks, checkFrom_all 1 _ hplaces, hb, hk, readNum_numVal,
      readCoded_known, hy, hg, requireSome_some, hparked, hplan, Option.isNone_none, require_true,
      checkFrom_all 1 _ hinside, except_ok_bind]
    rfl
  case noPlan =>
    obtain ⟨htake, hnone, hrun⟩ := ha
    have hstage : s0.lsu.stage = .run := by simpa [inRun] using hrun
    have hjudge : s0.judgeEntry (.fields v) = (s0, .nak ⟨.noPlanOpen, 0⟩) := by
      simp only [State.judgeEntry, hstage, ne_eq, not_true_eq_false, if_false, hnone]
    simp only [exec, execPlanEntry, htake, hjudge]
    rfl
  case entry =>
    have hselect := State.entryTest_of (s := s0) hkind h1 hn hc1 hc2 hcradle fun hk =>
      have hfields := hunload hk
      ⟨hfields.1, hfields.2.1, hfields.2.2.1, hfields.2.2.2.1, hfields.2.2.2.2.1, hfields.2.2.2.2.2.1⟩
    have hdiscard : u.head.kind = .load → s0.discardBuild = { s0 with bcu := { s0.bcu with build := none } } :=
      fun hk => by
        have hcreated : u.created = [] := by simp only [Build.created, hk]
        rw [State.discardBuild_of_build hu, hcreated, Smu.deleteOnTruck_nil]
    rw [exec_planEntry_of htake hrun hu]
    cases hk : u.head.kind with
    | load =>
      obtain ⟨k, i, t, g, hcoil, hloc, hplan, hnew, ht, hg, hrunway⟩ := hload hk
      have htest : s0.entryTest u v = .ok () := by
        rw [hselect, hk]
        exact State.loadEntryTest_of hcoil hloc hplan hnew ht hg hrunway
      have hadd : s0.addEntry u v = { s0 with bcu := { s0.bcu with build := some (u.joinedBy v) } } := by
        simp only [State.addEntry, hk]
        rfl
      refine ⟨fun hmore => ?_, fun hlast => ⟨fun n l _ hfail => ?_, fun _ hpass => ?_, fun h => nomatch h⟩⟩
      · rw [ownPlanEntry_more htest hmore, hadd]
        rfl
      · have hcheck : (s0.addEntry u v).smu.planCheck (u.joinedBy v) = .error ⟨.limitExceeded, 256 * n + l⟩ := by
          rw [hadd]
          exact (Smu.planCheck_load (u := u.joinedBy v) hk).trans (congrArg _ (congrArg (Option.map _) hfail))
        rw [ownPlanEntry_last htest hlast, hcheck, hdiscard hk]
        rfl
      · have hcheck : (s0.addEntry u v).smu.planCheck (u.joinedBy v) = .ok () := by
          rw [hadd]
          exact (Smu.planCheck_load (u := u.joinedBy v) hk).trans (congrArg _ (congrArg (Option.map _) hpass))
        rw [ownPlanEntry_last htest hlast, hcheck, hadd]
        simp only [except_ok_bind, State.install, Build.joinedBy, Build.plan, hk]
        rfl
    | unload =>
      obtain ⟨-, -, -, -, -, -, hnew, hroom⟩ := hunload hk
      have htest : s0.entryTest u v = .ok () := by
        rw [hselect, hk]
        exact State.unloadEntryTest_of hnew hroom
      have hadd : s0.addEntry u v =
          { s0 with
            smu := { s0.smu with coils := Table.put v.coil (trailerCoil u.bay v) s0.smu.coils }
            bcu := { s0.bcu with build := some (u.joinedBy v) } } := by
        simp only [State.addEntry, hk]
        rfl
      refine ⟨fun hmore => ?_, fun hlast => ⟨fun _ _ h => (nomatch h), fun h => (nomatch h), fun _ => ?_⟩⟩
      · rw [ownPlanEntry_more htest hmore, hadd]
        rfl
      · have hcheck : (s0.addEntry u v).smu.planCheck (u.joinedBy v) = .ok () := by
          simp only [Smu.planCheck, Build.joinedBy, hk]
        rw [ownPlanEntry_last htest hlast, hcheck, hadd]
        simp only [except_ok_bind, State.install, Build.joinedBy, Build.plan, hk]
        rfl

end Sys2Proof
end

section
/-! SUPPORT. The end of a plan: the references that keep it, and the bay it leaves (R162, R163). -/

namespace Sys2Proof.Machine

theorem State.firstReference_none {s : State} {b : BayId}
    (h : ∀ c, ∀ t ∈ s.tcu.queues.get c, t.references b = false) : s.firstReference b = none := by
  refine List.findSome?_eq_none_iff.2 fun c _ => List.find?_eq_none.2 fun t ht => ?_
  rw [h c t ht]
  decide

theorem State.unreferenced_of {s : State} {b : BayId}
    (h : ∀ c, ∀ t ∈ s.tcu.queues.get c, t.references b = false) : s.unreferenced b = .ok () := by
  unfold State.unreferenced
  rw [State.firstReference_none h]
  rfl

theorem Plan.firstPlaced_none {p : Plan} (h : p.head.kind = .load → ∀ e ∈ p.entries, e.status ≠ .placed) :
    p.firstPlaced = none := by
  unfold Plan.firstPlaced
  cases hk : p.head.kind with
  | unload => rfl
  | load => simpa using h hk

theorem Bay.loadPlan?_none {y : Bay} (h : ∀ p, y.plan = some p → p.head.kind = .unload) : y.loadPlan? = none := by
  unfold Bay.loadPlan?
  cases hp : y.plan with
  | none => rfl
  | some p => simp [Option.filter, h p hp]

theorem Bay.loadPlan?_some {y : Bay} {p : Plan} (hp : y.plan = some p) (hk : p.head.kind = .load) :
    y.loadPlan? = some p := by
  simp [Bay.loadPlan?, Option.filter, hp, hk]

theorem Smu.mem_deleteOnTruck {u : Smu} {b : BayId} {ids : List Nat} {e : Nat × Coil} :
    e ∈ (u.deleteOnTruck b ids).coils ↔ e ∈ u.coils ∧ ¬ (e.1 ∈ ids ∧ ∃ n, e.2.location = .cradle b n) := by
  have hcoils : (u.deleteOnTruck b ids).coils =
      u.coils.filter fun e => !(ids.contains e.1 && e.2.location.onBay b) := rfl
  rw [hcoils, List.mem_filter, Bool.not_eq_true', ← Bool.not_eq_true, Bool.and_eq_true, Location.onBay_iff,
    List.contains_iff_mem]

theorem Smu.setPlan_coils (u : Smu) (ids : List Nat) (plan : Option BayId) : (u.setPlan ids plan).coils =
    u.coils.map fun e => if e.1 ∈ ids then (e.1, { e.2 with plan := plan }) else e := by
  simp only [Smu.setPlan, List.contains_iff_mem]

/-- A bay keeps its inputs and its work, has a plan and a state, and the other bays stay. -/
structure State.BayLeft (u t : State) (b : BayId) (y : Bay) (plan : Option Plan) (v : BayState) : Prop where
  bay : ∃ y', t.bcu.bays.get b = some y' ∧ y'.plan = plan ∧ y'.live = y.live ∧ y'.latch = y.latch ∧
    y'.work = y.work ∧ y'.state = v
  others : ∀ d, d ≠ b → t.bcu.bays.get d = u.bcu.bays.get d
  dio : t.dio = u.dio

section Left

variable {s u : State} {b : BayId} {y : Bay} {plan : Option Plan}

/-- The bay's plan written, and its state then changed where the change applies (R162, R163). -/
def State.leaveBay (u : State) (b : BayId) (y : Bay) (plan : Option Plan) (moves : Bool) (v : BayState) : State :=
  if moves then (u.withBay b { y with plan := plan }).setBayState b v else u.withBay b { y with plan := plan }

theorem State.leaveBay_left {moves : Bool} {v : BayState} (hv : moves = true → y.state ≠ v) :
    u.BayLeft (u.leaveBay b y plan moves v) b y plan (if moves then v else y.state) := by
  unfold State.leaveBay
  cases moves with
  | false =>
    exact ⟨⟨_, State.withBay_get, rfl, rfl, rfl, rfl, rfl⟩, fun d hd => Quad.get_set_ne _ _ hd, rfl⟩
  | true =>
    have heq := State.setBayState_eq (s := u.withBay b { y with plan := plan }) (v := v) State.withBay_get (hv rfl)
    simp only [if_true, heq]
    exact ⟨⟨_, State.withBay_get, rfl, rfl, rfl, rfl, rfl⟩,
      fun d hd => (Quad.get_set_ne _ _ hd).trans (Quad.get_set_ne _ _ hd), rfl⟩

theorem State.leaveBay_fnu {moves : Bool} {v : BayState} (hv : moves = true → y.state ≠ v) (hw : v ≠ .working)
    (hi : y.intrusion = false) : (u.leaveBay b y plan moves v).fnu =
      if moves then u.fnu.offer (.bayState b y.state v y.secure y.manned) else u.fnu := by
  unfold State.leaveBay
  cases moves with
  | false => rfl
  | true =>
    simp only [if_true]
    rw [State.setBayState_quiet (y := { y with plan := plan }) State.withBay_get (hv rfl) hi hw]
    rfl

theorem State.leaveBay_keeps (moves : Bool) (v : BayState) :
    let t := u.leaveBay b y plan moves v
    t.lsu = u.lsu ∧ t.smu = u.smu ∧ t.tcu = u.tcu ∧ t.links = u.links ∧ t.hoists = u.hoists ∧ t.ports = u.ports ∧
      t.rcu = u.rcu ∧ t.hlu = u.hlu := by
  unfold State.leaveBay
  cases moves with
  | false => exact ⟨rfl, rfl, rfl, rfl, rfl, rfl, rfl, rfl⟩
  | true =>
    simp only [if_true, State.setBayState_keeps]
    exact ⟨rfl, rfl, rfl, rfl, rfl, rfl, rfl, rfl⟩

end Left

end Sys2Proof.Machine
end

section
/-! The settlement of O50: a plan cancelled or closed. -/

namespace Sys2Proof
open Machine

/-- Settles O50: the refusals, what each ending leaves of the plan and of the bay, and the coils it writes. -/
theorem planIsEnded : Obligations.PlanIsEnded := by
  refine ⟨fun tag b y s s0 hy => ⟨fun ha => ⟨fun hplan => ?noPlan, fun p hplan href hplaced => ?cancelled⟩,
      fun ha => ⟨fun hplan => ?noLoad, fun p hplan hkind href => ?closed⟩⟩,
    fun u b ids plan => ⟨rfl, Smu.setPlan_coils u ids plan, rfl, fun e => Smu.mem_deleteOnTruck⟩⟩
  case noPlan =>
    refine congrArg Host.Outcome.next (State.serve_nak noSelector ha ?_)
    simp only [ownPlanCancel, State.readBay_of hy, except_ok_bind, hplan, requireSome_none, except_error_bind]
  case noLoad =>
    refine congrArg Host.Outcome.next (State.serve_nak noSelector ha ?_)
    simp only [ownLoadClose, State.readBay_of hy, except_ok_bind, Bay.loadPlan?_none hplan, requireSome_none,
      except_error_bind]
  case cancelled =>
    let m : Smu := match p.head.kind with
      | .load => s0.smu.setPlan (p.entries.map (·.coil)) none
      | .unload => s0.smu.deleteOnTruck b (p.entries.map (·.coil))
    let v : BayState := if y.secure then .secured else .present
    let t : State := (s0.setSmu m).leaveBay b y none (decide (y.state = .complete)) v
    have hv : decide (y.state = .complete) = true → y.state ≠ v := fun h => by
      rw [of_decide_eq_true h]
      simp only [v]
      cases y.secure <;> decide
    have hw : v ≠ .working := by
      simp only [v]
      cases y.secure <;> decide
    have hleft : (s0.setSmu m).BayLeft t b y none _ := State.leaveBay_left hv
    obtain ⟨hlsu, hsmu, htcu, hlinks, hhoists, hports, hrcu, hhlu⟩ :=
      State.leaveBay_keeps (u := s0.setSmu m) (b := b) (y := y) (plan := none) (decide (y.state = .complete)) v
    refine ⟨t, congrArg Host.Outcome.next (State.serve_ack noSelector ha ?_), hsmu, ?_, fun hi => ?_, hleft.others,
      hlsu, htcu, hlinks, hhoists, hports, hrcu, hleft.dio, hhlu⟩
    · simp only [ownPlanCancel, State.readBay_of hy, except_ok_bind, hplan, requireSome_some,
        State.unreferenced_of href, Plan.firstPlaced_none hplaced, Option.map_none, requireNone_none]
      have hsteps : ((s0.setSmu m).modBay b fun y => { y with plan := none }) =
          (s0.setSmu m).withBay b { y with plan := none } :=
        State.modBay_of (s := s0.setSmu m) hy _
      refine congrArg Except.ok (Prod.ext ?_ (congrArg (fun u : Smu =>
        Ack.planCancelled (s0.smu.coils.length - u.coils.length)) hsmu.symm))
      refine .trans (congrArg (fun u : State => if y.state = .complete then u.setBayState b v else u) hsteps) ?_
      simp only [t, State.leaveBay, decide_eq_true_eq]
    · obtain ⟨y', hy', hp', hlive, hlatch, hwork, hst⟩ := hleft.bay
      exact ⟨y', hy', hp', hlive, hlatch, hwork, by simpa using hst⟩
    · refine (State.leaveBay_fnu hv hw hi).trans ?_
      by_cases hc : y.state = .complete
      · rw [if_pos (decide_eq_true hc), if_pos hc, hc]
        rfl
      · rw [if_neg (by simpa using hc), if_neg hc]
        rfl
  case closed =>
    let placed := p.entries.filter fun e => e.status == .placed
    let removed := (p.entries.filter fun e => e.status != .placed).map (·.coil)
    let plan : Plan := { p with entries := placed, closed := true }
    let moves : Bool := decide (y.state = .present ∨ y.state = .secured)
    let t : State := (s0.setSmu (s0.smu.setPlan removed none)).leaveBay b y (some plan) moves .complete
    have hv : moves = true → y.state ≠ .complete := fun h => by
      rcases of_decide_eq_true h with h | h <;> rw [h] <;> decide
    have hleft : (s0.setSmu (s0.smu.setPlan removed none)).BayLeft t b y (some plan) _ :=
      State.leaveBay_left hv
    obtain ⟨hlsu, hsmu, htcu, hlinks, hhoists, hports, hrcu, hhlu⟩ :=
      State.leaveBay_keeps (u := s0.setSmu (s0.smu.setPlan removed none)) (b := b) (y := y) (plan := some plan) moves
        .complete
    refine ⟨t, congrArg Host.Outcome.next (State.serve_ack noSelector ha ?_), hsmu, ?_, fun hi => ?_, hleft.others,
      hlsu, htcu, hlinks, hhoists, hports, hrcu, hleft.dio, hhlu⟩
    · simp only [ownLoadClose, State.readBay_of hy, except_ok_bind, Bay.loadPlan?_some hplan hkind, requireSome_some,
        State.unreferenced_of href]
      have hsteps : ((s0.setSmu (s0.smu.setPlan removed none)).modPlan b fun p =>
          { p with entries := placed, closed := true }) =
          (s0.setSmu (s0.smu.setPlan removed none)).withBay b { y with plan := some plan } := by
        unfold State.modPlan
        rw [State.modBay_of (s := s0.setSmu (s0.smu.setPlan removed none)) hy, hplan]
        rfl
      refine congrArg Except.ok (Prod.ext ?_ rfl)
      refine .trans (congrArg (fun u : State => if y.state = .present ∨ y.state = .secured then
        u.setBayState b .complete else u) hsteps) ?_
      simp only [t, moves, State.leaveBay, decide_eq_true_eq]
    · obtain ⟨y', hy', hp', hlive, hlatch, hwork, hst⟩ := hleft.bay
      exact ⟨y', hy', hp', hlive, hlatch, hwork, by simpa [moves] using hst⟩
    · have hfnu : t.fnu = _ := State.leaveBay_fnu hv (by decide) hi
      simpa [moves] using hfnu

end Sys2Proof
end

section
/-! SUPPORT. What a change of a line reaches: notices grow, and each event writes the record it is about
(R166, R167). -/

namespace Sys2Proof.Machine

/-! ## Notices are only added -/

/-- The notices waiting are still waiting. -/
def State.Told (s t : State) : Prop := s.fnu.notices <+: t.fnu.notices

section Told

variable (s : State)

theorem State.Told.refl : s.Told s := List.prefix_rfl

theorem State.Told.trans {s t u : State} (h : s.Told t) (h' : t.Told u) : s.Told u := List.IsPrefix.trans h h'

theorem State.Told.of_eq {s t : State} (h : t.fnu = s.fnu) : s.Told t := by
  unfold State.Told
  rw [h]

theorem State.notify_told (n : Notice) : s.Told (s.notify n) := Fnu.offer_prefix s.fnu n

theorem State.report_told (f : FlagId) (was is : Bool) : s.Told (s.report f was is) := by
  rcases s.report_cases f was is with h | h | h <;> rw [h]
  · exact Fnu.raise_prefix s.fnu f
  · unfold State.Told State.endCond Fnu.endCond
    dsimp only
    split <;> exact List.prefix_rfl
  · exact .refl s

theorem State.followIntrusion_told (b : BayId) : s.Told (s.followIntrusion b) := by
  unfold State.followIntrusion
  split
  · exact .refl s
  · exact State.report_told (s.modBay b fun y => { y with intrusion := y.intruded }) _ _ _

theorem State.setBayState_told (b : BayId) (v : BayState) : s.Told (s.setBayState b v) := by
  unfold State.setBayState
  split
  · exact .refl s
  · split
    · exact .refl s
    · exact (State.notify_told (s.modBay b _) _).trans (State.followIntrusion_told _ b)

theorem State.followSecure_told (b : BayId) : s.Told (s.followSecure b) := by
  unfold State.followSecure
  split
  · exact .refl s
  · split
    · split
      · exact s.setBayState_told b _
      · exact .refl s
    · split
      · exact .refl s
      · exact s.setBayState_told b _
    · exact s.followIntrusion_told b
    · exact .refl s
    · exact .refl s

theorem State.bayDerived_told (b : BayId) : s.Told (s.bayDerived b) :=
  .trans (.of_eq (by simp only [State.reportZone_keeps])) (State.followSecure_told (s.reportZone b) b)

theorem State.bayEvent_told (b : BayId) (i : BayInputs) : s.Told (s.bayEvent b i) := by
  unfold State.bayEvent
  split
  · exact .refl s
  · dsimp only
    split
    · exact (State.notify_told (s.modBay b _) _).trans (State.bayDerived_told _ b)
    · exact State.bayDerived_told (s.modBay b _) b

end Told

/-! ## The record of a bay -/

/-- Two bay records that differ in state and intrusion at most. -/
def Bay.Follows (y z : Bay) : Prop := z = { y with state := z.state, intrusion := z.intrusion }

section Bay

variable {s : State} {b : BayId} {y : Bay}

theorem State.setBayState_bay (hy : s.bcu.bays.get b = some y) (v : BayState) :
    ∃ z, (s.setBayState b v).bcu.bays.get b = some z ∧ y.Follows z := by
  by_cases hv : y.state = v
  · exact ⟨y, by simp only [State.setBayState, hy, if_pos hv], rfl⟩
  · rw [State.setBayState_eq hy hv]
    exact ⟨_, State.withBay_get, rfl⟩

theorem State.followSecure_bay (hy : s.bcu.bays.get b = some y) :
    ∃ z, (s.followSecure b).bcu.bays.get b = some z ∧ y.Follows z := by
  rw [State.followSecure_eq hy]
  cases y.state with
  | present =>
    cases y.secure with
    | true => exact State.setBayState_bay hy _
    | false => exact ⟨y, hy, rfl⟩
  | secured =>
    cases y.secure with
    | true => exact ⟨y, hy, rfl⟩
    | false => exact State.setBayState_bay hy _
  | working =>
    rw [State.followIntrusion_eq hy]
    exact ⟨_, State.withBay_get, rfl⟩
  | empty => exact ⟨y, hy, rfl⟩
  | complete => exact ⟨y, hy, rfl⟩

theorem State.bayDerived_bay (hy : s.bcu.bays.get b = some y) :
    ∃ z, (s.bayDerived b).bcu.bays.get b = some z ∧ y.Follows z :=
  State.followSecure_bay (s := s.reportZone b) (by simp only [State.reportZone_keeps, hy])

/-- The latch after an input event (R144). -/
def Bay.latchedAt (y : Bay) (i : BayInputs) : Bool :=
  y.latch || (y.mode == .latched && !y.live.curtain && i.curtain)

theorem State.bayEvent_quiet {i : BayInputs} (hy : s.bcu.bays.get b = some y) (h : y.frozen = true ∨ y.live = i) :
    s.bayEvent b i = (s.withBay b { y with live := i, latch := y.latchedAt i }).bayDerived b := by
  have hmoved : (!y.frozen && decide (i ≠ y.live)) = false := by
    rcases h with h | h
    · simp [h]
    · simp [h]
  simp only [State.bayEvent, hy, Bay.atInputs, hmoved, Bool.false_eq_true, if_false, Bool.or_false, State.modBay_of hy]
  rfl

theorem State.bayEvent_moved {i : BayInputs} (hy : s.bcu.bays.get b = some y) (hf : y.frozen = false)
    (hi : y.live ≠ i) : s.bayEvent b i =
      let y' : Bay := { y with live := i, latch := y.latchedAt i, snapshot := i, frozen := true }
      ((s.withBay b y').notify (.bayInputs b i (y.latchedAt i) y'.secure y'.manned)).bayDerived b := by
  have hmoved : (!y.frozen && decide (i ≠ y.live)) = true := by simp [hf, Ne.symm hi]
  simp only [State.bayEvent, hy, Bay.atInputs, hmoved, if_true, Bool.or_true, State.modBay_of hy]
  rfl

end Bay

/-! ## The other bays -/

section Others

variable {b d : BayId} (hd : d ≠ b) (s : State)

include hd

theorem State.modBay_other (f : Bay → Bay) : (s.modBay b f).bcu.bays.get d = s.bcu.bays.get d :=
  Quad.get_modify_ne _ _ hd

omit hd in
theorem State.report_bcu (f : FlagId) (was is : Bool) : (s.report f was is).bcu.bays.get d = s.bcu.bays.get d := by
  simp only [State.report_keeps]

theorem State.followIntrusion_other : (s.followIntrusion b).bcu.bays.get d = s.bcu.bays.get d := by
  unfold State.followIntrusion
  split
  · rfl
  · exact (State.report_bcu _ _ _ _).trans (State.modBay_other hd s _)

theorem State.setBayState_other (v : BayState) : (s.setBayState b v).bcu.bays.get d = s.bcu.bays.get d := by
  unfold State.setBayState
  split
  · rfl
  · split
    · rfl
    · exact (State.followIntrusion_other hd _).trans (State.modBay_other hd s _)

theorem State.followSecure_other : (s.followSecure b).bcu.bays.get d = s.bcu.bays.get d := by
  unfold State.followSecure
  split
  · rfl
  · split
    · split
      · exact State.setBayState_other hd s _
      · rfl
    · split
      · rfl
      · exact State.setBayState_other hd s _
    · exact State.followIntrusion_other hd s
    · rfl
    · rfl

theorem State.bayDerived_other : (s.bayDerived b).bcu.bays.get d = s.bcu.bays.get d :=
  (State.followSecure_other hd (s.reportZone b)).trans (by simp only [State.reportZone_keeps])

theorem State.bayEvent_other (i : BayInputs) : (s.bayEvent b i).bcu.bays.get d = s.bcu.bays.get d := by
  unfold State.bayEvent
  split
  · rfl
  · dsimp only
    split
    · exact (State.bayDerived_other hd _).trans (State.modBay_other hd s _)
    · exact (State.bayDerived_other hd _).trans (State.modBay_other hd s _)

end Others

/-! ## The views of the runways -/

section Views

variable (s : State)

theorem State.evaluateAll_views (cs : List CraneId) : (s.evaluateAll cs).rcu.views = s.rcu.views := by
  refine foldl_keeps State.evaluate (fun u : State => u.rcu.views) (fun u c => ?_) cs s
  unfold State.evaluate
  simp only [State.sendDowngrade_keeps]
  rfl

theorem State.bayDerived_views (b : BayId) : (s.bayDerived b).rcu.views = s.rcu.views := by
  unfold State.bayDerived
  simp only [State.followSecure_keeps]
  unfold State.reportZone
  split
  · split
    · rfl
    · exact State.evaluateAll_views _ _
  · rfl

theorem State.bayEvent_views (b : BayId) (i : BayInputs) : (s.bayEvent b i).rcu.views = s.rcu.views := by
  unfold State.bayEvent
  split
  · rfl
  · dsimp only
    split
    · exact State.bayDerived_views _ _
    · exact State.bayDerived_views _ _

theorem State.estopEvent_views (r q : RunwayId) (live : Bool) : (s.estopEvent r live).rcu.views.get q =
    if q = r then (s.rcu.views.get q).map fun v => { v with estop := live } else s.rcu.views.get q := by
  cases hv : s.rcu.views.get r with
  | none =>
    have hsame : s.estopEvent r live = s := by simp only [State.estopEvent, hv]
    rw [hsame]
    by_cases hq : q = r
    · rw [if_pos hq, hq, hv]
      rfl
    · rw [if_neg hq]
  | some v =>
    have hviews : (s.estopEvent r live).rcu.views = s.rcu.views.set r (some { v with estop := live }) := by
      simp only [State.estopEvent, hv]
      refine (State.evaluateAll_views _ _).trans ?_
      simp only [State.report_keeps]
      rfl
    rw [hviews]
    by_cases hq : q = r
    · rw [if_pos hq, hq, hv]
      exact Duo.get_set_same _ _ _
    · rw [if_neg hq]
      exact Duo.get_set_ne _ _ hq

end Views

/-! ## The events spare what they are not about -/

section Spared

variable (c : CraneId) (s : State)

theorem State.refEvent_spares : State.Spares c s (s.refEvent c) := by
  unfold State.refEvent
  split
  · split
    · dsimp only
      split
      · exact ((s.modLink_spares c _).trans (State.raise_spares c _ _)).trans (State.notify_spares c _ _)
      · exact (s.modLink_spares c _).trans (State.notify_spares c _ _)
    · exact .refl c s
  · exact .refl c s

theorem State.estopEvent_spares (r : RunwayId) (live : Bool) : State.Spares c s (s.estopEvent r live) := by
  unfold State.estopEvent
  split
  · exact .refl c s
  · exact ((s.setRcu_spares c _).trans (State.report_spares c _ _ _ _)).trans (State.evaluateAll_spares c _ _)

end Spared

end Sys2Proof.Machine
end

section
/-! SUPPORT. A change of a line handed to its consumers, one after the other (R167). -/

namespace Sys2Proof.Machine

theorem allNum4_split (c : Num4) : ∃ before after, allNum4 = before ++ c :: after ∧ c ∉ before ∧ c ∉ after := by
  cases c
  · exact ⟨[], [.n2, .n3, .n4], rfl, by decide, by decide⟩
  · exact ⟨[.n1], [.n3, .n4], rfl, by decide, by decide⟩
  · exact ⟨[.n1, .n2], [.n4], rfl, by decide, by decide⟩
  · exact ⟨[.n1, .n2, .n3], [], rfl, by decide, by decide⟩

/-- What each step for a member of a list keeps, the fold over the list keeps. -/
theorem foldl_view {σ α β : Type} {op : σ → α → σ} {view : σ → β} {l : List α}
    (h : ∀ u, ∀ a ∈ l, view (op u a) = view u) (s : σ) : view (l.foldl op s) = view s :=
  List.foldlRecOn (motive := fun u => view u = view s) l op rfl fun u hu a ha => (h u a ha).trans hu

theorem State.IoKept.foldl {α : Type} {op : State → α → State} (h : ∀ (s : State) a, s.IoKept (op s a)) (l : List α)
    (s : State) : s.IoKept (l.foldl op s) :=
  List.foldlRecOn l op (.refl s) fun _ ht a _ => ht.trans (h _ a)

theorem State.Told.foldl {α : Type} {op : State → α → State} (h : ∀ (s : State) a, s.Told (op s a)) (l : List α)
    (s : State) : s.Told (l.foldl op s) :=
  List.foldlRecOn l op (.refl s) fun _ ht a _ => State.Told.trans ht (h _ a)

section Levels

variable {s t : State} (h : s.IoKept t)

include h

theorem State.IoKept.fnLevel (f : InputFn) : t.dio.fnLevel f = s.dio.fnLevel f := by
  unfold Dio.fnLevel
  rw [h.inputs, h.lines]

theorem State.IoKept.bayInputs (b : BayId) : t.dio.bayInputs b = s.dio.bayInputs b := by
  unfold Dio.bayInputs
  rw [h.fnLevel, h.fnLevel, h.fnLevel]

end Levels

section Deliver

variable (old : Dio) (s : State)

theorem State.deliver_eq (h : s.lsu.stage ≠ .config) : State.deliver old s =
    allNum4.foldl (State.deliverBay old)
      (allRunways.foldl (State.deliverEstop old) (allNum4.foldl (State.deliverRef old) s)) :=
  if_neg h

theorem State.deliverRef_io (c : CraneId) : s.IoKept (State.deliverRef old s c) := by
  unfold State.deliverRef
  split
  · exact (State.refEvent_spares c s).toIoKept
  · exact .refl s

theorem State.deliverEstop_io (r : RunwayId) : s.IoKept (State.deliverEstop old s r) := by
  unfold State.deliverEstop
  split
  · exact .refl s
  · exact (State.estopEvent_spares .n1 s r _).toIoKept

theorem State.deliverBay_io (b : BayId) : s.IoKept (State.deliverBay old s b) := by
  unfold State.deliverBay
  split
  · exact .refl s
  · exact (State.bayEvent_spares .n1 s b _).toIoKept

theorem State.deliverBay_told (b : BayId) : s.Told (State.deliverBay old s b) := by
  unfold State.deliverBay
  split
  · exact .refl s
  · exact s.bayEvent_told b _

/-! ## References -/

theorem State.refEvent_of {c : CraneId} {l : CraneLink} {p : ParamSet} {d : Nat} {x : LastRec}
    (hl : s.links.get c = some l) (hp : s.lsu.active.get c = some p) (hd : l.link = .active d)
    (hx : l.last = some x) : ∃ m, (s.refEvent c).links.get c = some m ∧ m.referenced = true ∧
      m.correction = (p.xRef : Int) - (x.record.raw : Int) := by
  have hlinks : (s.refEvent c).links = (s.modLink c fun l =>
      { l with
        correction := (p.xRef : Int) - (x.record.raw : Int), referenced := true
        last := some { x with
          corrected := (x.record.raw : Int) + ((p.xRef : Int) - (x.record.raw : Int)) } }).links := by
    simp only [State.refEvent, hl, hp, hd, hx, State.notify_keeps]
    split <;> simp only [State.raise_keeps]
  rw [hlinks, State.links_modLink_get, if_pos rfl, hl]
  exact ⟨_, rfl, rfl, rfl⟩

theorem State.refEvent_other {c d : CraneId} (h : d ≠ c) : (s.refEvent c).links.get d = s.links.get d := by
  have hmod : ∀ f, (s.modLink c f).links.get d = s.links.get d := fun f => by
    rw [State.links_modLink_get, if_neg h]
  unfold State.refEvent
  split
  · split
    · simp only [State.notify_keeps]
      split
      · simp only [State.raise_keeps]
        exact hmod _
      · exact hmod _
    · rfl
  · rfl

theorem State.deliverRef_other {c d : CraneId} (h : d ≠ c) :
    (State.deliverRef old s c).links.get d = s.links.get d := by
  unfold State.deliverRef
  split
  · exact s.refEvent_other h
  · rfl

/-- The references are delivered to each crane as it stands. -/
theorem State.delivered_ref (c : CraneId) : ∃ u, s.IoKept u ∧ u.lsu = s.lsu ∧ u.links.get c = s.links.get c ∧
    (allNum4.foldl (State.deliverRef old) s).links.get c = (State.deliverRef old u c).links.get c := by
  obtain ⟨before, after, hsplit, hbefore, hafter⟩ := allNum4_split c
  refine ⟨before.foldl (State.deliverRef old) s, .foldl (State.deliverRef_io old) _ _,
    foldl_keeps _ State.lsu (fun u d => by simp only [State.deliverRef_keeps]) _ _,
    foldl_view (view := fun u : State => u.links.get c)
      (fun u d hd => State.deliverRef_other old u fun h : c = d => hbefore (h ▸ hd)) s, ?_⟩
  rw [hsplit, List.foldl_append, List.foldl_cons]
  exact foldl_view (view := fun u : State => u.links.get c)
    (fun u d hd => State.deliverRef_other old u fun h : c = d => hafter (h ▸ hd)) _

/-! ## Emergency stops -/

theorem State.deliverEstop_views (r q : RunwayId) : (State.deliverEstop old s r).rcu.views.get q =
    if q = r ∧ old.fnLevel (.estop r) ≠ s.dio.fnLevel (.estop r) then
      (s.rcu.views.get q).map fun v => { v with estop := s.dio.fnLevel (.estop r) }
    else s.rcu.views.get q := by
  unfold State.deliverEstop
  by_cases hsame : old.fnLevel (.estop r) = s.dio.fnLevel (.estop r)
  · rw [if_pos hsame, if_neg fun h => h.2 hsame]
  · rw [if_neg hsame, State.estopEvent_views]
    by_cases hq : q = r
    · rw [if_pos hq, if_pos ⟨hq, hsame⟩]
    · rw [if_neg hq, if_neg fun h => hq h.1]

theorem State.delivered_estop {r : RunwayId} {v : RunwayView}
    (hv : (allRunways.foldl (State.deliverEstop old) s).rcu.views.get r = some v)
    (hdiff : old.fnLevel (.estop r) ≠ s.dio.fnLevel (.estop r)) : v.estop = s.dio.fnLevel (.estop r) := by
  have hfold : allRunways.foldl (State.deliverEstop old) s =
      State.deliverEstop old (State.deliverEstop old s .a) .b := rfl
  have hb : (State.deliverEstop old s .a).dio.fnLevel (.estop .b) = s.dio.fnLevel (.estop .b) :=
    (State.deliverEstop_io old s .a).fnLevel _
  rw [hfold, State.deliverEstop_views, hb] at hv
  cases r with
  | a =>
    rw [if_neg fun h => absurd h.1 (by decide), State.deliverEstop_views, if_pos ⟨rfl, hdiff⟩] at hv
    obtain ⟨w, -, rfl⟩ := Option.map_eq_some_iff.1 hv
    rfl
  | b =>
    rw [if_pos ⟨rfl, hdiff⟩] at hv
    obtain ⟨w, -, rfl⟩ := Option.map_eq_some_iff.1 hv
    rfl

/-! ## Bays -/

theorem State.deliverBay_other {b d : BayId} (h : d ≠ b) :
    (State.deliverBay old s b).bcu.bays.get d = s.bcu.bays.get d := by
  unfold State.deliverBay
  split
  · rfl
  · exact State.bayEvent_other h s _

/-- The inputs are delivered to each bay as it stands. -/
theorem State.delivered_bay (b : BayId) : ∃ u, s.IoKept u ∧ u.bcu.bays.get b = s.bcu.bays.get b ∧
    (allNum4.foldl (State.deliverBay old) s).bcu.bays.get b = (State.deliverBay old u b).bcu.bays.get b ∧
    (State.deliverBay old u b).Told (allNum4.foldl (State.deliverBay old) s) := by
  obtain ⟨before, after, hsplit, hbefore, hafter⟩ := allNum4_split b
  refine ⟨before.foldl (State.deliverBay old) s, .foldl (State.deliverBay_io old) _ _,
    foldl_view (view := fun u : State => u.bcu.bays.get b)
      (fun u d hd => State.deliverBay_other old u fun h : b = d => hbefore (h ▸ hd)) s, ?_, ?_⟩
  · rw [hsplit, List.foldl_append, List.foldl_cons]
    exact foldl_view (view := fun u : State => u.bcu.bays.get b)
      (fun u d hd => State.deliverBay_other old u fun h : b = d => hafter (h ▸ hd)) _
  · rw [hsplit, List.foldl_append, List.foldl_cons]
    exact .foldl (State.deliverBay_told old) after _

end Deliver

/-- The bay after an input event: the new inputs, the latch, and a snapshot that freezes (R144, R146). -/
theorem State.bayEvent_takes {u : State} {b : BayId} {y : Bay} {i : BayInputs} (hy : u.bcu.bays.get b = some y) :
    ∃ z, (u.bayEvent b i).bcu.bays.get b = some z ∧ z.live = i ∧ z.mode = y.mode ∧ z.latch = y.latchedAt i ∧
      (y.frozen = true → z.snapshot = y.snapshot ∧ z.frozen = true) ∧
      (y.frozen = false → y.live ≠ i → z.snapshot = i ∧ z.frozen = true ∧
        ((u.bayEvent b i).fnu.notices.length < 32 →
          ∃ secure manned, .bayInputs b z.snapshot z.latch secure manned ∈ (u.bayEvent b i).fnu.notices)) := by
  by_cases hquiet : y.frozen = true ∨ y.live = i
  · rw [State.bayEvent_quiet hy hquiet]
    obtain ⟨z, hz, hfollows⟩ := State.bayDerived_bay
      (State.withBay_get (s := u) (b := b) (y := { y with live := i, latch := y.latchedAt i }))
    refine ⟨z, hz, ?_⟩
    rw [hfollows]
    exact ⟨rfl, rfl, rfl, fun hf => ⟨rfl, hf⟩, fun hf hi => (hquiet.elim (fun h => by simp [h] at hf) hi).elim⟩
  · obtain ⟨hf, hi⟩ := not_or.1 hquiet
    rw [State.bayEvent_moved hy (Bool.not_eq_true _ ▸ hf) hi]
    let y' : Bay := { y with live := i, latch := y.latchedAt i, snapshot := i, frozen := true }
    let told := (u.withBay b y').notify (.bayInputs b i (y.latchedAt i) y'.secure y'.manned)
    obtain ⟨z, hz, hfollows⟩ := State.bayDerived_bay (s := told) (b := b) (y := y') State.withBay_get
    refine ⟨z, hz, ?_⟩
    rw [hfollows]
    refine ⟨rfl, rfl, rfl, fun h => absurd h hf, fun _ _ => ⟨rfl, rfl, fun hroom => ⟨y'.secure, y'.manned, ?_⟩⟩⟩
    have hprefix : told.Told (told.bayDerived b) := State.bayDerived_told told b
    have hlen : told.fnu.notices.length < 32 := Nat.lt_of_le_of_lt hprefix.length_le hroom
    refine hprefix.subset ?_
    have hnotices : told.fnu.notices = (u.fnu.offer (.bayInputs b i (y.latchedAt i) y'.secure y'.manned)).notices := rfl
    rw [hnotices] at hlen ⊢
    unfold Fnu.offer at hlen ⊢
    split
    · exact List.mem_append_right _ List.mem_cons_self
    · next hfull =>
      rw [if_neg hfull] at hlen
      exact absurd hlen hfull

end Sys2Proof.Machine
end

section
/-! The settlement of O52: the input lines settle. -/

namespace Sys2Proof
open Machine

/-- Settles O52: the settling of a line, the levels of the functions, and what each consumer makes of a change. -/
theorem inputLinesSettle : Obligations.InputLinesSettle := by
  refine ⟨fun d f b => ⟨rfl, rfl⟩, fun a lines => ⟨fun h => ?_, fun h => ?_, fun k h => ?_⟩, fun before after => ?fires,
    fun s k high => ?_⟩
  · simp only [InAssign.level, h]
  · simp only [InAssign.level, h]
  · simp only [InAssign.level, h, Vector.getElem?_eq_getElem k.isLt]
  case fires => cases before <;> cases after <;> decide
  intro old lines
  refine ⟨fun h => ?same, fun h hl => ?returns, fun h hl hd => ?waits, fun h hl hd => ?atOnce, fun h => ?noPeriod,
    fun d h => ?settles, fun l h => ?config, fun l h => ?delivered, fun b y i hy => ?event⟩
  case same =>
    simp only [exec, execRawLineChange]
    exact if_pos h
  case returns =>
    simp only [exec, execRawLineChange]
    exact (if_neg h).trans (if_pos hl)
  case waits =>
    simp only [exec, execRawLineChange]
    exact (if_neg h).trans ((if_neg hl).trans (if_neg hd))
  case atOnce =>
    simp only [exec, execRawLineChange]
    exact (if_neg h).trans ((if_neg hl).trans (if_pos hd))
  case noPeriod =>
    have hnone : s.dio.lines[k.val].settling = none := h
    simp only [exec, execSettlingEnd, hnone]
  case settles =>
    have hsome : s.dio.lines[k.val].settling = some d := h
    simp only [exec, execSettlingEnd, hsome]
    rfl
  case config => exact if_pos h
  case delivered =>
    intro t new
    let s1 := s.setDio new
    let s2 := allNum4.foldl (State.deliverRef s.dio) s1
    let s3 := allRunways.foldl (State.deliverEstop s.dio) s2
    have ht : t = allNum4.foldl (State.deliverBay s.dio) s3 := State.deliver_eq s.dio s1 h
    have hio2 : s1.IoKept s2 := .foldl (State.deliverRef_io s.dio) _ _
    have hio3 : s1.IoKept s3 := hio2.trans (.foldl (State.deliverEstop_io s.dio) _ _)
    have hio : s1.IoKept t := hio3.trans (ht ▸ .foldl (State.deliverBay_io s.dio) _ _)
    have hbcu : s3.bcu = s.bcu := by
      refine (foldl_keeps _ State.bcu (fun u r => by simp only [State.deliverEstop_keeps]) _ _).trans ?_
      exact foldl_keeps _ State.bcu (fun u c => by simp only [State.deliverRef_keeps]) _ _
    refine ⟨hio.lines, hio.inputs, hio.outputs, fun b hsame => ?_, fun b y hy hdiff => ?_, fun r v hv hdiff => ?_,
      fun c m d x p hm hd hx hp hfires => ?_, ?_⟩
    · obtain ⟨u, hu, hbay, hfold, -⟩ := State.delivered_bay s.dio s3 b
      have hsame' : s.dio.bayInputs b = u.dio.bayInputs b := hsame.trans ((hio3.trans hu).bayInputs b).symm
      have hstays : State.deliverBay s.dio u b = u := if_pos hsame'
      rw [ht, hfold, hstays, hbay, hbcu]
    · obtain ⟨u, hu, hbay, hfold, htold⟩ := State.delivered_bay s.dio s3 b
      have hinputs : u.dio.bayInputs b = new.bayInputs b := (hio3.trans hu).bayInputs b
      have hevent : State.deliverBay s.dio u b = u.bayEvent b (new.bayInputs b) := by
        have hmoves : State.deliverBay s.dio u b = u.bayEvent b (u.dio.bayInputs b) :=
          if_neg fun heq => hdiff (heq.trans hinputs)
        rw [hmoves, hinputs]
      rw [hevent] at hfold htold
      obtain ⟨z, hz, hlive, hmode, hlatch, hkeeps, htakes⟩ :=
        State.bayEvent_takes (i := new.bayInputs b) (hbay.trans (by rw [hbcu, hy]))
      refine ⟨z, by rw [ht, hfold, hz], hlive, hmode, hlatch, hkeeps, fun hf hl => ?_⟩
      obtain ⟨hsnap, hfrozen, hnotice⟩ := htakes hf hl
      refine ⟨hsnap, hfrozen, fun hroom => ?_⟩
      rw [ht] at hroom ⊢
      obtain ⟨secure, manned, hmem⟩ := hnotice (Nat.lt_of_le_of_lt htold.length_le hroom)
      exact ⟨secure, manned, htold.subset hmem⟩
    · have hlevel : s2.dio.fnLevel (.estop r) = new.fnLevel (.estop r) := hio2.fnLevel _
      have hviews : t.rcu.views = s3.rcu.views := by
        rw [ht]
        refine foldl_keeps (State.deliverBay s.dio) (fun u : State => u.rcu.views) (fun u b => ?_) _ _
        unfold State.deliverBay
        split
        · rfl
        · exact State.bayEvent_views _ _ _
      rw [hviews] at hv
      rw [← hlevel] at hdiff ⊢
      exact State.delivered_estop s.dio s2 hv hdiff
    · obtain ⟨u, hu, hlsu, hlink, hfold⟩ := State.delivered_ref s.dio s1 c
      have hinputs : u.dio.inputs = s.dio.inputs := hu.inputs
      have hfires' : fires (u.dio.inputs.ref.get c).mode (s.dio.fnLevel (.ref c)) (u.dio.fnLevel (.ref c)) = true := by
        rw [hinputs, hu.fnLevel]
        exact hfires
      have hevent : State.deliverRef s.dio u c = u.refEvent c := if_pos hfires'
      have hlinks : t.links = s2.links := by
        rw [ht]
        refine (foldl_keeps _ State.links (fun u b => by simp only [State.deliverBay_keeps]) _ _).trans ?_
        exact foldl_keeps _ State.links (fun u r => by simp only [State.deliverEstop_keeps]) _ _
      obtain ⟨m', hm', href, hcorr⟩ := State.refEvent_of u (hlink.trans hm) (by rw [hlsu]; exact hp) hd hx
      exact ⟨m', by rw [hlinks, hfold, hevent, hm'], href, hcorr⟩
    · simp only [t, State.lineTakes_keeps, and_self]
  case event =>
    intro latch manned secure becomes
    refine ⟨fun hquiet => State.bayEvent_quiet hy hquiet, fun hf hi => ?_⟩
    rw [State.bayEvent_moved hy hf hi]
    have hsecure : (i.chocks && !i.driver && !i.curtain && !latch) = secure := by
      simp only [secure, manned, Bool.not_or, Bool.and_assoc]
    exact congrArg (fun x => ((becomes { y with live := i, latch := latch, snapshot := i, frozen := true }).notify
      (.bayInputs b i latch x manned)).bayDerived b) hsecure

end Sys2Proof
end

section
/-! SUPPORT. The byte layouts of Tables 11-13, 11-7 and 11-10: a number and its bytes, the code bytes of a
status record, and what a record read from its bytes is. -/

namespace Sys2Proof.Machine

/-! ## Numbers in bytes (R188) -/

@[simp] theorem toNat_byteOf (n : Nat) : (byteOf n).toNat = n % 256 := BitVec.toNat_ofNat n 8

@[simp] theorem byteOf_toNat (b : Byte) : byteOf b.toNat = b := BitVec.ofNat_toNat 8 b |>.trans (BitVec.setWidth_eq b)

theorem byteOf_of_toNat {b : Byte} {n : Nat} (h : b.toNat = n) : byteOf n = b := h ▸ byteOf_toNat b

theorem nat2_byteOf {n : Nat} (h : n ≤ 65535) : nat2 (byteOf (n / 256)) (byteOf n) = n := by
  simp only [nat2, toNat_byteOf]
  omega

theorem nat3_byteOf {n : Nat} (h : n ≤ 16777215) :
    nat3 (byteOf (n / 65536)) (byteOf (n / 256)) (byteOf n) = n := by
  simp only [nat3, nat2, toNat_byteOf]
  omega

theorem nat4_byteOf {n : Nat} (h : n ≤ 4294967295) :
    nat4 (byteOf (n / 16777216)) (byteOf (n / 65536)) (byteOf (n / 256)) (byteOf n) = n := by
  simp only [nat4, nat3, nat2, toNat_byteOf]
  omega

theorem nat2_lt (a b : Byte) : nat2 a b < 65536 := by
  have ha := a.isLt
  have hb := b.isLt
  unfold nat2
  omega

theorem nat3_lt (a b c : Byte) : nat3 a b c < 16777216 := by
  have ha := a.isLt
  have hbc := nat2_lt b c
  unfold nat3
  omega

theorem bytes2_nat2 (a b : Byte) : bytes2 (nat2 a b) = [a, b] := ((bytes2_eq_iff (nat2_lt a b)).mpr rfl).symm

theorem bytes3_nat3 (a b c : Byte) : bytes3 (nat3 a b c) = [a, b, c] := by
  have ha := a.isLt
  have hb := b.isLt
  have hc := c.isLt
  simp only [bytes3, nat3, nat2, List.cons.injEq, and_true, ← BitVec.toNat_inj, toNat_byteOf]
  omega

theorem bytes4_nat4 (a b c d : Byte) : bytes4 (nat4 a b c d) = [a, b, c, d] := by
  have ha := a.isLt
  have hb := b.isLt
  have hc := c.isLt
  have hd := d.isLt
  simp only [bytes4, bytes3, nat4, nat3, nat2, List.cons.injEq, and_true, ← BitVec.toNat_inj, toNat_byteOf]
  omega

/-- A signed number in range comes back from its two's complement. -/
theorem toSigned_ofSigned {half : Nat} {v : Int} (hlo : -(half : Int) ≤ v) (hhi : v < half) :
    toSigned half (ofSigned half v) = v := by
  unfold toSigned ofSigned
  rcases lt_or_ge v 0 with hneg | hpos
  · have hmod : v % (2 * (half : Int)) = v + 2 * half := by
      rw [← Int.add_emod_right]
      exact Int.emod_eq_of_lt (by omega) (by omega)
    rw [hmod, if_neg (by omega)]
    omega
  · rw [Int.emod_eq_of_lt hpos (by omega), if_pos (by omega)]
    omega

theorem ofSigned_toSigned {half n : Nat} (h : n < 2 * half) : ofSigned half (toSigned half n) = n := by
  unfold toSigned ofSigned
  split
  next => rw [Int.emod_eq_of_lt (by omega) (by omega), Int.toNat_natCast]
  next =>
    rw [← Int.add_emod_right, Int.emod_eq_of_lt (by omega) (by omega)]
    omega

theorem ofSigned_lt {half : Nat} (h : 0 < half) (v : Int) : ofSigned half v < 2 * half := by
  have hlo := Int.emod_nonneg v (b := 2 * (half : Int)) (by omega)
  have hhi := Int.emod_lt_of_pos v (b := 2 * (half : Int)) (by omega)
  unfold ofSigned
  omega

/-- A CRC fits its two bytes. -/
theorem crc16_le (bs : List Byte) : (crc16 bs).toNat ≤ 65535 := Nat.le_of_lt_succ (crc16 bs).isLt

/-! ## The code bytes of a status record -/

theorem grabOf_grabCode (g : Grab) : grabOf (grabCode g) = some g := by cases g <;> rfl

theorem phaseOf_phaseCode (p : PhaseReport) : phaseOf (phaseCode p) = some p := by cases p <;> rfl

theorem driveOf_toNat (d : Bool) : driveOf d.toNat = some d := by cases d <;> rfl

theorem grabCode_of {n : Nat} {g : Grab} (h : grabOf n = some g) : grabCode g = n := by
  unfold grabOf at h
  split at h <;> cases h <;> rfl

theorem phaseCode_of {n : Nat} {p : PhaseReport} (h : phaseOf n = some p) : phaseCode p = n := by
  unfold phaseOf at h
  split at h <;> cases h <;> rfl

theorem toNat_of_driveOf {n : Nat} {d : Bool} (h : driveOf n = some d) : d.toNat = n := by
  unfold driveOf at h
  split at h <;> cases h <;> rfl

theorem grabCode_lt (g : Grab) : grabCode g < 256 := by cases g <;> decide

theorem phaseCode_lt (p : PhaseReport) : phaseCode p < 256 := by cases p <;> decide

theorem numVal_lt (c : CraneId) : numVal c < 256 := by cases c <;> decide

/-! ## Status records (Table 11-13) -/

/-- A status record in range comes back from its bytes. -/
theorem decodeStatus_encodeStatus (c : CraneId) {r : StatusRec} (hr : r.inRange = true)
    (hlo : -8388608 ≤ r.count) (hhi : r.count ≤ 8388607) (htask : r.task ≤ 65535) :
    decodeStatus c (encodeStatus c r) = some r := by
  have hrange := hr
  simp only [StatusRec.inRange, Bool.and_eq_true, decide_eq_true_eq] at hrange
  obtain ⟨⟨⟨⟨hraw, hvlo⟩, hvhi⟩, hy⟩, hh⟩ := hrange
  have hspeed := ofSigned_lt (half := 32768) (by decide) r.v
  have hcount := ofSigned_lt (half := 8388608) (by decide) r.count
  have hgrab : grabOf (byteOf (grabCode r.grab)).toNat = some r.grab := by
    rw [toNat_byteOf, Nat.mod_eq_of_lt (grabCode_lt _), grabOf_grabCode]
  have hphase : phaseOf (byteOf (phaseCode r.phase)).toNat = some r.phase := by
    rw [toNat_byteOf, Nat.mod_eq_of_lt (phaseCode_lt _), phaseOf_phaseCode]
  have hdrive : driveOf (byteOf r.driveFault.toNat).toNat = some r.driveFault := by
    rw [toNat_byteOf, Nat.mod_eq_of_lt (r.driveFault.toNat_lt.trans (by decide)), driveOf_toNat]
  have hcrane : (byteOf (numVal c)).toNat = numVal c := by
    rw [toNat_byteOf, Nat.mod_eq_of_lt (numVal_lt c)]
  simp only [encodeStatus, statusBody, bytes2, bytes3, List.cons_append, List.nil_append, decodeStatus, hgrab,
    hphase, hdrive, hcrane, nat3_byteOf (hraw.trans (by decide : 262143 ≤ 16777215)),
    nat2_byteOf (hy.trans (by decide : 40000 ≤ 65535)), nat2_byteOf (hh.trans (by decide : 15000 ≤ 65535)),
    nat2_byteOf htask, nat2_byteOf (Nat.le_of_lt_succ hspeed), nat3_byteOf (Nat.le_of_lt_succ hcount),
    nat2_byteOf (crc16_le _), true_and,
    toSigned_ofSigned (half := 32768) (v := r.v) (by omega) (by omega),
    toSigned_ofSigned (half := 8388608) (v := r.count) (by omega) (by omega)]
  exact if_pos hr

/-- Bytes that are taken as a status record are those of the record they give. -/
theorem eq_encodeStatus_of_decodeStatus {c : CraneId} {bytes : List Byte} {r : StatusRec}
    (h : decodeStatus c bytes = some r) : bytes = encodeStatus c r := by
  unfold decodeStatus at h
  split at h
  next n r2 r1 r0 v1 v0 y1 y0 h1 h0 k2 k1 k0 g p t1 t0 d c1 c0 =>
    dsimp only at h
    split at h
    next grab phase drive hgrab hphase hdrive =>
      obtain ⟨⟨hcrc, hcrane, -⟩, hr⟩ := Option.ite_none_right_eq_some.mp h
      cases hr
      have hbody : statusBody c
          { raw := nat3 r2 r1 r0, v := toSigned 32768 (nat2 v1 v0), y := nat2 y1 y0, h := nat2 h1 h0
            count := toSigned 8388608 (nat3 k2 k1 k0), grab := grab, phase := phase
            task := nat2 t1 t0, driveFault := drive } =
          [n, r2, r1, r0, v1, v0, y1, y0, h1, h0, k2, k1, k0, g, p, t1, t0, d] := by
        simp only [statusBody, ofSigned_toSigned (half := 32768) (nat2_lt v1 v0),
          ofSigned_toSigned (half := 8388608) (nat3_lt k2 k1 k0), bytes2_nat2, bytes3_nat3,
          byteOf_of_toNat hcrane, byteOf_of_toNat (grabCode_of hgrab).symm,
          byteOf_of_toNat (phaseCode_of hphase).symm, byteOf_of_toNat (toNat_of_driveOf hdrive).symm,
          List.cons_append, List.nil_append]
      rw [encodeStatus, hbody, ← hcrc, bytes2_nat2]
      rfl
    next => cases h
  next => cases h

/-! ## TASK-SUBMIT (Table 11-7) -/

theorem eq_encodeSubmit_of_decodeSubmit {bytes : List Byte} {t : TaskSubmit} (h : decodeSubmit bytes = some t) :
    bytes = encodeSubmit t := by
  unfold decodeSubmit at h
  split at h
  next =>
    cases h
    simp only [encodeSubmit, bytes2_nat2, bytes4_nat4, byteOf_toNat, List.cons_append, List.nil_append]
  next => cases h

/-! ## Host frames (Table 11-10) -/

/-- Bytes that are judged a good frame are those of the frame they give (R182). -/
theorem eq_hostFrame_of_judgeFrame {got : List Byte} {f : RawFrame} (h : judgeFrame got = .good f) :
    0xA5 :: got = hostFrame f.kind f.tag f.body := by
  unfold judgeFrame at h
  split at h
  next kind tag n rest =>
    split at h
    next => cases h
    next hmax =>
      split at h
      next => cases h
      next hlen =>
        dsimp only at h
        split at h
        next hcrc =>
          cases h
          have hn : byteOf (rest.take n.toNat).length = n := by
            rw [List.length_take, Nat.min_eq_left (by omega), byteOf_toNat]
          have hrest := List.take_append_drop n.toNat rest
          simp only [hostFrame, framePayload, hn, ← hcrc, List.cons_append, hrest]
          rfl
        next => cases h
  next => cases h

/-! ## Frames and records that are sent -/

theorem destBytes_length (d : Dest) : (destBytes d).length = 4 :=
  match d with
  | .place (.slot _) => rfl
  | .place (.cradle _ _) => rfl
  | .auto => rfl

theorem taskStateBody_length (n : TaskNotice) : (taskStateBody n).length = 15 := by
  cases hhold : n.hold <;>
    simp only [taskStateBody, hhold, List.length_append, List.length_cons, List.length_nil, bytes2, bytes4, bytes3,
      destBytes_length]

end Sys2Proof.Machine

namespace Sys2Proof

open Machine

/-- Settles O56: each layout is read back byte by byte; a number in range and its bytes spell each other. -/
theorem recordsSurviveTheirBytes : Obligations.RecordsSurviveTheirBytes :=
  ⟨fun c _ hr hlo hhi ht => decodeStatus_encodeStatus c hr hlo hhi ht,
   fun _ _ _ h => eq_encodeStatus_of_decodeStatus h,
   fun t ht hc hk hsk hsn hsc hdk hdn hdc => by
    have hbyte {n : Nat} (hn : n ≤ 255) : n % 256 = n := Nat.mod_eq_of_lt (Nat.lt_succ_of_le hn)
    simp only [encodeSubmit, bytes2, bytes4, bytes3, List.cons_append, List.nil_append, decodeSubmit,
      nat2_byteOf ht, nat2_byteOf hsn, nat2_byteOf hdn, nat4_byteOf hk, toNat_byteOf, hbyte hc, hbyte hsk,
      hbyte hsc, hbyte hdk, hbyte hdc],
   fun _ _ h => eq_encodeSubmit_of_decodeSubmit h,
   fun kind tag body hb =>
    (Receiver.feedHost_whole hb).trans (if_pos (nat2_byteOf (crc16_le _))),
   fun _ _ _ _ h => eq_hostFrame_of_judgeFrame h,
   fun _ _ _ => rfl,
   fun n => ⟨taskStateBody n, taskStateBody_length n, rfl⟩,
   fun c r => ⟨by cases hr : r.order <;> simp only [encodeCommand, commandBody, hr, orderCode] <;> rfl, rfl⟩,
   rfl, rfl, rfl, rfl, rfl, rfl, rfl, rfl⟩

end Sys2Proof
end

section
/-! SUPPORT. The requests of the discrete I/O unit, what its signals say, and a beacon given to the flags of its
crane or judged when its stretch ends (09). -/

namespace Sys2Proof.Machine

variable {s : State}

/-! ## Assignments (R168, R170) -/

theorem isRunEnable_iff {g : Signal} : isRunEnable g = true ↔ ∃ c, g = .runEnable c := by
  cases g <;> simp [isRunEnable]

theorem energises_iff {m : OutputMode} : energises m = true ↔ m = .on ∨ m = .inverted := by
  cases m <;> simp [energises]

theorem isEventFn_iff {f : InputFn} : isEventFn f = true ↔ ∃ c, f = .ref c := by
  cases f <;> simp [isEventFn]

theorem modeFits_iff {f : InputFn} {m : InputMode} :
    modeFits f m = true ↔ (m = .level ↔ isEventFn f = false) := by
  cases m <;> simp [modeFits]

theorem signal?_of (g : Fin 14) : signal? g.val = some allSignals[g.val] := List.getElem?_eq_getElem g.isLt

theorem ownInputAssign_of {f : InputFn} {n : Nat} {invert : Bool} {m : InputMode} (hn : n ≤ 33)
    (hm : modeFits f m = true) :
    ownInputAssign s ⟨.known f, n, .known invert, .known m⟩ =
      .ok (s.setInputs (s.dio.inputs.set f ⟨n, invert, m⟩),
        .inputAssigned f ⟨n, invert, m⟩ ((⟨n, invert, m⟩ : InAssign).level s.dio.lines)) := by
  simp only [ownInputAssign, readCoded_known, except_ok_bind, within_of_le (Nat.zero_le n) hn, hm, require_true]

theorem ownOutputAssign_refused {line : Nat} {g : Fin 14} {m : OutputMode} (hline : line ≤ 15)
    (hg : ∃ c, allSignals[g.val] = .runEnable c) (hm : m = .on ∨ m = .inverted) :
    ownOutputAssign s ⟨line, g.val, .known m⟩ = .error ⟨.unsafeOutput, line⟩ := by
  simp only [ownOutputAssign, within_of_le (Nat.zero_le line) hline, require_true, except_ok_bind, signal?_of,
    requireSome_some, readCoded_known, isRunEnable_iff.2 hg, energises_iff.2 hm, Bool.and_self, Bool.not_true,
    require_false, except_error_bind]

theorem ownOutputAssign_safe {line : Nat} {g : Fin 14} {m : OutputMode} (hline : line ≤ 15)
    (hsafe : (∀ c, allSignals[g.val] ≠ .runEnable c) ∨ m ≠ .on ∧ m ≠ .inverted) :
    ownOutputAssign s ⟨line, g.val, .known m⟩ =
      .ok (s.setDio (s.dio.setOutput line ⟨allSignals[g.val], m⟩),
        .outputAssigned line ⟨allSignals[g.val], m⟩ (s.drive ⟨allSignals[g.val], m⟩)) := by
  have hpass : (!(isRunEnable allSignals[g.val] && energises m)) = true := by
    rw [Bool.not_eq_true', Bool.and_eq_false_iff, ← Bool.not_eq_true, ← Bool.not_eq_true, isRunEnable_iff,
      energises_iff, not_exists, not_or]
    exact hsafe
  simp only [ownOutputAssign, within_of_le (Nat.zero_le line) hline, require_true, except_ok_bind, signal?_of,
    requireSome_some, readCoded_known, hpass]

/-! ## Beacons (R171, R172) -/

theorem Beacon.toAuto_keeps (b : Beacon) (anySet : Bool) (now stretch : Nat) :
    (b.toAuto anySet now stretch).mode = .auto ∧
      (b.toAuto anySet now stretch).hostLevel = b.hostLevel := by
  cases hm : b.mode <;> simp only [Beacon.toAuto, hm]
  · exact ⟨trivial, trivial⟩
  · split
    · exact Beacon.onSet_keeps _ _ _
    · exact ⟨rfl, rfl⟩

/-- A beacon in AUTO stays as it is. -/
theorem Beacon.toAuto_of_auto {b : Beacon} (h : b.mode = .auto) (anySet : Bool) (now stretch : Nat) :
    b.toAuto anySet now stretch = b := by
  simp only [Beacon.toAuto, h]

theorem Beacon.onSet_on_of_auto {b : Beacon} (h : b.mode = .auto) (now stretch : Nat) :
    (b.onSet now stretch).on = true := by
  simp only [Beacon.onSet, h]
  split
  next hon => exact hon
  next => rfl

/-- A beacon that the host gives back is on while a flag of its crane is set. -/
theorem Beacon.toAuto_on_of_host {b : Beacon} (h : b.mode = .host) (anySet : Bool) (now stretch : Nat) :
    (b.toAuto anySet now stretch).on = anySet := by
  simp only [Beacon.toAuto, h]
  cases anySet with
  | true => exact (congrArg Beacon.on (if_pos rfl)).trans (Beacon.onSet_on_of_auto rfl now stretch)
  | false => exact congrArg Beacon.on (if_neg Bool.false_ne_true)

/-- A beacon whose stretch has ended goes off in AUTO with no flag set. -/
theorem Beacon.judge_stretchEnded (b : Beacon) (anySet : Bool) :
    ({ b with stretch := none } : Beacon).judge anySet =
      { b with stretch := none, on := if b.mode = .auto ∧ anySet = false then false else b.on } := by
  cases b.mode <;> cases anySet <;> simp [Beacon.judge]

/-! ## Output signals (Table 9-2) -/

theorem State.signal_runEnable_iff {c : CraneId} :
    s.signal (.runEnable c) = true ↔ ∃ k, s.rcu.cranes.get c = some k ∧ k.runEnable = true := by
  cases h : s.rcu.cranes.get c <;> simp [State.signal, h]

theorem State.signal_gateLock_iff {b : BayId} :
    s.signal (.gateLock b) = true ↔ ∃ y, s.bcu.bays.get b = some y ∧ y.state = .working := by
  cases h : s.bcu.bays.get b <;> simp [State.signal, h]

theorem State.signal_yardRun_iff : s.signal .yardRun = true ↔ s.lsu.stage = .run := by
  simp only [State.signal, beq_iff_eq]

end Sys2Proof.Machine

namespace Sys2Proof

open Machine

/-- Settles O53: each request's own test is passed or names the output it refuses; the beacon of AUTO is the one that
`Beacon.toAuto` gives. -/
theorem linesAndBeacons : Obligations.LinesAndBeacons := by
  refine ⟨fun tag f n invert m s s0 hn hm ha => ?input, fun tag line g m s s0 hline ha => ⟨fun hg hm => ?energised,
      fun hsafe => ?safe⟩, fun tag c level s s0 ha => ?host, fun tag c level s s0 ha => ?auto,
    fun s c hnone => ?noStretch, fun s c d hd => ?stretch, rfl,
    fun s c b => ⟨State.signal_runEnable_iff, rfl, State.signal_gateLock_iff, rfl, State.signal_yardRun_iff,
      s.fnu.craneSet_iff c⟩,
    fun _ _ => ⟨rfl, rfl, rfl, rfl, rfl⟩, fun _ _ => ⟨isEventFn_iff, modeFits_iff⟩⟩
  case input => exact congrArg Host.Outcome.next (State.serve_ack noSelector ha (ownInputAssign_of hn hm))
  case energised =>
    exact congrArg Host.Outcome.next (State.serve_nak noSelector ha (ownOutputAssign_refused hline hg hm))
  case safe => exact congrArg Host.Outcome.next (State.serve_ack noSelector ha (ownOutputAssign_safe hline hsafe))
  case host =>
    refine congrArg Host.Outcome.next (State.serve_ack noSelector ha ?_)
    simp only [ownBeaconSet, readNum_numVal, readCoded_known, except_ok_bind]
    rfl
  case auto =>
    have hkeeps := (s0.dio.beacons.get c).toAuto_keeps (s0.fnu.craneSet c) s0.now s0.lsu.settings.beaconStretch
    refine ⟨_, congrArg Host.Outcome.next (State.serve_ack noSelector ha ?_), hkeeps.1, hkeeps.2,
      fun hauto => Beacon.toAuto_of_auto hauto _ _ _, fun hhost => ?_⟩
    · simp only [ownBeaconSet, readNum_numVal, readCoded_known, except_ok_bind, Beacon.ack, hkeeps]
      rfl
    · rw [Beacon.toAuto_on_of_host hhost, Fnu.craneSet_iff]
  case noStretch => simp only [exec, execStretchExpiry, hnone]
  case stretch =>
    simp only [exec, execStretchExpiry, hd]
    exact congrArg (fun b => Host.Outcome.next ((s.reach d).setBeacon c b))
      (Beacon.judge_stretchEnded (s.dio.beacons.get c) (s.fnu.craneSet c))

end Sys2Proof
end
